-- ==== Sys2Proof/Word.lean ====
section
/-! DEFINITION. The word types of the LT300's byte layouts and the plainest arithmetic the manual's words name:
"ceil", a value held within a range, and a counter that saturates. -/

namespace Sys2Proof

/-- One byte of a port frame, an item or a line frame. -/
abbrev Byte := BitVec 8
/-- A field of two bytes. -/
abbrev Word16 := BitVec 16
/-- A field of four bytes that is no address (a calendar second, a serial). -/
abbrev Word32 := BitVec 32
/-- A unit address: 32 bits (00_scope, Conventions, Addresses and codes). -/
abbrev Address := BitVec 32

/-- "ceil" of a quotient of whole numbers (00_scope, Conventions, Rounding). -/
def divUp (a b : Nat) : Nat := (a + (b - 1)) / b

/-- A value held within `lo` to `hi`: raised to the lowest if below it, lowered to the highest if above it. -/
def holdWithin (lo hi v : Nat) : Nat := if v < lo then lo else if hi < v then hi else v

/-- A counter raised by one that stays at `cap` once it has reached it. -/
def saturatingSucc (cap n : Nat) : Nat := if n < cap then n + 1 else n

/-- A counter raised by one that goes from `cap` to 0. -/
def wrappingSucc (cap n : Nat) : Nat := if n < cap then n + 1 else 0

end Sys2Proof
end

