-- ==== Sys2Proof/Config.lean ====
section
/-! DEFINITION. The fixed figures of the part, each with the rule that gives it, and the free values: constants with no
body for what the manual leaves open (no proof can see what they are). -/

namespace Sys2Proof.Config

/-- The greatest number of items of an out-queue (R169). -/
def outQueueItems : Nat := 16
/-- The greatest number of notices of an out-queue (R169). -/
def outQueueNotices : Nat := 15
/-- The places of a command FIFO (R167). -/
def fifoPlaces : Nat := 4
/-- The most bytes a command frame holds (R167). -/
def frameBytes : Nat := 64
/-- The greatest value of the counters of two bytes. -/
def counterTop : Nat := 65535
/-- The places of a ping queue (R90). -/
def pingPlaces : Nat := 8
/-- The places of a split stack (R117). -/
def splitPlaces : Nat := 8
/-- The places of a registration list (R126). -/
def registrationPlaces : Nat := 4
/-- The most items of a field-pending list that let another join (R62, R113). -/
def fieldPlaces : Nat := 4
/-- The length of the unconfirmed list (R78). -/
def unconfirmedPlaces : Nat := 16
/-- How far ahead an activation may lie, in ms (R10 test 2). -/
def activationHorizon : Nat := 604800000
/-- The least interval of an accepted crossing, in µs (R156). -/
def crossingLow : Nat := 7000
/-- The greatest in-range interval, in µs (R156). -/
def crossingHigh : Nat := 12000
/-- The in-range intervals that declare a phase PRESENT (R157). -/
def declareRun : Nat := 8
/-- The intervals a phase's history holds (R156). -/
def historyPlaces : Nat := 16
/-- The time without a crossing that declares a phase ABSENT, in µs (R158). -/
def lossMicros : Nat := 40000
/-- The range of the planning frequency, in cHz (R160). -/
def planFrequencyLow : Nat := 4500
/-- The range of the planning frequency, in cHz (R160). -/
def planFrequencyHigh : Nat := 6500
/-- The last second of the calendar clock (R162). -/
def lastSecond : Nat := 4294967295
/-- The last millisecond count of the calendar clock (R162). -/
def lastMillis : Nat := 4294967295999
/-- The start level of the level controllers (R138). -/
def startLevel : Nat := 40
/-- The samples of a level window (R139). -/
def levelWindow : Nat := 8
/-- The system code of a part that has none (R186). -/
def unsetCode : Word16 := 0xFFFF
/-- The filler the part shifts out (section 13.2). -/
def filler : Byte := 0xFF

/-- The calendar entries of a layout (R178). -/
def calendarCapacity (layout : Nat) : Nat :=
  match layout with
  | 0 => 64
  | 1 => 128
  | _ => 192

/-- The roster units of a layout (R178). -/
def rosterCapacity (layout : Nat) : Nat :=
  match layout with
  | 0 => 640
  | 1 => 512
  | _ => 384

/-- FREE VALUE (log 4): the byte shifted out with an unknown kind byte; R166 states the filler for the remaining bytes
only. -/
opaque ignoredKindByte : Nat → Byte

/-- FREE VALUE (log 3): whether, of a held notice and a frame that both wait for one place, the frame is taken first;
R172 gives the outcome of either order and states no order. -/
opaque frameFirst : Nat → Bool

end Sys2Proof.Config
end

