-- ==== Sys2Proof/Syntax.lean ====
section
/-! DEFINITION. The commands of the block: one constructor for each row of spec/opcode_table.json, with its operands.
A client command carries the port it comes from, its tag and its parameters as the bytes of its frame give them
(R195), so that a value out of range reaches the rule that refuses it.
An event of the line, the mains, the clock or the store carries what the outside world contributes to it. -/

namespace Sys2Proof

/-- The three phases; phase Ln is served by channel n (00_scope, Names). -/
inductive Phase where
  | L1 | L2 | L3
deriving DecidableEq, Repr

/-- The two client ports. -/
inductive Port where
  | A | B
deriving DecidableEq, Repr

/-- A route parameter: a count byte, then three roster indices, the places beyond the count unread (R195). -/
structure RouteArg where
  count : Byte
  hop1 : Word16
  hop2 : Word16
  hop3 : Word16
deriving DecidableEq, Repr

/-- A groups-list parameter: a count byte, then four group bytes, the places beyond the count unread (R195). -/
structure GroupsArg where
  count : Byte
  g1 : Byte
  g2 : Byte
  g3 : Byte
  g4 : Byte
deriving DecidableEq, Repr

/-- The parameters of SUBMIT in the order of its layout (R10, R195). -/
structure SubmitArgs where
  group : Byte
  action : Byte
  duration : Byte
  activation : Word32
  expiry : Option Word32
  cls : Byte
  confirm : Bool
deriving DecidableEq, Repr

/-- The parameters of SET PARAMETER (R181, R195). -/
structure ParameterArgs where
  parameter : Byte
  channel : Byte
  value : Word16
deriving DecidableEq, Repr

/-- The parameters of ADD UNIT (R105). -/
structure AddUnitArgs where
  address : Address
  phase : Byte
  groups : GroupsArg
  relayCapable : Bool
  route : RouteArg
deriving DecidableEq, Repr

/-- The parameters of EDIT UNIT: each field given or unchanged (R106). -/
structure EditUnitArgs where
  index : Word16
  route : Option RouteArg
  groups : Option GroupsArg
  pinned : Option Bool
  relayCapable : Option Bool
deriving DecidableEq, Repr

/-- One frame a channel's receiver hears: the body bytes it decoded, and the level of the body above the ROBUST
threshold in quarter-decibels, rounded down, before the limits of R130. Carrier that decodes to nothing is a frame
of no bytes. -/
structure HeardFrame where
  bytes : List Byte
  uplink : Int
deriving DecidableEq, Repr

/-- A frame heard in a reply window of a probe: the slots from the frame's end to the window's end, and the milliseconds
from the one to the other. -/
structure WindowFrame where
  frame : HeardFrame
  slots : Nat
  ago : Nat
deriving DecidableEq, Repr

/-- The levels of two lines as a select line is asserted: the clock line, resting high (mode 3) or low (mode 0) (R166), and
the reset pin, asserted or not (R177). -/
structure SelectLines where
  clockHigh : Bool
  inReset : Bool
deriving DecidableEq, Repr

/-- The commands of the block. Each constructor is one row of the table. -/
inductive Instr where
  /-- Supply is applied; each flag says that the image found in the store fails its check though its last write had
  succeeded (it "has decayed", section 11.4). -/
  | powerOn (settingsDecayed rosterDecayed : Bool)
  /-- The reset pin is asserted; the flags as for `powerOn`. -/
  | pinReset (settingsDecayed rosterDecayed : Bool)
  /-- Select is released after a COMMAND kind byte and these bytes. -/
  | commandTransfer (p : Port) (bytes : List Byte)
  /-- Select is released after a FETCH kind byte, with `count` further bytes shifted out beyond the count byte. -/
  | fetchTransfer (p : Port) (count : Nat)
  /-- Select is released after another kind byte and `count` further bytes. -/
  | ignoredTransfer (p : Port) (kind : Byte) (count : Nat)
  | frameRefused (p : Port)
  | heldNoticeQueued (p : Port)
  | submit (p : Port) (tag : Byte) (a : SubmitArgs)
  | cancel (p : Port) (tag : Byte) (handle : Word16)
  | readEntry (p : Port) (tag : Byte) (handle : Word16)
  | listEntries (p : Port) (tag : Byte) (position : Byte)
  | runLine (p : Port) (tag : Byte)
  | holdLine (p : Port) (tag : Byte)
  | releaseLine (p : Port) (tag : Byte)
  | applyProfile (p : Port) (tag : Byte) (profile : Byte)
  | setParameter (p : Port) (tag : Byte) (a : ParameterArgs)
  | setGroupPermit (p : Port) (tag : Byte) (group permit : Byte)
  | setQuota (p : Port) (tag : Byte) (layout quotaA quotaB : Byte)
  | addUnit (p : Port) (tag : Byte) (a : AddUnitArgs)
  | editUnit (p : Port) (tag : Byte) (a : EditUnitArgs)
  | retireUnit (p : Port) (tag : Byte) (index : Word16)
  | readUnit (p : Port) (tag : Byte) (index : Word16)
  | readNext (p : Port) (tag : Byte) (restart : Bool)
  | findUnit (p : Port) (tag : Byte) (address : Address)
  | pingUnit (p : Port) (tag : Byte) (index : Word16) (register : Bool)
  | readGroup (p : Port) (tag : Byte) (group : Byte)
  | startDiscovery (p : Port) (tag : Byte)
  | stopDiscovery (p : Port) (tag : Byte)
  | readDiscovery (p : Port) (tag : Byte)
  | readLevel (p : Port) (tag : Byte) (channel : Byte)
  | setTestMask (p : Port) (tag : Byte) (channel : Byte) (mask : Word16)
  | setTime (p : Port) (tag : Byte) (seconds : Word32) (millis : Word16)
  | readTime (p : Port) (tag : Byte)
  | saveSettings (p : Port) (tag : Byte)
  | saveRoster (p : Port) (tag : Byte)
  | writeSystemCode (p : Port) (tag : Byte) (code : Word16)
  | readIdentity (p : Port) (tag : Byte)
  | readSettings (p : Port) (tag : Byte)
  | readFaults (p : Port) (tag : Byte)
  | clearFaults (p : Port) (tag : Byte) (generation : Word16) (kinds : Byte)
  | startSurvey (p : Port) (tag : Byte) (channel : Byte) (slots : Word16)
  | readSurvey (p : Port) (tag : Byte) (channel : Byte)
  | status (p : Port) (tag : Byte)
  | resetPort (p : Port) (tag : Byte)
  /-- The detector reports a crossing `micros` microseconds into the present millisecond of elapsed time; `noise` is
  the received level over the slot the crossing ends, in quarter-decibels above the receiver's noise floor, rounded
  down, before the limits of R190; `bufferBad` says that the channel's check of a transmit buffer it loads at this
  crossing fails (R59). -/
  | zeroCrossing (ph : Phase) (micros : Nat) (noise : Int) (bufferBad : Bool)
  | phaseLoss (ph : Phase)
  | secondBoundary
  | esReached (handle : Nat) (ph : Phase)
  | lsReached (handle : Nat) (ph : Phase)
  | floodEnd (ph : Phase)
  | repeatGapEnd (ph : Phase)
  | outboundSpanEnd (ph : Phase)
  /-- The channel of `ph` has received a frame whole. -/
  | replyReceived (ph : Phase) (heard : HeardFrame)
  | silencePoint (ph : Phase)
  /-- A reply window of the probe ends, and this is every frame that ended in it, in order. -/
  | probeWindowEnd (ph : Phase) (heard : List WindowFrame)
  | restEnd (ph : Phase)
  | eraseEnd
  /-- The write and read-back of the save end; `matched` is the result of the read-back. -/
  | writeEnd (matched : Bool)
  /-- The port's select line is asserted, the clock line and the reset pin standing so. -/
  | selectAsserted (p : Port) (lines : SelectLines)
deriving DecidableEq, Repr

end Sys2Proof
end

