-- ==== Sys2Proof/Decode.lean ====
section
/-! DEFINITION. Reading and spelling a command frame (R168, R195): the byte-order helpers, the envelope tests, the
parameters of each command, and beside them the frame that spells each client command.
spec/opcode_table.json gives no row any bits, so `decodeTableWord` answers none. -/

namespace Sys2Proof

/-- The command a word spells by the table's bits: the table gives no row any bits. -/
def decodeTableWord (_nbits _w : Nat) : Option Instr := none

/-- The two bytes of a number, most significant first (R193). -/
def be16 (v : Word16) : List Byte := [v.extractLsb' 8 8, v.extractLsb' 0 8]

/-- The four bytes of a number, most significant first (R193). -/
def be32 (v : Word32) : List Byte :=
  [v.extractLsb' 24 8, v.extractLsb' 16 8, v.extractLsb' 8 8, v.extractLsb' 0 8]

/-- The number two bytes spell. -/
def word16 (hi lo : Byte) : Word16 := hi ++ lo

/-- The number four bytes spell. -/
def word32 (b3 b2 b1 b0 : Byte) : Word32 := b3 ++ b2 ++ b1 ++ b0

/-- The byte of a flag (R195). DESIGN CHOICE (log 10): the part itself sends 01h for a set flag. -/
def flagByte (b : Bool) : Byte := if b then 1 else 0

/-- A flag byte: 00h clear, any other value set (R195). -/
def readFlag (b : Byte) : Bool := b != 0

/-- The sum of a frame's bytes modulo 256, which a good check makes 0 (R195). -/
def byteSum : List Byte → Byte
  | [] => 0
  | b :: bs => b + byteSum bs

/-- The check byte that makes the sum 0 (R195). -/
def checkByte (bs : List Byte) : Byte := 0 - byteSum bs

/-- A frame from its code, tag and parameters: length, code, tag, parameters, check (R195). -/
def commandFrame (code tag : Byte) (params : List Byte) : List Byte :=
  let body := BitVec.ofNat 8 (params.length + 4) :: code :: tag :: params
  body ++ [checkByte body]

/-- A field that may be absent, of four bytes: a presence byte, then the value or zeros (R193, R195). -/
def optional32 : Option Word32 → List Byte
  | none => [0, 0, 0, 0, 0]
  | some v => 1 :: be32 v

/-- The seven bytes of a route. -/
def routeBytes (r : RouteArg) : List Byte := r.count :: be16 r.hop1 ++ be16 r.hop2 ++ be16 r.hop3

/-- The five bytes of a groups list. -/
def groupsBytes (g : GroupsArg) : List Byte := [g.count, g.g1, g.g2, g.g3, g.g4]

/-- A field given or unchanged: a presence byte, then the field at full width (R195). -/
def givenBytes {α : Type} (width : Nat) (f : α → List Byte) : Option α → List Byte
  | none => 0 :: List.replicate width 0
  | some v => 1 :: f v

/-- The port, command code, tag and parameter bytes of a client command; none for every other command. -/
def clientCommand : Instr → Option (Port × Byte × Byte × List Byte)
  | .submit p tag a =>
      some (p, 0x01, tag, [a.group, a.action, a.duration] ++ be32 a.activation ++ optional32 a.expiry ++
        [a.cls, flagByte a.confirm])
  | .cancel p tag handle => some (p, 0x02, tag, be16 handle)
  | .readEntry p tag handle => some (p, 0x03, tag, be16 handle)
  | .listEntries p tag position => some (p, 0x04, tag, [position])
  | .runLine p tag => some (p, 0x05, tag, [])
  | .holdLine p tag => some (p, 0x06, tag, [])
  | .releaseLine p tag => some (p, 0x07, tag, [])
  | .applyProfile p tag profile => some (p, 0x08, tag, [profile])
  | .setParameter p tag a => some (p, 0x09, tag, [a.parameter, a.channel] ++ be16 a.value)
  | .setGroupPermit p tag group permit => some (p, 0x0A, tag, [group, permit])
  | .setQuota p tag layout qa qb => some (p, 0x0B, tag, [layout, qa, qb])
  | .addUnit p tag a =>
      some (p, 0x0C, tag, be32 a.address ++ [a.phase] ++ groupsBytes a.groups ++ [flagByte a.relayCapable] ++
        routeBytes a.route)
  | .editUnit p tag a =>
      some (p, 0x0D, tag, be16 a.index ++ givenBytes 7 routeBytes a.route ++ givenBytes 5 groupsBytes a.groups ++
        givenBytes 1 (fun b => [flagByte b]) a.pinned ++ givenBytes 1 (fun b => [flagByte b]) a.relayCapable)
  | .retireUnit p tag index => some (p, 0x0E, tag, be16 index)
  | .readUnit p tag index => some (p, 0x0F, tag, be16 index)
  | .readNext p tag restart => some (p, 0x10, tag, [flagByte restart])
  | .findUnit p tag address => some (p, 0x11, tag, be32 address)
  | .pingUnit p tag index register => some (p, 0x12, tag, be16 index ++ [flagByte register])
  | .readGroup p tag group => some (p, 0x13, tag, [group])
  | .startDiscovery p tag => some (p, 0x14, tag, [])
  | .stopDiscovery p tag => some (p, 0x15, tag, [])
  | .readDiscovery p tag => some (p, 0x16, tag, [])
  | .readLevel p tag channel => some (p, 0x17, tag, [channel])
  | .setTestMask p tag channel mask => some (p, 0x18, tag, [channel] ++ be16 mask)
  | .setTime p tag seconds millis => some (p, 0x19, tag, be32 seconds ++ be16 millis)
  | .readTime p tag => some (p, 0x1A, tag, [])
  | .saveSettings p tag => some (p, 0x1B, tag, [])
  | .saveRoster p tag => some (p, 0x1C, tag, [])
  | .writeSystemCode p tag code => some (p, 0x1D, tag, be16 code)
  | .readIdentity p tag => some (p, 0x1E, tag, [])
  | .readSettings p tag => some (p, 0x1F, tag, [])
  | .readFaults p tag => some (p, 0x20, tag, [])
  | .clearFaults p tag generation kinds => some (p, 0x21, tag, be16 generation ++ [kinds])
  | .startSurvey p tag channel slots => some (p, 0x22, tag, [channel] ++ be16 slots)
  | .readSurvey p tag channel => some (p, 0x23, tag, [channel])
  | .status p tag => some (p, 0x24, tag, [])
  | .resetPort p tag => some (p, 0x25, tag, [])
  | .powerOn .. | .pinReset .. | .commandTransfer .. | .fetchTransfer .. | .ignoredTransfer .. | .frameRefused ..
  | .heldNoticeQueued .. | .zeroCrossing .. | .phaseLoss .. | .secondBoundary | .esReached .. | .lsReached ..
  | .floodEnd .. | .repeatGapEnd .. | .outboundSpanEnd .. | .replyReceived .. | .silencePoint ..
  | .probeWindowEnd .. | .restEnd .. | .eraseEnd | .writeEnd .. | .selectAsserted .. => none

/-- The frame that spells a client command. -/
def clientFrame (i : Instr) : Option (List Byte) :=
  (clientCommand i).map fun (_, code, tag, params) => commandFrame code tag params

/-- The parameters of SUBMIT (R195). -/
def readSubmit (p : Port) (tag : Byte) : List Byte → Option Instr
  | [group, action, duration, a3, a2, a1, a0, present, e3, e2, e1, e0, cls, confirm] =>
      some (.submit p tag
        { group, action, duration, activation := word32 a3 a2 a1 a0,
          expiry := if readFlag present then some (word32 e3 e2 e1 e0) else none,
          cls, confirm := readFlag confirm })
  | _ => none

/-- A parameter of one byte. -/
def read1 (f : Byte → Instr) : List Byte → Option Instr
  | [b] => some (f b)
  | _ => none

/-- A parameter of two bytes. -/
def read2 (f : Word16 → Instr) : List Byte → Option Instr
  | [hi, lo] => some (f (word16 hi lo))
  | _ => none

/-- A parameter of four bytes. -/
def read4 (f : Word32 → Instr) : List Byte → Option Instr
  | [b3, b2, b1, b0] => some (f (word32 b3 b2 b1 b0))
  | _ => none

/-- A command without parameters. -/
def read0 (i : Instr) : List Byte → Option Instr
  | [] => some i
  | _ => none

/-- The parameters of SET PARAMETER (R195). -/
def readParameter (p : Port) (tag : Byte) : List Byte → Option Instr
  | [parameter, channel, hi, lo] => some (.setParameter p tag { parameter, channel, value := word16 hi lo })
  | _ => none

/-- The parameters of SET GROUP PERMIT. -/
def readPermit (p : Port) (tag : Byte) : List Byte → Option Instr
  | [group, permit] => some (.setGroupPermit p tag group permit)
  | _ => none

/-- The parameters of SET QUOTA. -/
def readQuota (p : Port) (tag : Byte) : List Byte → Option Instr
  | [layout, qa, qb] => some (.setQuota p tag layout qa qb)
  | _ => none

/-- The parameters of ADD UNIT. -/
def readAddUnit (p : Port) (tag : Byte) : List Byte → Option Instr
  | [a3, a2, a1, a0, phase, gc, g1, g2, g3, g4, relay, rc, r1h, r1l, r2h, r2l, r3h, r3l] =>
      some (.addUnit p tag
        { address := word32 a3 a2 a1 a0, phase, groups := ⟨gc, g1, g2, g3, g4⟩, relayCapable := readFlag relay,
          route := ⟨rc, word16 r1h r1l, word16 r2h r2l, word16 r3h r3l⟩ })
  | _ => none

/-- The parameters of EDIT UNIT. -/
def readEditUnit (p : Port) (tag : Byte) : List Byte → Option Instr
  | [ih, il, rp, rc, r1h, r1l, r2h, r2l, r3h, r3l, gp, gc, g1, g2, g3, g4, pp, pinned, cp, capable] =>
      some (.editUnit p tag
        { index := word16 ih il
          route := if readFlag rp then some ⟨rc, word16 r1h r1l, word16 r2h r2l, word16 r3h r3l⟩ else none
          groups := if readFlag gp then some ⟨gc, g1, g2, g3, g4⟩ else none
          pinned := if readFlag pp then some (readFlag pinned) else none
          relayCapable := if readFlag cp then some (readFlag capable) else none })
  | _ => none

/-- The parameters of PING UNIT. -/
def readPing (p : Port) (tag : Byte) : List Byte → Option Instr
  | [hi, lo, register] => some (.pingUnit p tag (word16 hi lo) (readFlag register))
  | _ => none

/-- The parameters of SET TEST MASK. -/
def readMask (p : Port) (tag : Byte) : List Byte → Option Instr
  | [channel, hi, lo] => some (.setTestMask p tag channel (word16 hi lo))
  | _ => none

/-- The parameters of SET TIME (R195). -/
def readSetTime (p : Port) (tag : Byte) : List Byte → Option Instr
  | [s3, s2, s1, s0, hi, lo] => some (.setTime p tag (word32 s3 s2 s1 s0) (word16 hi lo))
  | _ => none

/-- The parameters of CLEAR FAULTS. -/
def readClear (p : Port) (tag : Byte) : List Byte → Option Instr
  | [hi, lo, kinds] => some (.clearFaults p tag (word16 hi lo) kinds)
  | _ => none

/-- The parameters of START SURVEY. -/
def readStartSurvey (p : Port) (tag : Byte) : List Byte → Option Instr
  | [channel, hi, lo] => some (.startSurvey p tag channel (word16 hi lo))
  | _ => none

/-- The command a code, a tag and parameter bytes spell; none where the size is not the command's (R168 test 4) or
the code names no command (test 3). -/
def readCommand (p : Port) (code tag : Byte) (params : List Byte) : Option Instr :=
  match code.toNat with
  | 0x01 => readSubmit p tag params
  | 0x02 => read2 (.cancel p tag) params
  | 0x03 => read2 (.readEntry p tag) params
  | 0x04 => read1 (.listEntries p tag) params
  | 0x05 => read0 (.runLine p tag) params
  | 0x06 => read0 (.holdLine p tag) params
  | 0x07 => read0 (.releaseLine p tag) params
  | 0x08 => read1 (.applyProfile p tag) params
  | 0x09 => readParameter p tag params
  | 0x0A => readPermit p tag params
  | 0x0B => readQuota p tag params
  | 0x0C => readAddUnit p tag params
  | 0x0D => readEditUnit p tag params
  | 0x0E => read2 (.retireUnit p tag) params
  | 0x0F => read2 (.readUnit p tag) params
  | 0x10 => read1 (fun b => .readNext p tag (readFlag b)) params
  | 0x11 => read4 (.findUnit p tag) params
  | 0x12 => readPing p tag params
  | 0x13 => read1 (.readGroup p tag) params
  | 0x14 => read0 (.startDiscovery p tag) params
  | 0x15 => read0 (.stopDiscovery p tag) params
  | 0x16 => read0 (.readDiscovery p tag) params
  | 0x17 => read1 (.readLevel p tag) params
  | 0x18 => readMask p tag params
  | 0x19 => readSetTime p tag params
  | 0x1A => read0 (.readTime p tag) params
  | 0x1B => read0 (.saveSettings p tag) params
  | 0x1C => read0 (.saveRoster p tag) params
  | 0x1D => read2 (.writeSystemCode p tag) params
  | 0x1E => read0 (.readIdentity p tag) params
  | 0x1F => read0 (.readSettings p tag) params
  | 0x20 => read0 (.readFaults p tag) params
  | 0x21 => readClear p tag params
  | 0x22 => readStartSurvey p tag params
  | 0x23 => read1 (.readSurvey p tag) params
  | 0x24 => read0 (.status p tag) params
  | 0x25 => read0 (.resetPort p tag) params
  | _ => none

/-- The code names a command of the manual: 01h to 25h (R195). -/
def codeKnown (code : Byte) : Bool := 1 ≤ code.toNat && code.toNat ≤ 0x25

/-- What the tests of R168 make of a frame. -/
inductive FrameReading where
  /-- Test 1, 2 or 4 fails: BAD FRAME, with the code and the tag as received, or 0. -/
  | badFrame (code tag : Byte)
  /-- Test 3 fails: BAD PARAMETER. -/
  | badParameter (code tag : Byte)
  /-- The frame passes and names this command. -/
  | command (i : Instr)
deriving DecidableEq, Repr

/-- The parameter bytes of a frame: byte 3 to byte length − 2. -/
def frameParams (bytes : List Byte) : List Byte := (bytes.drop 3).dropLast

/-- The tests of R168, in order, on a frame of port `p`. -/
def readFrame (p : Port) (overLong : Bool) (bytes : List Byte) : FrameReading :=
  let code := bytes.getD 1 0
  let tag := bytes.getD 2 0
  if overLong || bytes.length < 4 || (bytes.getD 0 0).toNat != bytes.length then .badFrame code tag
  else if byteSum bytes != 0 then .badFrame code tag
  else if !codeKnown code then .badParameter code tag
  else
    match readCommand p code tag (frameParams bytes) with
    | some i => .command i
    | none => .badFrame code tag

end Sys2Proof
end

