-- ==== Sys2Proof/Machine/State.lean ====
section
/-! DEFINITION. Everything the LT300 holds, as plain data: each structure cites the rule that lists its fields.
After the blocks' records come State, the values of start-up before loading, and State.reset. -/

namespace Sys2Proof.Machine

/-! ## Things kept once for each phase, and once for each port -/

/-- One of something for each phase. -/
structure Tri (α : Type) where
  l1 : α
  l2 : α
  l3 : α
deriving DecidableEq, Repr

/-- One of something for each port. -/
structure Duo (α : Type) where
  a : α
  b : α
deriving DecidableEq, Repr

def Tri.get {α : Type} (t : Tri α) : Phase → α
  | .L1 => t.l1
  | .L2 => t.l2
  | .L3 => t.l3

def Tri.set {α : Type} (t : Tri α) (ph : Phase) (v : α) : Tri α :=
  match ph with
  | .L1 => { t with l1 := v }
  | .L2 => { t with l2 := v }
  | .L3 => { t with l3 := v }

def Tri.toList {α : Type} (t : Tri α) : List α := [t.l1, t.l2, t.l3]

def Duo.get {α : Type} (t : Duo α) : Port → α
  | .A => t.a
  | .B => t.b

def Duo.set {α : Type} (t : Duo α) (p : Port) (v : α) : Duo α :=
  match p with
  | .A => { t with a := v }
  | .B => { t with b := v }

/-- The three phases in their order. -/
def phases : List Phase := [.L1, .L2, .L3]

/-! ## The calendar (chapter 1) -/

/-- The three signalling modes, slowest first. -/
inductive Mode where
  | robust | normal | fast
deriving DecidableEq, Repr

/-- What every unit of the group does at the activation (R4). -/
inductive Action where
  | tariff (register : Nat)
  | relayClose (relay : Nat)
  | relayOpen (relay : Nat)
  | relayPulse (relay minutes : Nat)
deriving DecidableEq, Repr

/-- ROUTINE or URGENT (R4). -/
inductive EntryClass where
  | routine | urgent
deriving DecidableEq, Repr

/-- The states of a phase part (R5). -/
inductive PartState where
  | waiting | ready | sending | suspended | finished
deriving DecidableEq, Repr

/-- The finishes of a phase part (R5). -/
inductive Finish where
  | onTime | late | missed | notNeeded
deriving DecidableEq, Repr

/-- The states of an entry (R8), read from its parts, its confirm field and its outcome. -/
inductive EntryState where
  | waiting | ready | sending | confirming | retiring
deriving DecidableEq, Repr

/-- The outcomes of an entry (R23). -/
inductive EntryOutcome where
  | complete | incomplete | expired | cancelled
deriving DecidableEq, Repr

/-- A phase part (R5); its phase is its place. -/
structure Part where
  state : PartState
  finish : Option Finish
  depth : Nat
  mode : Mode
  planned : Nat
  sent : Nat
  ls : Nat
  es : Nat
  start : Option Nat
  /-- The MODEL's own: the part was a needed one, its group having members on the phase, at the moment it finished (R23);
  false until then. -/
  finishNeeded : Bool
deriving DecidableEq, Repr

/-- The frame of a current unit's next exchange (R78). -/
inductive NextFrame where
  | poll | direct
deriving DecidableEq, Repr

/-- One phase record of the confirmation progress (R78). -/
structure PhaseProgress where
  cursor : Nat
  current : Option (Nat × Address)
  attempts : Nat
  resendDone : Bool
  nextFrame : NextFrame
  expected : Nat
  confirmed : Nat
  superseded : Nat
  notAttempted : Nat
  notReached : Nat
  unconfirmed : Nat
deriving DecidableEq, Repr

/-- The confirmation progress of an entry (R78). -/
structure Confirmation where
  records : Tri PhaseProgress
  unconfirmedList : List Nat
deriving DecidableEq, Repr

/-- A calendar entry (R4). -/
structure Entry where
  handle : Nat
  origin : Port
  tag : Byte
  group : Nat
  action : Action
  activation : Nat
  expiry : Option Nat
  cls : EntryClass
  confirm : Bool
  sequence : Option Byte
  lateAdmission : Bool
  timeStepped : Bool
  cancelled : Bool
  cutShort : Bool
  parts : Tri Part
  confirmation : Option Confirmation
  outcome : Option EntryOutcome
  /-- The contents of the OUTCOME notice, composed when the outcome is decided (R24). -/
  record : Option (List Byte)
  /-- The MODEL's own: the cut-off of R16 has been reached (log 12). -/
  cutOffReached : Bool
  /-- The MODEL's own: R74 has stopped the confirmation as a whole (log 13). -/
  confirmStopped : Bool
deriving DecidableEq, Repr

/-! ## Items of the out-queues (chapters 10 and 13) -/

/-- The outcome codes, in the order of the table of R173. -/
inductive ReplyCode where
  | ok | busy | full | quota | conflict | notPermitted | notOwner | noEntry | finished | badParameter | badRoute
  | duplicate | tooLate | badState | notJoint | notHolding | noIdentity | locked | clockUnset | stale | badFrame
deriving DecidableEq, Repr

/-- The notices, in the order of their codes (R196). -/
inductive NoticeKind where
  | started | partFinished | unitFound | unitLost | fault | lineState | outcome | pingResult | storeDone | surveyDone
  | surveyAbandoned
deriving DecidableEq, Repr

/-- An item of an out-queue, less its envelope bytes (R169, R196). -/
inductive Item where
  | reply (code tag : Byte) (outcome : ReplyCode) (contents : List Byte)
  | notice (kind : NoticeKind) (contents : List Byte)
deriving DecidableEq, Repr

/-- The owner of a held notice (R172). -/
inductive HeldOwner where
  /-- TCAL, for the entry with this handle. -/
  | outcome (handle : Nat)
  /-- The oldest HELD ping record of the port in this channel's ping queue. -/
  | ping (ph : Phase)
  /-- SSTO's held STORE DONE. -/
  | storeDone
  /-- The held notice of this channel's survey. -/
  | survey (ph : Phase)
deriving DecidableEq, Repr

/-- A command frame in a FIFO: at most 64 bytes, with its over-long mark (R167). -/
structure Frame where
  bytes : List Byte
  overLong : Bool
deriving DecidableEq, Repr

/-- A transfer under way: what the part latched when select was asserted (R166, R170). -/
structure Transfer where
  mode3 : Bool
  fifoFill : Nat
  outCount : Nat
  head : Option Item
  /-- A port reset was taken while the transfer ran, so its completion removes nothing (R170). -/
  cut : Bool
deriving DecidableEq, Repr

/-- A client port (R166, R167, R169, R171, R172). The attention output is read from the out-queue. -/
structure PortRec where
  fifo : List Frame
  outq : List Item
  overflow : Nat
  drops : Nat
  held : List HeldOwner
  transfer : Option Transfer
  /-- The bytes the last transfer shifted out. -/
  dataOut : List Byte
deriving DecidableEq, Repr

/-! ## The line and its channels (chapter 3) -/

/-- The line states (section 3.1). -/
inductive LineState where
  | stopped | running | draining | held
deriving DecidableEq, Repr

/-- The channel states (R55). -/
inductive ChannelState where
  | offline | idle | sending | listening | halted
deriving DecidableEq, Repr

/-- A flood of the channel's open part. The entry is absent once a port reset has removed it (R77). -/
structure Flood where
  entry : Option Nat
  repeatIndex : Nat
  /-- The flood span F in slots (R35). -/
  span : Nat
  /-- The slots that have ended since the first one began. -/
  slots : Nat
  /-- The body loaded for wave 0 (R193). -/
  frame : List Byte
deriving DecidableEq, Repr

/-- The work that started an exchange. -/
inductive ExchangeOwner where
  /-- A confirmation exchange, with its entry unless a port reset has removed it. -/
  | confirm (entry : Option Nat)
  /-- The record IN FLIGHT of the channel's ping queue. -/
  | ping
  /-- A registering ping of discovery (R126). -/
  | registration
deriving DecidableEq, Repr

/-- The outbound frame of an exchange (R47). -/
inductive ExchangeFrame where
  | poll | direct | ping
deriving DecidableEq, Repr

/-- An exchange in flight: what R47 holds for the whole of it, and the index and address R88 reads. -/
structure Exchange where
  owner : ExchangeOwner
  kind : ExchangeFrame
  index : Nat
  address : Address
  hops : Nat
  mode : Mode
  /-- The outbound span P in slots. -/
  outSpan : Nat
  /-- The silence point in slots from the start. -/
  silence : Nat
  slots : Nat
  frame : List Byte
deriving DecidableEq, Repr

/-- A probe on the channel, with the stretches of R121. -/
structure ProbeRun where
  hops : Nat
  outSpan : Nat
  window : Nat
  gap : Nat
  /-- The window whose end comes next, 0 to 3. -/
  next : Nat
  slots : Nat
  frame : List Byte
deriving DecidableEq, Repr

/-- What is on the wiring now (R55, current work). -/
inductive Work where
  | flood (f : Flood)
  | exchange (e : Exchange)
  | probe (r : ProbeRun)
deriving DecidableEq, Repr

/-- A channel record (R55) with the counts its slots need. -/
structure Channel where
  state : ChannelState
  work : Option Work
  /-- The handle of the entry whose part on this phase is the open part. -/
  openPart : Option Nat
  /-- The handle of the entry whose part on this phase is the suspended part. -/
  suspendedPart : Option Nat
  haltPending : Bool
  /-- The number of the crossing at which the most recent flood ended. -/
  lastFloodEnd : Option Nat
  /-- The phase has been declared ABSENT since last flood end (R68). -/
  absentSinceFlood : Bool
  /-- The crossings handed to the channel so far. -/
  crossings : Nat
  /-- The slots left of the gap before the open part's next repeat (R67). -/
  gapLeft : Option Nat
  /-- The channel has been IDLE or HALTED since the slot in progress began (R190). -/
  quiet : Bool
  /-- The check of a transmit buffer loaded at the present crossing fails (R59, log 6). -/
  bufferBad : Bool
deriving DecidableEq, Repr

/-! ## Pings (chapter 4) -/

/-- The results of a ping; ANSWERED with the margins, the group-0 sequence, the route length and the path mode (R93). -/
inductive PingResult where
  | answered (uplink downlink hopUp : Nat) (sequence : Option Byte) (hops : Nat) (mode : Mode)
  | silent
  | notSent
deriving DecidableEq, Repr

/-- The states of a ping record; HELD with its result (R91). -/
inductive PingState where
  | queued
  | inFlight
  | held (result : PingResult)
deriving DecidableEq, Repr

/-- A ping record (R91). -/
structure PingRec where
  origin : Port
  tag : Byte
  index : Nat
  address : Address
  register : Bool
  state : PingState
  dropped : Bool
deriving DecidableEq, Repr

/-! ## The roster and the Group Table (chapter 5) -/

/-- The states of a unit (R99). -/
inductive UnitState where
  | active | degraded | lost
deriving DecidableEq, Repr

/-- A unit record (R97). -/
structure UnitRec where
  address : Address
  phase : Phase
  groups : List Nat
  relayCapable : Bool
  route : List Nat
  state : UnitState
  pinned : Bool
  margin : Nat
  samples : Nat
  mode : Mode
  silence : Nat
  lastHeard : Option Nat
deriving DecidableEq, Repr

/-- The derived figures of a group on a phase (R114). -/
structure Figures where
  members : Nat
  reachable : Nat
  depth : Nat
  mode : Mode
deriving DecidableEq, Repr

/-- A group record (R111); its permit is a field of the settings (R179). -/
structure GroupRec where
  sequence : Byte
  fieldPending : List Nat
  figures : Tri Figures
deriving DecidableEq, Repr

/-- The permits (R111). -/
inductive Permit where
  | onlyA | onlyB | both | neither
deriving DecidableEq, Repr

/-! ## Discovery (chapter 6) -/

/-- A filter: an even prefix length, and the prefix bits at the head of an otherwise zero address (R117, R194). -/
structure ProbeFilter where
  length : Nat
  value : Address
deriving DecidableEq, Repr

/-- The origin of a probe (R117). -/
inductive Origin where
  | direct
  | relay (index : Nat) (address : Address)
deriving DecidableEq, Repr

/-- The probe in flight (R117), with the route its units are recorded with (R124). -/
structure ProbeInFlight where
  origin : Origin
  filter : ProbeFilter
  stopped : Bool
  route : List Nat
deriving DecidableEq, Repr

/-- The states of a discovery record (R117). -/
inductive DiscoveryState where
  | off | resting | probing
deriving DecidableEq, Repr

/-- A discovery record (R117). The first filter of the stack is its top. -/
structure Discovery where
  state : DiscoveryState
  origin : Option Origin
  stack : List ProbeFilter
  registration : List (Nat × Address)
  probe : Option ProbeInFlight
  /-- Rest end, in milliseconds of elapsed time. -/
  restEnd : Option Nat
  splitOverflow : Nat
deriving DecidableEq, Repr

/-! ## Level controllers (chapter 7) -/

/-- The states of a level controller (R138). -/
inductive ControllerState where
  | acquire | monitor
deriving DecidableEq, Repr

/-- The actions of a closed window (R138). -/
inductive LevelAction where
  | raised | lowered | held
deriving DecidableEq, Repr

/-- A level-controller record (R138); its range and target are settings. -/
structure LevelRec where
  level : Nat
  applied : Nat
  state : ControllerState
  windowCount : Nat
  windowMin : Option Nat
  lastWindow : Option (Nat × LevelAction)
  levelLimit : Bool
deriving DecidableEq, Repr

/-! ## Mains timing and the clock (chapter 9) -/

/-- An accepted crossing: its instant of elapsed time in µs and its calendar millisecond stamp (R156). -/
structure Crossing where
  instant : Nat
  stamp : Nat
deriving DecidableEq, Repr

/-- A phase record (R156). -/
structure PhaseRec where
  present : Bool
  lastCrossing : Option Crossing
  run : Nat
  history : List Nat
deriving DecidableEq, Repr

/-- The calendar clock (R162): its state, and its count as calendar milliseconds. -/
structure Clock where
  isSet : Bool
  millis : Nat
deriving DecidableEq, Repr

/-! ## Settings and store (chapter 11) -/

/-- The six profiles (R180). -/
inductive Profile where
  | smallQuiet | smallNoisy | mediumQuiet | mediumNoisy | largeQuiet | largeNoisy
deriving DecidableEq, Repr

/-- The level settings of one channel (R179). -/
structure LevelSettings where
  low : Nat
  high : Nat
  target : Nat
deriving DecidableEq, Repr

/-- The current settings (R179). -/
structure Settings where
  profile : Profile
  modified : Bool
  routineRepeats : Nat
  urgentRepeats : Nat
  pollRetries : Nat
  guardMs : Nat
  leadS : Nat
  gap : Nat
  tolerance : Nat
  degradeLimit : Nat
  lostLimit : Nat
  probePeriod : Nat
  levels : Tri LevelSettings
  nominal : Nat
  permits : List Permit
  layout : Nat
  nextLayout : Nat
  quota : Duo Nat
  nextQuota : Duo Nat
deriving DecidableEq, Repr

/-- The states of the store (R183). -/
inductive StoreState where
  | idle | erasing | writing
deriving DecidableEq, Repr

/-- The two images (R183). -/
inductive Image where
  | settings | roster
deriving DecidableEq, Repr

/-- The roster image: every unit at its index, and the 64 sequence counters (R183). -/
structure RosterImage where
  units : List (Nat × UnitRec)
  counters : List Byte
deriving DecidableEq, Repr

/-- The snapshot of a save (R183). -/
inductive Snapshot where
  | settings (v : Settings)
  | roster (v : RosterImage)
deriving DecidableEq, Repr

/-- The save in progress (R183). -/
structure Save where
  snapshot : Snapshot
  origin : Port
  tag : Byte
deriving DecidableEq, Repr

/-- A held STORE DONE (R184). -/
structure StoreDone where
  origin : Port
  tag : Byte
  image : Image
  ok : Bool
deriving DecidableEq, Repr

/-- SSTO's store (R183, R184). An image that is invalid is absent. -/
structure Store where
  state : StoreState
  save : Option Save
  heldDone : Option StoreDone
  settingsImage : Option Settings
  rosterImage : Option RosterImage
  /-- The image was valid when last loaded or last written (R179). -/
  settingsValid : Bool
  rosterValid : Bool
deriving DecidableEq, Repr

/-- The identity area (R186). -/
structure Identity where
  code : Word16
  serial : Word32
  revision : Byte
deriving DecidableEq, Repr

/-! ## Faults and surveys (chapter 12) -/

/-- A fault with its detail; the kinds in the order of the table of section 12.1. -/
inductive FaultReport where
  | portOverflow (p : Port)
  | storeCheck (image : Image)
  | storeWrite (image : Image)
  | rosterTruncated (count : Nat)
  | rosterFull (ph : Phase) (address : Address)
  | phaseLoss (ph : Phase)
  | frequencyRange (ph : Phase) (frequency : Nat)
  | channelHalt (ph : Phase)
deriving DecidableEq, Repr

/-- The first-fault record, the eight counters and the generation (R187). An absent time is "clock unset". -/
structure FaultRec where
  record : Option (FaultReport × Option Nat)
  counters : List Nat
  generation : Nat
deriving DecidableEq, Repr

/-- The states of a survey (R189). -/
inductive SurveyState where
  | none | running | complete
deriving DecidableEq, Repr

/-- A survey (R189). -/
structure Survey where
  state : SurveyState
  starter : Option Port
  tag : Byte
  target : Nat
  sampled : Nat
  bins : List Nat
  highest : Option Nat
  /-- The SURVEY ABANDONED and the SURVEY DONE not yet queued, each with its port, the earliest first (log 40). -/
  held : List (Port × Item)
deriving DecidableEq, Repr

/-! ## The state -/

/-- The block. -/
structure State where
  /-- The MODEL's own: the commands waiting, first in, first out. -/
  pending : List Instr
  /-- The MODEL's own: elapsed time in milliseconds (log 2). -/
  elapsed : Nat
  /-- The MODEL's own: how many free values have been drawn (logs 3 and 4). -/
  freeCount : Nat
  clock : Clock
  mains : Tri PhaseRec
  fPlan : Nat
  excursion : Bool
  ports : Duo PortRec
  calendar : List Entry
  lastHandle : Nat
  /-- The retirement queues, as handles, the earliest first (R25). -/
  retirement : Duo (List Nat)
  line : LineState
  hold : Duo Bool
  channels : Tri Channel
  testMasks : Tri Word16
  pings : Tri (List PingRec)
  /-- The units by roster index, the indices strictly rising; an index not listed is free (R96). -/
  roster : List (Nat × UnitRec)
  readCursors : Duo Nat
  /-- The 64 group records. -/
  groups : List GroupRec
  discovery : Tri Discovery
  levels : Tri LevelRec
  settings : Settings
  store : Store
  identity : Identity
  faults : FaultRec
  surveys : Tri Survey
deriving DecidableEq, Repr

/-! ## Faults and refusals of the model -/

/-- Why a step may stop. Every command of this block has an effect in every state, or finds nothing to do. -/
inductive Fault where
  /-- Raised by no command: safe. -/
  | neverRaised
deriving DecidableEq, Repr

/-- Why a command has no meaning. -/
inductive Refusal where
  /-- Raised by an arm of exec whose command has no meaning yet (there is none): safe. -/
  | notModelled (mnemonic : String)
deriving DecidableEq, Repr

/-! ## Start-up values -/

/-- The factory defaults of the settings (R179). -/
def Settings.factory : Settings :=
  { profile := .mediumQuiet, modified := false, routineRepeats := 2, urgentRepeats := 3, pollRetries := 1,
    guardMs := 1500, leadS := 600, gap := 1, tolerance := 1, degradeLimit := 2, lostLimit := 5, probePeriod := 900,
    levels := ⟨⟨16, 63, 48⟩, ⟨16, 63, 48⟩, ⟨16, 63, 48⟩⟩, nominal := 5000, permits := List.replicate 64 .both,
    layout := 1, nextLayout := 1, quota := ⟨64, 64⟩, nextQuota := ⟨64, 64⟩ }

/-- A port after start-up (R177). -/
def PortRec.fresh : PortRec :=
  { fifo := [], outq := [], overflow := 0, drops := 0, held := [], transfer := none, dataOut := [] }

/-- A channel after start-up (R55). -/
def Channel.fresh : Channel :=
  { state := .offline, work := none, openPart := none, suspendedPart := none, haltPending := false,
    lastFloodEnd := none, absentSinceFlood := false, crossings := 0, gapLeft := none, quiet := false,
    bufferBad := false }

/-- A phase record after start-up (R156). -/
def PhaseRec.fresh : PhaseRec := { present := false, lastCrossing := none, run := 0, history := [] }

/-- The figures of a group without members (R114). -/
def Figures.empty : Figures := { members := 0, reachable := 0, depth := 0, mode := .robust }

/-- A group record with an empty roster and no sequence restored (R111, R112). -/
def GroupRec.fresh : GroupRec :=
  { sequence := 0, fieldPending := [], figures := ⟨Figures.empty, Figures.empty, Figures.empty⟩ }

/-- A discovery record after start-up (R117). -/
def Discovery.fresh : Discovery :=
  { state := .off, origin := none, stack := [], registration := [], probe := none, restEnd := none,
    splitOverflow := 0 }

/-- A level controller after start-up, at this level (R138). -/
def LevelRec.fresh (level : Nat) : LevelRec :=
  { level, applied := level, state := .acquire, windowCount := 0, windowMin := none, lastWindow := none,
    levelLimit := false }

/-- A survey after start-up (R189). -/
def Survey.fresh : Survey :=
  { state := .none, starter := none, tag := 0, target := 0, sampled := 0, bins := List.replicate 16 0,
    highest := none, held := [] }

/-- A store whose images are both invalid (log 7). -/
def Store.blank : Store :=
  { state := .idle, save := none, heldDone := none, settingsImage := none, rosterImage := none,
    settingsValid := false, rosterValid := false }

/-- An identity area as the part is made: no system code; serial and revision 0 (log 8). -/
def Identity.blank : Identity := { code := Config.unsetCode, serial := 0, revision := 0 }

/-- The Fault Record after power-on (R187). -/
def FaultRec.fresh : FaultRec := { record := none, counters := List.replicate 8 0, generation := 0 }

/-- Every block at its start-up value, before the store is loaded, over a store whose images are invalid. -/
def State.bare : State :=
  { pending := [], elapsed := 0, freeCount := 0, clock := ⟨false, 0⟩,
    mains := ⟨PhaseRec.fresh, PhaseRec.fresh, PhaseRec.fresh⟩, fPlan := 5000, excursion := false,
    ports := ⟨PortRec.fresh, PortRec.fresh⟩, calendar := [], lastHandle := 0, retirement := ⟨[], []⟩,
    line := .stopped, hold := ⟨false, false⟩,
    channels := ⟨Channel.fresh, Channel.fresh, Channel.fresh⟩, testMasks := ⟨0, 0, 0⟩, pings := ⟨[], [], []⟩,
    roster := [], readCursors := ⟨0, 0⟩, groups := List.replicate 64 GroupRec.fresh,
    discovery := ⟨Discovery.fresh, Discovery.fresh, Discovery.fresh⟩,
    levels := ⟨LevelRec.fresh 40, LevelRec.fresh 40, LevelRec.fresh 40⟩, settings := Settings.factory,
    store := Store.blank, identity := Identity.blank, faults := FaultRec.fresh,
    surveys := ⟨Survey.fresh, Survey.fresh, Survey.fresh⟩ }

/-- The FAULT notice of a STORE CHECK found while start-up loads (R187, R196): the kind, "clock unset", the image, the
generation, and whether the fault filled the record. -/
def State.storeCheckNotice (image generation filled : Byte) : Item :=
  .notice .fault [1, 0xFF, 0xFF, 0xFF, 0xFF, 0xFF, 0xFF, image, 0, generation, filled]

/-- The block right after power-on over a store whose images are invalid (R185, log 7): factory settings, an empty
roster, and the two STORE CHECK faults that loading posts, the first of which fills the record. -/
def State.reset : State :=
  let port : PortRec :=
    { PortRec.fresh with outq := [State.storeCheckNotice 0 1 1, State.storeCheckNotice 1 2 0] }
  { State.bare with
    ports := ⟨port, port⟩
    faults := { record := some (.storeCheck .settings, none), counters := [0, 2, 0, 0, 0, 0, 0, 0], generation := 2 } }

end Sys2Proof.Machine
end

