-- ==== Sys2Proof/Machine/Formats.lean ====
section
/-! DEFINITION. Chapter 13: the byte layouts of items and line frames, the numbering of names (R195), the two checks
(R193, R195), and the reading of a received line frame (R146 to R148). -/

namespace Sys2Proof.Machine

/-! ## Numbers and names as bytes (R193, R195) -/

/-- A number in this many bytes, most significant first. -/
def be : Nat → Nat → List Byte
  | 0, _ => []
  | width + 1, v => BitVec.ofNat 8 (v / 256 ^ width) :: be width v

/-- A number of one byte. -/
def byteOf (v : Nat) : Byte := BitVec.ofNat 8 v

/-- A field that may be absent: a presence byte, then the value's bytes, or zeros (R193). DESIGN CHOICE (log 10): the
presence byte of a value is 01h. -/
def optionalBytes {α : Type} (width : Nat) (f : α → List Byte) : Option α → List Byte
  | none => 0 :: List.replicate width 0
  | some v => 1 :: f v

/-- A number of this width that may be absent. -/
def optionalNat (width : Nat) (v : Option Nat) : List Byte := optionalBytes width (be width) v

/-- A byte that may be absent. -/
def optionalByte (v : Option Byte) : List Byte := optionalBytes 1 (fun b => [b]) v

/-- A list whose length varies: a count byte, then the items (R195). -/
def countedBytes {α : Type} (f : α → List Byte) (xs : List α) : List Byte := byteOf xs.length :: xs.flatMap f

def portByte : Port → Byte
  | .A => 0
  | .B => 1

def phaseByte : Phase → Byte
  | .L1 => 0
  | .L2 => 1
  | .L3 => 2

/-- The number of a phase's channel, 1 to 3. -/
def channelByte : Phase → Byte
  | .L1 => 1
  | .L2 => 2
  | .L3 => 3

/-- The phase of a channel number; none outside 1 to 3. -/
def phaseOfChannel (b : Byte) : Option Phase :=
  match b.toNat with
  | 1 => some .L1
  | 2 => some .L2
  | 3 => some .L3
  | _ => none

/-- The phase a choice byte names. -/
def phaseOfByte (b : Byte) : Option Phase :=
  match b.toNat with
  | 0 => some .L1
  | 1 => some .L2
  | 2 => some .L3
  | _ => none

def modeByte : Mode → Byte
  | .robust => 0
  | .normal => 1
  | .fast => 2

def classByte : EntryClass → Byte
  | .routine => 0
  | .urgent => 1

def partStateByte : PartState → Byte
  | .waiting => 0
  | .ready => 1
  | .sending => 2
  | .suspended => 3
  | .finished => 4

def finishByte : Finish → Byte
  | .onTime => 0
  | .late => 1
  | .missed => 2
  | .notNeeded => 3

def entryStateByte : EntryState → Byte
  | .waiting => 0
  | .ready => 1
  | .sending => 2
  | .confirming => 3
  | .retiring => 4

def entryOutcomeByte : EntryOutcome → Byte
  | .complete => 0
  | .incomplete => 1
  | .expired => 2
  | .cancelled => 3

def nextFrameByte : NextFrame → Byte
  | .poll => 0
  | .direct => 1

def lineStateByte : LineState → Byte
  | .stopped => 0
  | .running => 1
  | .draining => 2
  | .held => 3

def channelStateByte : ChannelState → Byte
  | .offline => 0
  | .idle => 1
  | .sending => 2
  | .listening => 3
  | .halted => 4

def unitStateByte : UnitState → Byte
  | .active => 0
  | .degraded => 1
  | .lost => 2

def permitByte : Permit → Byte
  | .onlyA => 0
  | .onlyB => 1
  | .both => 2
  | .neither => 3

def permitOfByte (b : Byte) : Option Permit :=
  match b.toNat with
  | 0 => some .onlyA
  | 1 => some .onlyB
  | 2 => some .both
  | 3 => some .neither
  | _ => none

def discoveryStateByte : DiscoveryState → Byte
  | .off => 0
  | .resting => 1
  | .probing => 2

def controllerStateByte : ControllerState → Byte
  | .acquire => 0
  | .monitor => 1

def levelActionByte : LevelAction → Byte
  | .raised => 0
  | .lowered => 1
  | .held => 2

def profileByte : Profile → Byte
  | .smallQuiet => 0
  | .smallNoisy => 1
  | .mediumQuiet => 2
  | .mediumNoisy => 3
  | .largeQuiet => 4
  | .largeNoisy => 5

def profileOfByte (b : Byte) : Option Profile :=
  match b.toNat with
  | 0 => some .smallQuiet
  | 1 => some .smallNoisy
  | 2 => some .mediumQuiet
  | 3 => some .mediumNoisy
  | 4 => some .largeQuiet
  | 5 => some .largeNoisy
  | _ => none

def storeStateByte : StoreState → Byte
  | .idle => 0
  | .erasing => 1
  | .writing => 2

def imageByte : Image → Byte
  | .settings => 0
  | .roster => 1

def surveyStateByte : SurveyState → Byte
  | .none => 0
  | .running => 1
  | .complete => 2

/-- The clock's state: SET, then UNSET, as R162 names them. -/
def clockStateByte (isSet : Bool) : Byte := if isSet then 0 else 1

/-- A phase's presence: PRESENT, then ABSENT, as R156 names them. -/
def presenceByte (present : Bool) : Byte := if present then 0 else 1

def replyCodeByte : ReplyCode → Byte
  | .ok => 0x00
  | .busy => 0x01
  | .full => 0x02
  | .quota => 0x03
  | .conflict => 0x04
  | .notPermitted => 0x05
  | .notOwner => 0x06
  | .noEntry => 0x07
  | .finished => 0x08
  | .badParameter => 0x09
  | .badRoute => 0x0A
  | .duplicate => 0x0B
  | .tooLate => 0x0C
  | .badState => 0x0D
  | .notJoint => 0x0E
  | .notHolding => 0x0F
  | .noIdentity => 0x10
  | .locked => 0x11
  | .clockUnset => 0x12
  | .stale => 0x13
  | .badFrame => 0x14

def noticeByte : NoticeKind → Byte
  | .started => 0x01
  | .partFinished => 0x02
  | .unitFound => 0x03
  | .unitLost => 0x04
  | .fault => 0x05
  | .lineState => 0x06
  | .outcome => 0x07
  | .pingResult => 0x08
  | .storeDone => 0x09
  | .surveyDone => 0x0A
  | .surveyAbandoned => 0x0B

/-- A set of ports: bit 0 Port A, bit 1 Port B (R195). -/
def portsByte (d : Duo Bool) : Byte := (if d.a then 1 else 0) + (if d.b then 2 else 0)

/-! ## Items (R196) -/

def Item.isNotice : Item → Bool
  | .reply .. => false
  | .notice .. => true

/-- An item's bytes: kind, length, code or notice code, tag and outcome code of a reply, contents, check (R196). -/
def Item.bytes (i : Item) : List Byte :=
  let body :=
    match i with
    | .reply code tag outcome contents =>
        0x01 :: byteOf (contents.length + 6) :: code :: tag :: replyCodeByte outcome :: contents
    | .notice kind contents => 0x02 :: byteOf (contents.length + 4) :: noticeByte kind :: contents
  body ++ [checkByte body]

/-- The EMPTY item (R196). -/
def emptyItem : List Byte := [0x00, 0x03, checkByte [0x00, 0x03]]

/-! ## The action byte (R194) -/

/-- High four bits the action, low four bits its argument. -/
def actionByte : Action → Byte
  | .tariff r => byteOf (0x10 + r)
  | .relayClose r => byteOf (0x20 + r)
  | .relayOpen r => byteOf (0x30 + r)
  | .relayPulse r _ => byteOf (0x40 + r)

/-- The duration byte: 00h for any action but RELAY PULSE. -/
def durationByte : Action → Byte
  | .relayPulse _ minutes => byteOf minutes
  | _ => 0

/-- The action an action byte and a duration byte spell; none outside the ranges of test 2 of R10. -/
def readAction (action duration : Byte) : Option Action :=
  let argument := action.toNat % 16
  let relay := argument == 1 || argument == 2
  match action.toNat / 16 with
  | 1 => if 1 ≤ argument && argument ≤ 8 then some (.tariff argument) else none
  | 2 => if relay then some (.relayClose argument) else none
  | 3 => if relay then some (.relayOpen argument) else none
  | 4 => if relay && 1 ≤ duration.toNat then some (.relayPulse argument duration.toNat) else none
  | _ => none

/-! ## Line frames (R193, R194) -/

/-- One bit of the cyclic check, generator 1021h. -/
def crcBit (crc : Word16) : Word16 := if crc.msb then (crc <<< 1) ^^^ 0x1021 else crc <<< 1

/-- One byte of the cyclic check, most significant bit first. -/
def crcByte (crc : Word16) (b : Byte) : Word16 :=
  crcBit (crcBit (crcBit (crcBit (crcBit (crcBit (crcBit (crcBit (crc ^^^ (b ++ (0 : Byte))))))))))

/-- The check sequence of a body: start FFFFh, no final inversion. -/
def lineCheck (body : List Byte) : Word16 := body.foldl crcByte 0xFFFF

/-- The high and low four bits of a byte. -/
def nibbles (high low : Nat) : Byte := byteOf (16 * high + low)

/-- A line frame the LT300 sends: header, route list, contents, and the check sequence with the mask in it (R155,
R193). -/
def lineFrame (code : Word16) (kind gap : Nat) (address : Address) (depth : Nat) (route : List Address)
    (contents : List Byte) (mask : Word16) : List Byte :=
  let body := be16 code ++ [nibbles kind gap] ++ be32 address ++ [nibbles 0 depth] ++ route.flatMap be32 ++ contents
  body ++ be16 (lineCheck body ^^^ mask)

/-- A received frame that passes R147: its kind, its address, hop index and route length, and its contents. -/
structure LineReading where
  kind : Nat
  address : Address
  hop : Nat
  hops : Nat
  contents : List Byte
deriving DecidableEq, Repr

/-- The contents size of a received frame's kind; none for a kind outside 1 to 7 (R194). -/
def contentsSize (kind : Nat) : Option Nat :=
  match kind with
  | 1 => some 6
  | 2 => some 6
  | 3 => some 1
  | 4 => some 1
  | 5 => some 5
  | 6 => some 5
  | 7 => some 7
  | _ => none

/-- The frame's action, register or relay lies within the ranges of R146; of the seven kinds, BROADCAST and DIRECT
carry one. -/
def actionInRange (kind : Nat) (contents : List Byte) : Bool :=
  if kind = 1 || kind = 2 then (readAction (contents.getD (if kind = 1 then 1 else 2) 0) 1).isSome else true

/-- A frame a receiver takes (R146, R147, R193): whole, with the installation's system code, a good check, and header
fields and size within their ranges; none for any other. -/
def readLine (code : Word16) (bytes : List Byte) : Option LineReading :=
  let body := bytes.take (bytes.length - 2)
  let kindGap := (bytes.getD 2 0).toNat
  let hopByte := (bytes.getD 7 0).toNat
  let kind := kindGap / 16
  let gap := kindGap % 16
  let hop := hopByte / 16
  let hops := hopByte % 16
  let routed := if kind = 1 then 0 else 4 * hops
  if bytes.length < 10 then none
  else if bytes.take 2 ≠ be16 code then none
  else if bytes.drop (bytes.length - 2) ≠ be16 (lineCheck body) then none
  else if gap = 0 || 4 < gap || 3 < hops || hops < hop then none
  else
    match contentsSize kind with
    | none => none
    | some size =>
        let contents := body.drop (8 + routed)
        if bytes.length = 8 + routed + size + 2 && actionInRange kind contents then
          some { kind, hop, hops, contents,
                 address := word32 (bytes.getD 3 0) (bytes.getD 4 0) (bytes.getD 5 0) (bytes.getD 6 0) }
        else none

/-- A frame whose last hop is addressed to the LT300: the return hop index equals the route length (R148). -/
def LineReading.arrived (r : LineReading) : Bool := r.hop = r.hops

/-- What the LT300 reads in a REPLY (R194). -/
structure ReplyReading where
  address : Address
  sequence : Option Byte
  downlink : Nat
  hopUp : Nat
deriving DecidableEq, Repr

/-- A REPLY that has arrived; a sequence-held byte other than 01h reads as no sequence (R194). -/
def readReply (code : Word16) (bytes : List Byte) : Option ReplyReading :=
  match readLine code bytes with
  | some r =>
      if r.kind = 5 && r.arrived then
        some { address := r.address
               sequence := if r.contents.getD 1 0 = 1 then some (r.contents.getD 2 0) else none
               downlink := (r.contents.getD 3 0).toNat
               hopUp := (r.contents.getD 4 0).toNat }
      else none
  | none => none

/-- What the LT300 reads in a PROBE REPLY (R194). -/
structure ProbeReplyReading where
  address : Address
  groups : List Nat
  relayCapable : Bool
  downlink : Nat
  hopUp : Nat
deriving DecidableEq, Repr

/-- The groups of a PROBE REPLY, leaving out values outside 1 to 63 and repeats of a value already taken (R124). -/
def cleanGroups (bs : List Byte) : List Nat :=
  bs.foldl (fun acc b => if 1 ≤ b.toNat && b.toNat ≤ 63 && !acc.contains b.toNat then acc ++ [b.toNat] else acc) []

/-- A PROBE REPLY that has arrived. DESIGN CHOICE (log 44): a relay-capable byte other than 00h and 01h reads as set. -/
def readProbeReply (code : Word16) (bytes : List Byte) : Option ProbeReplyReading :=
  match readLine code bytes with
  | some r =>
      if r.kind = 7 && r.arrived then
        some { address := r.address
               groups := cleanGroups (r.contents.take 4)
               relayCapable := readFlag (r.contents.getD 4 0)
               downlink := (r.contents.getD 5 0).toNat
               hopUp := (r.contents.getD 6 0).toNat }
      else none
  | none => none

/-- A return frame heard at an earlier return hop: in transit, neither taken nor carrier (R148). DEDUCED (log 18): a
PROBE REPLY there is in transit as a REPLY is. -/
def inTransit (code : Word16) (bytes : List Byte) : Bool :=
  match readLine code bytes with
  | some r => (r.kind = 5 || r.kind = 7) && !r.arrived
  | none => false

/-- A margin measured in quarter-decibels, held within 0 to 255 (R130). -/
def marginOf (raw : Int) : Nat := holdWithin 0 255 raw.toNat

/-! ## Faults as bytes (R187, R196) -/

/-- The place of a fault's kind in the table of section 12.1. -/
def FaultReport.kind : FaultReport → Nat
  | .portOverflow _ => 0
  | .storeCheck _ => 1
  | .storeWrite _ => 2
  | .rosterTruncated _ => 3
  | .rosterFull _ _ => 4
  | .phaseLoss _ => 5
  | .frequencyRange _ _ => 6
  | .channelHalt _ => 7

/-- A fault's detail, each field at its own width. -/
def FaultReport.detail : FaultReport → List Byte
  | .portOverflow p => [portByte p]
  | .storeCheck image => [imageByte image]
  | .storeWrite image => [imageByte image]
  | .rosterTruncated n => be 2 n
  | .rosterFull ph address => channelByte ph :: be32 address
  | .phaseLoss ph => [phaseByte ph]
  | .frequencyRange ph f => phaseByte ph :: be 2 f
  | .channelHalt ph => [channelByte ph]

/-- A fault's time; "clock unset" is FFFFFFFFFFFFh (R196). -/
def faultTime : Option Nat → List Byte
  | none => List.replicate 6 0xFF
  | some t => be 6 t

end Sys2Proof.Machine
end

