-- ==== Sys2Proof/Machine/Ops.lean ====
section
/-! DEFINITION. The named operations over State: reading and writing each block's records, taking a command frame
(R168), queuing replies (R169), offering droppable and non-droppable notices (R171, R172), posting faults (R187) and the
LINE STATE notice (R53). -/

namespace Sys2Proof.Machine

/-! ## The records of a port and of a phase -/

def State.port (s : State) (p : Port) : PortRec := s.ports.get p
def State.modPort (s : State) (p : Port) (f : PortRec → PortRec) : State :=
  { s with ports := s.ports.set p (f (s.port p)) }

def State.chan (s : State) (ph : Phase) : Channel := s.channels.get ph
def State.modChan (s : State) (ph : Phase) (f : Channel → Channel) : State :=
  { s with channels := s.channels.set ph (f (s.chan ph)) }

def State.disc (s : State) (ph : Phase) : Discovery := s.discovery.get ph
def State.modDisc (s : State) (ph : Phase) (f : Discovery → Discovery) : State :=
  { s with discovery := s.discovery.set ph (f (s.disc ph)) }

def State.levelRec (s : State) (ph : Phase) : LevelRec := s.levels.get ph
def State.modLevel (s : State) (ph : Phase) (f : LevelRec → LevelRec) : State :=
  { s with levels := s.levels.set ph (f (s.levelRec ph)) }

def State.survey (s : State) (ph : Phase) : Survey := s.surveys.get ph
def State.modSurvey (s : State) (ph : Phase) (f : Survey → Survey) : State :=
  { s with surveys := s.surveys.set ph (f (s.survey ph)) }

def State.pingQueue (s : State) (ph : Phase) : List PingRec := s.pings.get ph
def State.modPings (s : State) (ph : Phase) (f : List PingRec → List PingRec) : State :=
  { s with pings := s.pings.set ph (f (s.pingQueue ph)) }

def State.phaseRec (s : State) (ph : Phase) : PhaseRec := s.mains.get ph
def State.setPhaseRec (s : State) (ph : Phase) (r : PhaseRec) : State := { s with mains := s.mains.set ph r }

/-- "Now": the calendar clock's present value in calendar milliseconds. -/
def State.now (s : State) : Nat := s.clock.millis

/-- The calendar millisecond of the crossing in progress on a phase (R156). -/
def State.crossingNow (s : State) (ph : Phase) : Nat :=
  match (s.phaseRec ph).lastCrossing with
  | some c => c.stamp
  | none => s.now

def State.calendarCapacity (s : State) : Nat := Config.calendarCapacity s.settings.layout
def State.rosterCapacity (s : State) : Nat := Config.rosterCapacity s.settings.layout

/-! ## Calendar entries -/

/-- The entry with a handle. -/
def State.entry? (s : State) (h : Nat) : Option Entry := s.calendar.find? (fun e => e.handle == h)

/-- Changes the entry with a handle, keeping its place. -/
def State.modEntry (s : State) (h : Nat) (f : Entry → Entry) : State :=
  { s with calendar := s.calendar.map (fun e => if e.handle == h then f e else e) }

/-- Changes one phase part of an entry. -/
def Entry.modPart (e : Entry) (ph : Phase) (f : Part → Part) : Entry :=
  { e with parts := e.parts.set ph (f (e.parts.get ph)) }

def State.modPart (s : State) (h : Nat) (ph : Phase) (f : Part → Part) : State :=
  s.modEntry h (fun e => e.modPart ph f)

/-- Changes one phase record of a confirmation progress. -/
def Confirmation.modRecord (c : Confirmation) (ph : Phase) (f : PhaseProgress → PhaseProgress) : Confirmation :=
  { c with records := c.records.set ph (f (c.records.get ph)) }

def State.modProgress (s : State) (h : Nat) (ph : Phase) (f : PhaseProgress → PhaseProgress) : State :=
  s.modEntry h (fun e => { e with confirmation := e.confirmation.map (fun c => c.modRecord ph f) })

/-- A port's live count (R3). -/
def State.liveCount (s : State) (p : Port) : Nat := (s.calendar.filter (fun e => e.origin == p)).length

/-! ## Units and groups -/

/-- The unit at a roster index; none for a free index. -/
def unitAt (roster : List (Nat × UnitRec)) (i : Nat) : Option UnitRec :=
  (roster.find? (fun x => x.1 == i)).map (·.2)

def State.unit? (s : State) (i : Nat) : Option UnitRec := unitAt s.roster i

/-- The index still holds a unit with the address (R81, R88, R92). -/
def State.holdsUnit (s : State) (i : Nat) (address : Address) : Bool :=
  match s.unit? i with
  | some u => u.address == address
  | none => false

/-- Changes the unit at an index. -/
def State.modUnit (s : State) (i : Nat) (f : UnitRec → UnitRec) : State :=
  { s with roster := s.roster.map (fun x => if x.1 == i then (x.1, f x.2) else x) }

/-- The index of the unit with an address. -/
def State.indexOf? (s : State) (address : Address) : Option (Nat × UnitRec) :=
  s.roster.find? (fun x => x.2.address == address)

def State.group (s : State) (g : Nat) : GroupRec := s.groups.getD g GroupRec.fresh
def State.modGroup (s : State) (g : Nat) (f : GroupRec → GroupRec) : State :=
  { s with groups := s.groups.set g (f (s.group g)) }

def State.permit (s : State) (g : Nat) : Permit := s.settings.permits.getD g .both

/-- The members of a group on a phase, as the Group Table figures them. -/
def State.figures (s : State) (g : Nat) (ph : Phase) : Figures := (s.group g).figures.get ph

/-- A part of a group on a phase is needed while the group has members there (R5). -/
def State.needed (s : State) (g : Nat) (ph : Phase) : Bool := 0 < (s.figures g ph).members

/-! ## The out-queue and the FIFO -/

/-- The notices of an out-queue. -/
def noticeCount (q : List Item) : Nat := (q.filter Item.isNotice).length

/-- A notice finds room while both bounds of R169 leave it a place. -/
def noticeRoom (q : List Item) : Bool :=
  q.length < Config.outQueueItems && noticeCount q < Config.outQueueNotices

/-- Queues an item at the end of the port's out-queue. -/
def State.pushItem (s : State) (p : Port) (i : Item) : State :=
  s.modPort p (fun r => { r with outq := r.outq ++ [i] })

/-- Queues the reply of a command (R168, R169). -/
def State.reply (s : State) (p : Port) (code tag : Byte) (outcome : ReplyCode) (contents : List Byte) : State :=
  s.pushItem p (.reply code tag outcome contents)

/-- Offers a droppable notice to one port (R171). -/
def State.offer (s : State) (p : Port) (i : Item) : State :=
  if noticeRoom (s.port p).outq then s.pushItem p i
  else s.modPort p (fun r => { r with drops := saturatingSucc Config.counterTop r.drops })

/-- Offers a droppable notice to both ports (R169). -/
def State.offerBoth (s : State) (i : Item) : State := (s.offer .A i).offer .B i

/-- What a frame at the head of a port's FIFO reads as. -/
def State.headReading (s : State) (p : Port) : Option FrameReading :=
  match (s.port p).fifo with
  | [] => none
  | f :: _ => some (readFrame p f.overLong f.bytes)

def isResetPort : Instr → Bool
  | .resetPort .. => true
  | _ => false

/-- The out-queue has a place for the reply, or the command is RESET PORT, which empties it first (R168). -/
def State.replyRoom (s : State) (p : Port) (i : Instr) : Bool :=
  (s.port p).outq.length < Config.outQueueItems || isResetPort i

/-- The oldest frame leaves the FIFO. -/
def State.popFrame (s : State) (p : Port) : State := s.modPort p (fun r => { r with fifo := r.fifo.tail })

/-- The taking of a client command (R168), with the frame gone from the FIFO. The command is taken when there is room
for its reply and its frame is the oldest of the FIFO, or arrives as it is taken, the FIFO being empty; otherwise it is
not taken (log 1). -/
def State.take (s : State) (p : Port) (i : Instr) : Option State :=
  if !s.replyRoom p i then none
  else
    match s.headReading p with
    | none => some s
    | some reading => if reading = .command i then some (s.popFrame p) else none

/-- Carries a client command out where the port takes it, and leaves the state as it is where it does not (log 1). -/
def whenTaken (s : State) (p : Port) (i : Instr) (f : State → State) :
    Host.Outcome State Fault Refusal :=
  match s.take p i with
  | some t => .next (f t)
  | none => .next s

/-! ## Held notices (R172) -/

/-- The oldest HELD ping record of a port, and its result. -/
def heldPing (p : Port) (q : List PingRec) : Option (PingRec × PingResult) :=
  q.findSome? (fun r =>
    if r.origin == p then
      match r.state with
      | .held result => some (r, result)
      | _ => none
    else none)

/-- A record is HELD for the port. -/
def isHeldFor (p : Port) (r : PingRec) : Bool :=
  r.origin == p && (match r.state with | .held _ => true | _ => false)

/-- PING RESULT (R93). DESIGN CHOICE (log 10): the hop-up margin of an ANSWERED carries a presence byte, 00h and zero
for a direct unit, and SILENT and NOT SENT carry nothing after the result. -/
def pingNotice (ph : Phase) (r : PingRec) (result : PingResult) : Item :=
  let lead := [r.tag, channelByte ph] ++ be 2 r.index ++ be32 r.address
  .notice .pingResult
    (match result with
     | .answered uplink downlink hopUp sequence hops mode =>
         lead ++ [0, byteOf uplink, byteOf downlink] ++ optionalNat 1 (if hops = 0 then none else some hopUp) ++
           optionalByte sequence ++ [byteOf hops, modeByte mode]
     | .silent => lead ++ [1]
     | .notSent => lead ++ [2])

/-- STORE DONE (R184): the result byte is 00h for OK, 01h for FAILED. -/
def storeDoneNotice (d : StoreDone) : Item :=
  .notice .storeDone [d.tag, imageByte d.image, if d.ok then 0 else 1]

/-- The notice an owner holds for a port. -/
def State.heldItem (s : State) (p : Port) : HeldOwner → Option Item
  | .outcome h => ((s.entry? h).bind (·.record)).map (Item.notice .outcome)
  | .ping ph => (heldPing p (s.pingQueue ph)).map (fun x => pingNotice ph x.1 x.2)
  | .storeDone => s.store.heldDone.map storeDoneNotice
  | .survey ph => ((s.survey ph).held.find? (fun x => x.1 == p)).map (·.2)

/-- Removes an entry from the calendar and from its origin's retirement queue, freeing its handle (R26). -/
def State.retireEntry (s : State) (p : Port) (h : Nat) : State :=
  { s with
    calendar := s.calendar.filter (fun e => e.handle != h)
    retirement := s.retirement.set p ((s.retirement.get p).filter (· != h)) }

/-- The owner completes the work that waited on its notice (R172). -/
def State.completeHeld (s : State) (p : Port) : HeldOwner → State
  | .outcome h => s.retireEntry p h
  | .ping ph => s.modPings ph (List.eraseP (isHeldFor p))
  | .storeDone => { s with store := { s.store with heldDone := none } }
  | .survey ph => s.modSurvey ph (fun v => { v with held := v.held.eraseP (fun x => x.1 == p) })

/-- Queues an owner's notice, and the owner completes its work on the same event. -/
def State.queueHeld (s : State) (p : Port) (o : HeldOwner) : State :=
  match s.heldItem p o with
  | some i => (s.pushItem p i).completeHeld p o
  | none => s

/-- Offers a non-droppable notice its owner now holds (R169, R172): it is queued at once where the held-notice list is
empty and the out-queue has room, and joins the list otherwise. -/
def State.offerHeld (s : State) (p : Port) (o : HeldOwner) : State :=
  if (s.port p).held.isEmpty && noticeRoom (s.port p).outq then s.queueHeld p o
  else s.modPort p (fun r => { r with held := r.held ++ [o] })

/-- A port's attention output (R169). -/
def State.attention (s : State) (p : Port) : Bool := !(s.port p).outq.isEmpty

/-! ## Faults (R187) -/

/-- FAULT: kind, time, detail, new generation, and whether this fault filled the record. -/
def faultNotice (f : FaultReport) (time : Option Nat) (generation : Nat) (filled : Bool) : Item :=
  .notice .fault ([byteOf f.kind] ++ faultTime time ++ f.detail ++ be 2 generation ++ [flagByte filled])

/-- The time a fault is recorded with: the calendar milliseconds, or "clock unset" (R187). -/
def State.faultTime (s : State) : Option Nat := if s.clock.isSet then some s.now else none

/-- FREC takes a fault: it fills an absent record, raises the kind's counter and the generation, and offers FAULT to
both ports (R187). -/
def State.post (s : State) (f : FaultReport) : State :=
  let filled := s.faults.record.isNone
  let generation := wrappingSucc Config.counterTop s.faults.generation
  let faults : FaultRec :=
    { record := if filled then some (f, s.faultTime) else s.faults.record
      counters := s.faults.counters.set f.kind (saturatingSucc 255 (s.faults.counters.getD f.kind 0))
      generation }
  State.offerBoth { s with faults } (faultNotice f s.faultTime generation filled)

/-! ## The line state (R50 to R53) -/

/-- LINE STATE: the line state and the hold set (R53). -/
def lineNotice (line : LineState) (hold : Duo Bool) : Item :=
  .notice .lineState [lineStateByte line, portsByte hold]

/-- Offers LINE STATE to both ports if the line state or the hold set differs from what it was (R53). -/
def State.noteLine (s : State) (line : LineState) (hold : Duo Bool) : State :=
  if s.line = line && s.hold = hold then s else s.offerBoth (lineNotice s.line s.hold)

/-- SENDING or LISTENING. -/
def Channel.busy (c : Channel) : Bool := c.state = .sending || c.state = .listening

def State.anyBusy (s : State) : Bool := s.channels.toList.any Channel.busy

/-- A DRAINING line becomes HELD when no channel is SENDING or LISTENING (R51). -/
def State.settleLine (s : State) : State :=
  if s.line = .draining && !s.anyBusy then { s with line := .held } else s

/-- The test of R51, made on the event that ends a channel's work, with its notice. -/
def State.checkDrained (s : State) : State := s.settleLine.noteLine s.line s.hold

/-- The hold set without a port, and what it does to the line (R52). -/
def State.releaseHold (s : State) (p : Port) : State :=
  let hold := s.hold.set p false
  let line :=
    if !(hold.a || hold.b) && (s.line = .draining || s.line = .held) then LineState.running else s.line
  { s with hold, line }

/-- The joint test: STOPPED, or HELD with both ports in the hold set (R54). -/
def State.joint (s : State) : Bool := s.line = .stopped || (s.line = .held && s.hold.a && s.hold.b)

end Sys2Proof.Machine
end

