-- ==== Sys2Proof/Machine/Plan.lean ====
section
/-! DEFINITION. Chapter 2: frame airtimes (R34), flood and part spans (R35, R36), milliseconds (R37), latest and earliest
starts (R38), the delay field (R44, R46), exchange spans (R47) and probe stretches (R121). -/

namespace Sys2Proof.Machine

/-- Body bytes carried in one slot (R34). -/
def bytesPerSlot : Mode → Nat
  | .robust => 1
  | .normal => 2
  | .fast => 4

/-- The slower of two modes, in the order ROBUST, NORMAL, FAST from slowest to fastest (R98). -/
def slower (a b : Mode) : Mode :=
  match a, b with
  | .robust, _ => .robust
  | _, .robust => .robust
  | .normal, _ => .normal
  | _, .normal => .normal
  | .fast, .fast => .fast

/-- The airtime A of a frame in slots (R34). -/
def airtime (bytes : Nat) (m : Mode) : Nat := 2 + divUp bytes (bytesPerSlot m)

/-- The bytes of a BROADCAST (R34). -/
def broadcastSize : Nat := 16
/-- The bytes of a DIRECT over `h` relays (R34). -/
def directSize (h : Nat) : Nat := 16 + 4 * h
/-- The bytes of a POLL or a PING over `h` relays (R34). -/
def pollSize (h : Nat) : Nat := 11 + 4 * h
/-- The bytes of a REPLY over `h` relays (R34). -/
def replySize (h : Nat) : Nat := 15 + 4 * h
/-- The bytes of a PROBE over `h` hops (R121). -/
def probeSize (h : Nat) : Nat := 15 + 4 * h
/-- The bytes of a PROBE REPLY over `h` hops (R121). -/
def probeReplySize (h : Nat) : Nat := 17 + 4 * h

/-- One frame sent `h + 1` times, `g` slots apart: (h + 1) × A + h × g (R35, R47, R121). -/
def relayedSpan (h a g : Nat) : Nat := (h + 1) * a + h * g

/-- The flood span F (R35). -/
def floodSpan (depth : Nat) (m : Mode) (g : Nat) : Nat := relayedSpan depth (airtime broadcastSize m) g

/-- The part span B of a needed part (R36). -/
def partSpan (repeats depth : Nat) (m : Mode) (g : Nat) : Nat :=
  repeats * floodSpan depth m g + (repeats - 1) * g

/-- A span of slots as calendar milliseconds, rounded up (R37). -/
def slotMillis (slots fPlan : Nat) : Nat := divUp (slots * 50000) fPlan

/-- The latest start, floored at 0 (R38). -/
def latestStart (activation guardMs spanMs : Nat) : Nat := activation * 1000 - guardMs - spanMs

/-- The earliest start, floored at 0 (R38). -/
def earliestStart (ls leadS : Nat) : Nat := ls - leadS * 1000

/-- The delay field in deciseconds: 0 where the difference is not positive, at most 65535 (R44). -/
def delayField (activation endMs : Nat) : Nat := min 65535 (divUp (activation * 1000 - endMs) 100)

/-- The outbound airtime of an exchange's frame (R34). -/
def outboundAirtime (k : ExchangeFrame) (h : Nat) (m : Mode) : Nat :=
  match k with
  | .direct => airtime (directSize h) m
  | .poll => airtime (pollSize h) m
  | .ping => airtime (pollSize h) m

/-- The outbound span P of an exchange (R47). -/
def outboundSpan (k : ExchangeFrame) (h : Nat) (m : Mode) (g : Nat) : Nat := relayedSpan h (outboundAirtime k h m) g

/-- The silence point of an exchange: P + g + Q + t slots (R47). -/
def silenceSlots (k : ExchangeFrame) (h : Nat) (m : Mode) (g t : Nat) : Nat :=
  outboundSpan k h m g + g + relayedSpan h (airtime (replySize h) m) g + t

/-- The outbound span P of a probe (R121). -/
def probeSpan (h g : Nat) : Nat := relayedSpan h (airtime (probeSize h) .robust) g

/-- The window span W of a probe (R121). -/
def windowSpan (h g : Nat) : Nat := relayedSpan h (airtime (probeReplySize h) .robust) g

/-- The slots from a probe's start to the end of window `k` (R121). -/
def windowEnd (outSpan window g k : Nat) : Nat := outSpan + g + (k + 1) * window + k * g

/-- The repeat setting of an entry's class (R32). -/
def repeatSetting (s : Settings) : EntryClass → Nat
  | .routine => s.routineRepeats
  | .urgent => s.urgentRepeats

/-- The five figures of a plan (R32). -/
structure PlanFigures where
  depth : Nat
  mode : Mode
  planned : Nat
  ls : Nat
  es : Nat
deriving DecidableEq, Repr

/-- The plan of a phase part from the inputs as they stand (R32, R36, R38). -/
def State.plan (s : State) (group : Nat) (cls : EntryClass) (activation : Nat) (ph : Phase) : PlanFigures :=
  let fig := s.figures group ph
  let planned := repeatSetting s.settings cls
  let span := if fig.members = 0 then 0 else partSpan planned fig.depth fig.mode s.settings.gap
  let ls := latestStart activation s.settings.guardMs (slotMillis span s.fPlan)
  { depth := fig.depth, mode := fig.mode, planned, ls, es := earliestStart ls s.settings.leadS }

/-- A part with new figures in it (R14). -/
def Part.replan (p : Part) (f : PlanFigures) : Part :=
  { p with depth := f.depth, mode := f.mode, planned := f.planned, ls := f.ls, es := f.es }

/-- A part as admission makes it, before its state is read (R11). -/
def Part.admitted (f : PlanFigures) : Part :=
  { state := .waiting, finish := none, depth := f.depth, mode := f.mode, planned := f.planned, sent := 0, ls := f.ls,
    es := f.es, start := none, finishNeeded := false }

end Sys2Proof.Machine
end

