-- ==== Sys2Proof/Machine/RosterData.lean ====
section
/-! DEFINITION. Chapter 5 as functions of the roster: path modes (R98), the route law (R102), the invalidation cascade
(R103), membership and derived figures (R114), the free indices (R96), and the roster's bytes in items (R108). -/

namespace Sys2Proof.Machine

abbrev Roster := List (Nat × UnitRec)

/-- Every unit is a member of group 0 (R97). -/
def UnitRec.member (u : UnitRec) (g : Nat) : Bool := g == 0 || u.groups.contains g

def UnitRec.reachable (u : UnitRec) : Bool := u.state != .lost

/-- The path mode of a unit: the slowest of its own mode and the own modes of the relays on its route (R98). -/
def pathMode (r : Roster) (u : UnitRec) : Mode :=
  u.route.foldl (fun m i => match unitAt r i with | some v => slower m v.mode | none => m) u.mode

/-- The relay addresses of a route, route position 1 first (R193). -/
def routeAddresses (r : Roster) (route : List Nat) : List Address :=
  route.map (fun i => match unitAt r i with | some v => v.address | none => 0)

/-- The members of a group on a phase. -/
def membersOn (r : Roster) (g : Nat) (ph : Phase) : List UnitRec :=
  (r.map (·.2)).filter (fun u => u.phase == ph && u.member g)

/-- The derived figures of a group on a phase (R114). -/
def figuresOf (r : Roster) (g : Nat) (ph : Phase) : Figures :=
  let ms := membersOn r g ph
  let reachable := ms.filter UnitRec.reachable
  { members := ms.length
    reachable := reachable.length
    depth := ms.foldl (fun d u => max d u.route.length) 0
    mode := if reachable.isEmpty then .robust else reachable.foldl (fun m u => slower m (pathMode r u)) .fast }

/-- The lowest index from `i` on that a rising list does not hold. -/
def lowestFrom (i : Nat) : Roster → Nat
  | [] => i
  | x :: rest => if x.1 = i then lowestFrom (i + 1) rest else i

/-- The lowest free index (R96); none when the roster is full. -/
def lowestFree (capacity : Nat) (r : Roster) : Option Nat :=
  let i := lowestFrom 0 r
  if i < capacity then some i else none

/-- Records a unit at an index, keeping the indices rising. -/
def putUnit (i : Nat) (u : UnitRec) : Roster → Roster
  | [] => [(i, u)]
  | x :: rest => if i < x.1 then (i, u) :: x :: rest else if x.1 = i then (i, u) :: rest else x :: putUnit i u rest

/-- The test of R102 for a unit on a phase, with its own index where it has one. -/
def routeLawful (r : Roster) (ph : Phase) (own : Option Nat) (route : List Nat) : Bool :=
  match route.getLast? with
  | none => true
  | some last =>
      route.length ≤ 3 &&
        (match unitAt r last with
         | some v => v.relayCapable && v.phase == ph && v.route ++ [last] == route
         | none => false) &&
        (match own with
         | some i => !route.contains i
         | none => true)

/-- A route parameter as roster indices; none for a count above 3 (R195). -/
def routeOfArg (a : RouteArg) : Option (List Nat) :=
  if a.count.toNat ≤ 3 then some ([a.hop1.toNat, a.hop2.toNat, a.hop3.toNat].take a.count.toNat) else none

/-- A groups-list parameter as groups; none for a list that breaks the limits of R105. -/
def groupsOfArg (a : GroupsArg) : Option (List Nat) :=
  let gs := [a.g1.toNat, a.g2.toNat, a.g3.toNat, a.g4.toNat].take a.count.toNat
  if a.count.toNat ≤ 4 && gs.all (fun g => 1 ≤ g && g ≤ 63) && gs.Nodup then some gs else none

/-- A unit whose route names one of these indices. -/
def UnitRec.dependsOn (u : UnitRec) (indices : List Nat) : Bool := u.route.any indices.contains

/-- An invalidated unit: route cleared, and LOST (R103). -/
def UnitRec.invalidated (u : UnitRec) : UnitRec := { u with route := [], state := .lost }

/-- The cascade of R103: the dependents of the withdrawn relays lose their routes, then their own dependents, and so on;
the unit that started it is left out. Each round clears at least one route, so a round for each unit is enough. -/
def invalidate (starter : Nat) : Nat → List Nat → Roster → Roster
  | 0, _, r => r
  | rounds + 1, sources, r =>
      let hit := (r.filter (fun x => x.1 != starter && x.2.dependsOn sources)).map (·.1)
      if hit.isEmpty then r
      else invalidate starter rounds hit (r.map (fun x => if hit.contains x.1 then (x.1, x.2.invalidated) else x))

/-- The roster after the dependents of one relay have lost their routes (R103). -/
def invalidateFrom (i : Nat) (r : Roster) : Roster := invalidate i r.length [i] r

/-- The indices whose record differs between two rosters with the same indices. -/
def changedUnits (before after : Roster) : List (Nat × UnitRec) :=
  after.filter (fun x => unitAt before x.1 != some x.2)

/-- The units that went from ACTIVE or DEGRADED to LOST (R101), in ascending order of index. -/
def newlyLost (before after : Roster) : List (Nat × UnitRec) :=
  after.filter (fun x =>
    x.2.state == .lost && (match unitAt before x.1 with | some u => u.state != .lost | none => false))

/-- The groups of every unit whose route contains an index (R115). -/
def dependentGroups (r : Roster) (i : Nat) : List Nat :=
  (r.filter (fun x => x.2.route.contains i)).flatMap (fun x => x.2.groups)

/-- A margin sample: the lower of the downlink margin and, direct, the uplink margin, else the hop-up margin (R132). -/
def marginSample (hops uplink downlink hopUp : Nat) : Nat := min downlink (if hops = 0 then uplink else hopUp)

/-- The estimate after a sample that does not seed it (R134). -/
def nextEstimate (estimate sample : Nat) : Nat :=
  holdWithin 0 255 ((estimate : Int) + (((sample : Int) - estimate + 2) / 4)).toNat

/-- Reselection of the own mode (R136). -/
def reselect (held : Mode) (estimate : Nat) : Mode :=
  if estimate < 48 then .robust
  else if estimate < 56 then (match held with | .robust => .robust | _ => .normal)
  else if estimate < 88 then .normal
  else if estimate < 96 then (match held with | .fast => .fast | _ => .normal)
  else .fast

/-- A sample taken by a unit: it seeds or updates the estimate, and the own mode is reselected (R133, R134, R136). -/
def UnitRec.takeSample (u : UnitRec) (seed : Bool) (sample : Nat) : UnitRec :=
  if seed || u.samples = 0 then { u with margin := sample, samples := 1, mode := reselect .robust sample }
  else
    let estimate := nextEstimate u.margin sample
    { u with margin := estimate, samples := saturatingSucc 255 u.samples, mode := reselect u.mode estimate }

/-- A unit as ADD UNIT records it, without any sample (R105, R124). -/
def UnitRec.added (address : Address) (ph : Phase) (groups : List Nat) (relayCapable : Bool) (route : List Nat) :
    UnitRec :=
  { address, phase := ph, groups, relayCapable, route, state := .active, pinned := false, margin := 0, samples := 0,
    mode := .robust, silence := 0, lastHeard := none }

/-- A unit heard: ACTIVE, silence count 0, and last heard if the clock is SET (R88, R125). DESIGN CHOICE (log 48): a
probe reply of a known unit leaves last heard while the clock is UNSET, as R162 says and R125 by R124 does not. -/
def UnitRec.heard (u : UnitRec) (second : Option Nat) : UnitRec :=
  { u with state := .active, silence := 0, lastHeard := second.or u.lastHeard }

/-! ## Units as bytes (R108) -/

/-- A groups list: a count byte, then four places (R195). -/
def groupListBytes (gs : List Nat) : List Byte :=
  byteOf gs.length :: ((gs ++ List.replicate 4 0).take 4).map byteOf

/-- A route: a count byte, then three roster indices (R195). -/
def routeListBytes (route : List Nat) : List Byte :=
  byteOf route.length :: ((route ++ List.replicate 3 0).take 3).flatMap (be 2)

/-- The bytes of a unit record, every field of R97 and the path mode (R108). -/
def unitBytes (r : Roster) (u : UnitRec) : List Byte :=
  be32 u.address ++ [phaseByte u.phase] ++ groupListBytes u.groups ++ [flagByte u.relayCapable] ++
    routeListBytes u.route ++
    [unitStateByte u.state, flagByte u.pinned, byteOf u.margin, byteOf u.samples, modeByte u.mode, byteOf u.silence] ++
    optionalNat 4 u.lastHeard ++ [modeByte (pathMode r u)]

/-- The width of a unit record's bytes. -/
def unitWidth : Nat := 30

/-- A record as READ UNIT gives it: absent for a free index (R108). -/
def unitReply (r : Roster) (u : Option UnitRec) : List Byte := optionalBytes unitWidth (unitBytes r) u

end Sys2Proof.Machine
end

