-- ==== Sys2Proof/Machine/CalendarOps.lean ====
section
/-! DEFINITION. The calendar's shared operations: entry states (R8), finishing parts (R6, R7), cut-offs and cancellation
of parts (R16, R21, R71), outcomes and retirement (R23 to R26), the confirmation progress (R78 to R87), cutting short
(R73, R74), and the re-reading of waiting plans (R14, R40 to R42). -/

namespace Sys2Proof.Machine

/-! ## Entry states (R8) -/

def Entry.allFinished (e : Entry) : Bool := e.parts.toList.all (fun p => p.state = .finished)
def Entry.anyStarted (e : Entry) : Bool := e.parts.toList.any (fun p => p.start.isSome)
def Entry.anyReady (e : Entry) : Bool := e.parts.toList.any (fun p => p.state = .ready)

/-- The state of an entry (R8). -/
def Entry.state (e : Entry) : EntryState :=
  if e.outcome.isSome then .retiring
  else if e.allFinished then (if e.confirmation.isSome then .confirming else .waiting)
  else if e.anyStarted then .sending
  else if e.anyReady then .ready
  else .waiting

/-- The entry is SENDING or CONFIRMING, and so holds its group's lock (R72). -/
def Entry.locks (e : Entry) : Bool := e.state = .sending || e.state = .confirming

/-- The cut-off second: the expiry if present, otherwise the activation (R16). -/
def Entry.cutOff (e : Entry) : Nat := e.expiry.getD e.activation

/-- A flood of the entry is in flight on the phase. -/
def State.floodOf (s : State) (h : Nat) (ph : Phase) : Bool :=
  match (s.chan ph).work with
  | some (.flood f) => f.entry == some h
  | _ => false

/-- An exchange of the entry is in flight on the phase. -/
def State.exchangeOf (s : State) (h : Nat) (ph : Phase) : Bool :=
  match (s.chan ph).work with
  | some (.exchange x) => (match x.owner with | .confirm e => e == some h | _ => false)
  | _ => false

def State.anyExchangeOf (s : State) (h : Nat) : Bool := phases.any (s.exchangeOf h)

/-! ## Outcome and retirement (R23 to R26) -/

def Confirmation.sum (c : Confirmation) (f : PhaseProgress → Nat) : Nat :=
  f c.records.l1 + f c.records.l2 + f c.records.l3

/-- Every part finished NOT NEEDED (R23). -/
def Entry.noneNeeded (e : Entry) : Bool := e.parts.toList.all (fun p => p.finish = some .notNeeded)

/-- Every needed part finished MISSED, a part being needed by its group's membership when it finished (R23). DESIGN
CHOICE (log 14): this line of the table decides, so that the outcome is EXPIRED, also where a part that was not needed
when it finished had sent, though R23's closing sentence gives a MISSED part beside a part that sent INCOMPLETE. -/
def Entry.neededMissed (e : Entry) : Bool := e.parts.toList.all (fun p => !p.finishNeeded || p.finish = some .missed)

/-- The parts of a COMPLETE entry: ON TIME or NOT NEEDED, every ON TIME part with its repeats all sent (R23). -/
def Entry.partsComplete (e : Entry) : Bool :=
  e.parts.toList.all (fun p => p.finish = some .notNeeded || (p.finish = some .onTime && p.sent = p.planned))

/-- With confirm, no unit is unconfirmed or not reached (R23). -/
def Entry.confirmedAll (e : Entry) : Bool :=
  match e.confirmation with
  | some c => !e.confirm || (c.sum (·.unconfirmed) = 0 && c.sum (·.notReached) = 0)
  | none => true

/-- The outcome, by the first line of R23's table that applies (log 14). -/
def Entry.decided (e : Entry) : EntryOutcome :=
  if e.cancelled then .cancelled
  else if e.noneNeeded then .complete
  else if e.neededMissed then .expired
  else if e.partsComplete && e.confirmedAll then .complete
  else .incomplete

/-- A part as the OUTCOME notice carries it (R197). -/
def outcomePartBytes (p : Part) : List Byte :=
  [finishByte (p.finish.getD .missed), byteOf p.planned, byteOf p.sent] ++ optionalNat 6 p.start

/-- The confirmation section of the OUTCOME notice: the counts summed over the phases, and the list (R197). -/
def confirmationBytes (c : Confirmation) : List Byte :=
  be 2 (c.sum (·.expected)) ++ be 2 (c.sum (·.confirmed)) ++ be 2 (c.sum (·.superseded)) ++
    be 2 (c.sum (·.notAttempted)) ++ be 2 (c.sum (·.notReached)) ++ be 2 (c.sum (·.unconfirmed)) ++
    countedBytes (be 2) c.unconfirmedList

/-- The flags of the OUTCOME notice (R197). -/
def Entry.flagBits (e : Entry) : Byte :=
  (if e.lateAdmission then 1 else 0) + (if e.timeStepped then 2 else 0) + (if e.cutShort then 4 else 0) +
    (if e.confirmation.isSome then 8 else 0)

/-- The outcome record of R24 in the layout of R197. -/
def Entry.outcomeBytes (e : Entry) (outcome : EntryOutcome) : List Byte :=
  be 2 e.handle ++ [e.tag, byteOf e.group, actionByte e.action, durationByte e.action] ++ be 4 e.activation ++
    [entryOutcomeByte outcome] ++ optionalByte e.sequence ++ [e.flagBits] ++
    e.parts.toList.flatMap outcomePartBytes ++
    (match e.confirmation with | some c => confirmationBytes c | none => [])

/-- The entry with its outcome decided and its record composed (R23, R24). DESIGN CHOICE (log 41): its confirmation
progress stays in it while it is RETIRING, and READ ENTRY goes on showing it (R28, R78). -/
def Entry.retired (e : Entry) : Entry :=
  { e with outcome := some e.decided, record := some (e.outcomeBytes e.decided) }

/-- The outcome is decided and its record composed, once (R23, R24). The entry joins its retirement queue at the end of
the event (`retireSince`). -/
def State.decideOutcome (s : State) (h : Nat) : State :=
  s.modEntry h (fun e => if e.outcome.isSome then e else e.retired)

/-- An entry joins its origin's retirement queue and offers OUTCOME (R25, R26). -/
def State.joinRetirement (s : State) (h : Nat) : State :=
  match s.entry? h with
  | some e =>
      State.offerHeld { s with retirement := s.retirement.set e.origin (s.retirement.get e.origin ++ [h]) }
        e.origin (.outcome h)
  | none => s

/-- The outcome of an entry has been decided since a state: it has one now, and its handle had none then. -/
def Entry.decidedSince (before : State) (e : Entry) : Bool :=
  e.outcome.isSome && !before.calendar.any (fun x => x.handle == e.handle && x.outcome.isSome)

/-- The end of an event that began in a state: the entries whose outcomes it decided join their retirement queues and
offer OUTCOME, in calendar order (R25, log 27). -/
def State.retireSince (s before : State) : State :=
  ((s.calendar.filter (Entry.decidedSince before)).map (·.handle)).foldl State.joinRetirement s

/-! ## The confirmation progress (R78 to R87) -/

/-- A phase record as it is created (R78). -/
def PhaseProgress.fresh : PhaseProgress :=
  { cursor := 0, current := none, attempts := 0, resendDone := false, nextFrame := .poll, expected := 0,
    confirmed := 0, superseded := 0, notAttempted := 0, notReached := 0, unconfirmed := 0 }

/-- The phase has confirmation work: R79 leaves a current unit while the cursor has member units still to visit. -/
def PhaseProgress.hasWork (r : PhaseProgress) : Bool := r.current.isSome

/-- The cursor's walk over the units from its index on: it stops after the next member that is not LOST, counting the
LOST members it passes, or at the end (R79). -/
def advanceOver (group : Nat) (ph : Phase) (capacity : Nat) : Roster → PhaseProgress → PhaseProgress
  | [], r => { r with cursor := max r.cursor capacity }
  | x :: rest, r =>
      if x.1 < r.cursor || x.2.phase != ph || !x.2.member group then advanceOver group ph capacity rest r
      else if x.2.state = .lost then
        advanceOver group ph capacity rest { r with notAttempted := r.notAttempted + 1, cursor := x.1 + 1 }
      else
        { r with
          expected := r.expected + 1, current := some (x.1, x.2.address), attempts := 0, resendDone := false,
          nextFrame := .poll, cursor := x.1 + 1 }

/-- A phase record's cursor advances while it has no current unit (R79). -/
def State.advanceCursor (s : State) (group : Nat) (ph : Phase) (r : PhaseProgress) : PhaseProgress :=
  if r.current.isSome then r else advanceOver group ph s.rosterCapacity s.roster r

/-- The members of a group on a phase at or ahead of an index, LOST ones too (R74). -/
def State.membersAhead (s : State) (group : Nat) (ph : Phase) (cursor : Nat) : Nat :=
  (s.roster.filter (fun x => cursor ≤ x.1 && x.2.phase == ph && x.2.member group)).length

/-- Confirmation on a phase ends early: every member ahead, and the undecided current unit, is counted not reached
(R73, R74). DESIGN CHOICE (log 47): the record is left with its cursor at the end and no current unit. -/
def State.countNotReached (s : State) (group : Nat) (ph : Phase) (r : PhaseProgress) : PhaseProgress :=
  { r with
    notReached := r.notReached + s.membersAhead group ph r.cursor + (if r.current.isSome then 1 else 0)
    current := none
    cursor := max r.cursor s.rosterCapacity }

/-- Neither cancelled nor cut short by R74, so that its confirmation goes on (R73). -/
def Entry.confirmLive (e : Entry) : Bool := !e.cancelled && !e.confirmStopped

def Entry.hasConfirmWork (e : Entry) (ph : Phase) : Bool :=
  match e.confirmation with
  | some c => (c.records.get ph).hasWork
  | none => false

def Entry.confirming (e : Entry) : Bool := e.state = .confirming

/-- Every phase of the entry counts what it has not reached (R74). -/
def State.countAllNotReached (s : State) (e : Entry) : Entry :=
  { e with
    confirmation := e.confirmation.map (fun c =>
      { c with
        records := ⟨s.countNotReached e.group .L1 c.records.l1, s.countNotReached e.group .L2 c.records.l2,
          s.countNotReached e.group .L3 c.records.l3⟩ }) }

/-- What a CONFIRMING entry with no exchange in flight comes to: a cancelled one retires with its counts as they stand
(R22), one cut short counts the members not reached (R74), and one without work left retires (R87). -/
def State.settleConfirm (s : State) (h : Nat) : State :=
  match s.entry? h with
  | some e =>
      if !e.confirming || s.anyExchangeOf h then s
      else if e.cancelled then s.decideOutcome h
      else if e.confirmStopped then (s.modEntry h s.countAllNotReached).decideOutcome h
      else if phases.any e.hasConfirmWork then s
      else s.decideOutcome h
  | none => s

/-- Another entry of the group has a READY part with LS at or before now (R74). -/
def State.dueAgainst (s : State) (x : Entry) : Bool :=
  s.calendar.any (fun y => y.handle != x.handle && y.group == x.group &&
    y.parts.toList.any (fun p => p.state = .ready && p.ls ≤ s.now))

/-- The entry is to be cut short now (R74). -/
def State.toCutShort (s : State) (x : Entry) : Bool := x.confirming && x.confirmLive && s.dueAgainst x

/-- An entry is cut short: no further exchange starts, and its cut-short flag is set (R74). -/
def State.cutShort (s : State) (h : Nat) : State :=
  (s.modEntry h (fun e => { e with cutShort := true, confirmStopped := true })).settleConfirm h

/-- An entry is cut short if the condition of R74 reaches it. -/
def State.judgeCutShort (s : State) (h : Nat) : State :=
  match s.entry? h with
  | some x => if s.toCutShort x then s.cutShort h else s
  | none => s

/-- The entries of a group that the condition of R74 reaches are cut short. -/
def State.cutShortGroup (s : State) (g : Nat) : State :=
  ((s.calendar.filter (fun x => x.group == g)).map (·.handle)).foldl State.judgeCutShort s

/-- Confirmation on one phase of an entry ends because its channel is HALTED (R73). -/
def State.endPhase (s : State) (ph : Phase) (e : Entry) : Entry :=
  { e with
    cutShort := true
    confirmation := e.confirmation.map (fun c => c.modRecord ph (s.countNotReached e.group ph)) }

/-- The record of a phase whose part did not carry the command is set straight to the end (R78). -/
def Entry.carried (e : Entry) (ph : Phase) : Bool :=
  (e.parts.get ph).finish != some .missed && (e.parts.get ph).finish != some .notNeeded

/-- A phase record as the entry enters CONFIRMING: created, and advanced on the same event (R78, R79). -/
def State.firstRecord (s : State) (e : Entry) (ph : Phase) : PhaseProgress :=
  if e.carried ph then s.advanceCursor e.group ph PhaseProgress.fresh
  else { PhaseProgress.fresh with cursor := s.rosterCapacity }

/-- The entry with its confirmation progress (R9, R78). -/
def State.withProgress (s : State) (e : Entry) : Entry :=
  { e with
    confirmation := some
      { records := ⟨s.firstRecord e .L1, s.firstRecord e .L2, s.firstRecord e .L3⟩, unconfirmedList := [] } }

/-- An entry enters CONFIRMING (R9): its progress is created; confirmation ends at once on the phases whose channels
are HALTED (R73); it is cut short if another entry of the group is already due (R74); and its outcome is decided if
nothing is left to confirm (R87). -/
def State.enterConfirming (s : State) (h : Nat) : State :=
  let s := s.modEntry h s.withProgress
  let s := (phases.filter (fun ph => (s.chan ph).state = .halted)).foldl
    (fun s ph => s.modEntry h (s.endPhase ph)) s
  (s.judgeCutShort h).settleConfirm h

/-! ## Finishing parts (R6, R7, R9) -/

/-- The finish of a started part: MISSED if nothing was sent, else by its start time against its LS (R65, R66). -/
def Part.startedFinish (p : Part) : Finish :=
  if p.sent = 0 then .missed
  else match p.start with
    | some t => if t ≤ p.ls then .onTime else .late
    | none => .missed

/-- PART FINISHED (R7). -/
def partFinishedNotice (e : Entry) (ph : Phase) (f : Finish) (sent : Nat) : Item :=
  .notice .partFinished (be 2 e.handle ++ [e.tag, phaseByte ph, finishByte f, byteOf sent])

/-- A part becomes FINISHED, and PART FINISHED is offered to the origin unless the entry is cancelled (R6, R7). -/
def State.finishPart (s : State) (h : Nat) (ph : Phase) (f : Finish) : State :=
  match s.entry? h with
  | some e =>
      let needed := s.needed e.group ph
      let s := s.modPart h ph (fun p => { p with state := .finished, finish := some f, finishNeeded := needed })
      if e.cancelled then s else s.offer e.origin (partFinishedNotice e ph f (e.parts.get ph).sent)
  | none => s

/-- A repeat of the entry was sent. -/
def Entry.anySent (e : Entry) : Bool := e.parts.toList.any (fun p => 0 < p.sent)

/-- What follows when the last part has finished: the outcome, or CONFIRMING (R9). -/
def State.settleEntry (s : State) (h : Nat) : State :=
  match s.entry? h with
  | some e =>
      if !e.allFinished || e.outcome.isSome || e.confirmation.isSome then s
      else if !e.cancelled && e.confirm && e.anySent then s.enterConfirming h
      else s.decideOutcome h
  | none => s

/-- A channel gives up a part of an entry that has finished other than at the end of a flood: its open part or its
suspended part becomes absent, and a channel in the gap becomes IDLE (R71). -/
def Channel.giveUp (c : Channel) (h : Nat) : Channel :=
  let c := if c.suspendedPart = some h then { c with suspendedPart := none } else c
  if c.openPart = some h then
    if c.gapLeft.isSome then { c with openPart := none, gapLeft := none, state := .idle }
    else { c with openPart := none }
  else c

/-- The finish of a part that has not started: MISSED if it is needed, NOT NEEDED if it is not (R6). -/
def State.unstartedFinish (s : State) (e : Entry) (ph : Phase) : Finish :=
  if s.needed e.group ph then .missed else .notNeeded

/-- What the cut-off or a CANCEL does to one part (R16, R20, R21): unstarted parts finish, suspended and waiting parts
finish with their repeats sent, and a part with a flood in flight goes on to its end. -/
def State.stopPart (s : State) (h : Nat) (ph : Phase) : State :=
  match s.entry? h with
  | some e =>
      let p := e.parts.get ph
      match p.state with
      | .waiting => s.finishPart h ph (s.unstartedFinish e ph)
      | .ready => s.finishPart h ph (s.unstartedFinish e ph)
      | .suspended => (s.finishPart h ph p.startedFinish).modChan ph (·.giveUp h)
      | .sending =>
          if s.floodOf h ph then s else (s.finishPart h ph p.startedFinish).modChan ph (·.giveUp h)
      | .finished => s
  | none => s

def State.stopParts (s : State) (h : Nat) : State := phases.foldl (fun s ph => s.stopPart h ph) s

/-- The cut-off of an entry is reached, and its parts finish (R16). -/
def State.reachCutOff (s : State) (h : Nat) : State :=
  (s.modEntry h (fun e => { e with cutOffReached := true })).stopParts h

/-! ## Re-reading and recomputing plans (R14, R40 to R42) -/

/-- A WAITING or READY part's state is read again against now (R14, log 15). -/
def State.rereadPart (s : State) (h : Nat) (ph : Phase) : State :=
  match s.entry? h with
  | some e =>
      let p := e.parts.get ph
      match p.state with
      | .waiting =>
          if p.es ≤ s.now then
            if s.needed e.group ph then s.modPart h ph (fun p => { p with state := .ready })
            else s.finishPart h ph .notNeeded
          else s
      | .ready =>
          if !s.needed e.group ph then s.finishPart h ph .notNeeded
          else if s.now < p.es then s.modPart h ph (fun p => { p with state := .waiting })
          else s
      | _ => s
  | none => s

/-- The parts of an entry are read again, in phase order (R14). -/
def State.rereadParts (s : State) (h : Nat) : State := phases.foldl (fun s ph => s.rereadPart h ph) s

def Part.unstarted (p : Part) : Bool := p.state = .waiting || p.state = .ready

/-- New figures are written into the WAITING and READY parts of an entry (R14). -/
def State.replanned (s : State) (e : Entry) : Entry :=
  let fresh (ph : Phase) : Part :=
    let p := e.parts.get ph
    if p.unstarted then p.replan (s.plan e.group e.cls e.activation ph) else p
  { e with parts := ⟨fresh .L1, fresh .L2, fresh .L3⟩ }

/-- What an event makes of the parts of one entry, in phase order: new figures if it recomputes plans, then their finish
if it reaches the entry's cut-off (R16), and otherwise their state against now (R14). -/
def State.reviewParts (s : State) (recomputes cutOff : Bool) (h : Nat) : State :=
  let s := if recomputes then s.modEntry h s.replanned else s
  if cutOff then s.reachCutOff h else s.rereadParts h

/-- What then follows for an entry: its outcome or CONFIRMING if its last part has finished (R9), and its cutting short
(R74). -/
def State.reviewEntry (s : State) (h : Nat) : State := (s.settleEntry h).judgeCutShort h

/-- An event that recomputes plans, steps the clock or reaches cut-offs: the parts of these entries come first, entry by
entry in calendar order, and then what follows for each of the entries, in the same order (log 27). -/
def State.review (s : State) (recomputes : Bool) (test cutOff : Entry → Bool) : State :=
  let es := s.calendar.filter test
  let t := es.foldl (fun s e => s.reviewParts recomputes (cutOff e) e.handle) s
  es.foldl (fun s e => s.reviewEntry e.handle) t

/-- The plans of these entries are recomputed, and their parts read again (R14, R41, R42). -/
def State.recompute (s : State) (test : Entry → Bool) : State := s.review true test (fun _ => false)

/-- Every plan of the calendar is recomputed (R42). -/
def State.recomputeAll (s : State) : State := s.recompute (fun _ => true)

/-! ## Group figures (R115) -/

/-- The derived figures of one group are computed afresh from the roster (R114). -/
def State.refigure (s : State) (g : Nat) : State :=
  s.modGroup g (fun r =>
    { r with figures := ⟨figuresOf s.roster g .L1, figuresOf s.roster g .L2, figuresOf s.roster g .L3⟩ })

/-- The figures of group 0 and of these groups are recomputed, and the plans of their entries (R41, R115). -/
def State.recomputeGroups (s : State) (gs : List Nat) : State :=
  ((0 :: gs).foldl State.refigure s).recompute (fun e => (0 :: gs).contains e.group)

/-! ## Results for a current unit (R81 to R86) -/

/-- The result of the current unit is decided: the counts change, the current unit becomes absent, and the cursor
advances unless the entry has been cancelled or cut short (R79, R83). DESIGN CHOICE (log 42): where no unit follows,
attempts made, stale-resend-done and next frame keep the values of the last unit, and READ ENTRY shows them. -/
def State.decideUnit (s : State) (h : Nat) (ph : Phase) (f : PhaseProgress → PhaseProgress) : State :=
  s.modEntry h (fun e =>
    { e with
      confirmation := e.confirmation.map (fun c =>
        c.modRecord ph (fun r =>
          let r := { f r with current := none }
          if e.confirmLive then s.advanceCursor e.group ph r else r)) })

/-- The result is not reached (R81, R86). -/
def State.decideNotReached (s : State) (h : Nat) (ph : Phase) : State :=
  s.decideUnit h ph (fun r => { r with notReached := r.notReached + 1 })

/-- The result is unconfirmed: counted, and listed while the list has room (R81, R84, R85). -/
def State.decideUnconfirmed (s : State) (h : Nat) (ph : Phase) (index : Nat) : State :=
  let s := s.modEntry h (fun e =>
    { e with
      confirmation := e.confirmation.map (fun c =>
        if c.unconfirmedList.length < Config.unconfirmedPlaces then
          { c with unconfirmedList := c.unconfirmedList ++ [index] }
        else c) })
  s.decideUnit h ph (fun r => { r with unconfirmed := r.unconfirmed + 1 })

/-- Attempts made is below the budget of 1 + poll retries (R82). -/
def State.attemptsRemain (s : State) (attempts : Nat) : Bool := attempts < 1 + s.settings.pollRetries

/-- A phase record of an entry's progress. -/
def State.progress? (s : State) (h : Nat) (ph : Phase) : Option PhaseProgress :=
  ((s.entry? h).bind (·.confirmation)).map (fun c => c.records.get ph)

/-- A stale reply with no DIRECT left to send, a DIRECT ended, or a POLL without a reply: next frame is POLL, and the
unit stays current if attempts remain, else it is unconfirmed (R84, R85). -/
def State.pollAgain (s : State) (h : Nat) (ph : Phase) (index attempts : Nat) : State :=
  let s := s.modProgress h ph (fun r => { r with nextFrame := .poll })
  if s.attemptsRemain attempts then s else s.decideUnconfirmed h ph index

/-- The sequence a reply shows, against the entry's: 0 confirms, 1 to 127 confirms and supersedes, 128 to 255 or none
is stale (R83). -/
inductive SequenceReading where
  | confirmed | superseded | stale
deriving DecidableEq, Repr

def readSequence (entrySequence : Option Byte) (replySequence : Option Byte) : SequenceReading :=
  match entrySequence, replySequence with
  | some e, some r => if r - e = 0 then .confirmed else if (r - e).toNat ≤ 127 then .superseded else .stale
  | _, _ => .stale

/-- A POLL exchange has completed with a reply (R82 to R84). -/
def State.pollReplied (s : State) (h : Nat) (ph : Phase) (index : Nat) (sequence : Option Byte) : State :=
  let s := s.modProgress h ph (fun r => { r with attempts := r.attempts + 1 })
  match s.entry? h, s.progress? h ph with
  | some e, some r =>
      match readSequence e.sequence sequence with
      | .confirmed => s.decideUnit h ph (fun r => { r with confirmed := r.confirmed + 1 })
      | .superseded =>
          s.decideUnit h ph (fun r => { r with confirmed := r.confirmed + 1, superseded := r.superseded + 1 })
      | .stale =>
          if r.resendDone then s.pollAgain h ph index r.attempts
          else s.modProgress h ph (fun r => { r with resendDone := true, nextFrame := .direct })
  | _, _ => s

/-- A POLL exchange has completed in silence (R85). -/
def State.pollSilent (s : State) (h : Nat) (ph : Phase) (index : Nat) : State :=
  let s := s.modProgress h ph (fun r => { r with attempts := r.attempts + 1 })
  match s.progress? h ph with
  | some r => s.pollAgain h ph index r.attempts
  | none => s

/-- A DIRECT exchange has completed, with a reply or in silence (R84). -/
def State.directEnded (s : State) (h : Nat) (ph : Phase) (index : Nat) : State :=
  match s.progress? h ph with
  | some r => s.pollAgain h ph index r.attempts
  | none => s

/-- A confirmation exchange has completed, and the index is absent or holds another unit: attempts made rises if it was
a POLL and next frame becomes POLL if it was a DIRECT (R82, R84), and the unit is decided not reached (R86). -/
def State.unitGone (s : State) (h : Nat) (ph : Phase) (kind : ExchangeFrame) : State :=
  (s.modProgress h ph (fun r =>
    match kind with
    | .direct => { r with nextFrame := .poll }
    | _ => { r with attempts := r.attempts + 1 })).decideNotReached h ph

/-- The result of a confirmation exchange is counted, and the entry retires if that ends its confirmation. `reply` is
absent for silence, else the sequence the reply shows (R82 to R87). -/
def State.countExchange (s : State) (h : Nat) (ph : Phase) (x : Exchange) (reply : Option (Option Byte)) : State :=
  let s :=
    if !s.holdsUnit x.index x.address then s.unitGone h ph x.kind
    else
      match x.kind, reply with
      | .direct, _ => s.directEnded h ph x.index
      | _, some sequence => s.pollReplied h ph x.index sequence
      | _, none => s.pollSilent h ph x.index
  s.settleConfirm h

end Sys2Proof.Machine
end

