-- ==== Sys2Proof/Machine/RosterOps.lean ====
section
/-! DEFINITION. Roster events (R99 to R104, R115): what a reply and a silence do to a unit (R88, R89, R100), the UNIT
LOST notices of an event (R101), and the transmit-level controller's samples (R139 to R141). -/

namespace Sys2Proof.Machine

/-- The cause of a UNIT LOST (R101). -/
inductive LostCause where
  | silence | route
deriving DecidableEq, Repr

def lostCauseByte : LostCause → Byte
  | .silence => 0
  | .route => 1

/-- UNIT LOST (R101). -/
def unitLostNotice (i : Nat) (u : UnitRec) (cause : LostCause) : Item :=
  .notice .unitLost (be 2 i ++ be32 u.address ++ [phaseByte u.phase, lostCauseByte cause])

/-- UNIT LOST is offered to both ports for every unit the event set LOST, in ascending order of index (R101). DESIGN
CHOICE (log 45): the callers offer it before the other notices of the event. -/
def State.noticeLost (s : State) (before : Roster) (cause : LostCause) : State :=
  (newlyLost before s.roster).foldl (fun s x => s.offerBoth (unitLostNotice x.1 x.2 cause)) s

/-- The groups of every unit whose record differs from what it was (R115). -/
def changedGroups (before after : Roster) : List Nat := (changedUnits before after).flatMap (fun x => x.2.groups)

/-- The dependents of a relay lose their routes (R103): the roster after the cascade, with its UNIT LOST notices. -/
def State.withdrawRelay (s : State) (i : Nat) : State :=
  State.noticeLost { s with roster := invalidateFrom i s.roster } s.roster .route

/-- The calendar second written into last heard; none while the clock is UNSET (R88, R162). -/
def State.heardSecond (s : State) : Option Nat := if s.clock.isSet then some (s.now / 1000) else none

/-- The own mode differs, or the state between LOST and the reachable states: the properties of R115 that a reply or a
silence can change. A change from ACTIVE to DEGRADED alone is none. -/
def UnitRec.figuresMoved (u v : UnitRec) : Bool := u.mode != v.mode || (u.state == .lost) != (v.state == .lost)

/-- The groups a change of one unit's own mode or reachability concerns (R115). -/
def unitGroups (r : Roster) (i : Nat) (u : UnitRec) (modeChanged : Bool) : List Nat :=
  u.groups ++ (if modeChanged then dependentGroups r i else [])

/-! ## Silence (R89, R100) -/

/-- A unit after one more silence, against the limits in force (R89, R100). -/
def UnitRec.silent (u : UnitRec) (degradeLimit lostLimit : Nat) : UnitRec :=
  let n := saturatingSucc 255 u.silence
  let u := { u with silence := n }
  let u := if u.state = .active ∧ degradeLimit ≤ n then { u with state := .degraded, mode := .robust } else u
  if u.state ≠ .lost ∧ lostLimit ≤ n then { u with state := .lost } else u

/-- A silence is applied to the unit recorded at the exchange's start (R89, R115). DESIGN CHOICE (log 45): UNIT LOST is
offered before the notices of the recomputation and the PING RESULT of the same silence. -/
def State.applySilence (s : State) (i : Nat) (address : Address) : State :=
  if !s.holdsUnit i address then s
  else
    match s.unit? i with
    | some u =>
        let v := u.silent s.settings.degradeLimit s.settings.lostLimit
        let t := (s.modUnit i (fun _ => v)).noticeLost s.roster .silence
        if u.figuresMoved v then t.recomputeGroups (unitGroups s.roster i u (u.mode != v.mode))
        else t
    | none => s

/-! ## The level controller (R139 to R141) -/

/-- A window closes with this minimum (R140, R141). -/
def LevelRec.close (l : LevelRec) (set : LevelSettings) (m : Nat) : LevelRec :=
  let tol := match l.state with | .acquire => 4 | .monitor => 12
  let l := { l with windowCount := 0, windowMin := none }
  if m + tol < set.target then
    let raised := l.level + divUp (set.target - m) 2
    { l with level := min set.high raised, lastWindow := some (m, .raised),
             levelLimit := l.levelLimit || decide (set.high < raised) }
  else if set.target + tol < m then
    { l with level := max set.low (l.level - 1), lastWindow := some (m, .lowered) }
  else { l with state := .monitor, lastWindow := some (m, .held), levelLimit := false }

/-- The controller takes a downlink margin (R139). -/
def LevelRec.sample (l : LevelRec) (set : LevelSettings) (downlink : Nat) : LevelRec :=
  let m := match l.windowMin with | some v => min v downlink | none => downlink
  if l.windowCount + 1 = Config.levelWindow then l.close set m
  else { l with windowCount := l.windowCount + 1, windowMin := some m }

/-- The controller in ACQUIRE with an empty window and LEVEL LIMIT clear (R143). -/
def LevelRec.reacquire (l : LevelRec) : LevelRec :=
  { l with state := .acquire, windowCount := 0, windowMin := none, levelLimit := false }

/-- The level brought within the channel's range (R138, R143). -/
def LevelRec.within (l : LevelRec) (set : LevelSettings) : LevelRec :=
  { l with level := holdWithin set.low set.high l.level }

/-! ## Replies (R88) -/

/-- A reply is applied to the unit recorded at the exchange's start, in the order of R88 (R115). -/
def State.applyReply (s : State) (ph : Phase) (x : Exchange) (r : ReplyReading) (uplink : Nat) (seed : Bool) : State :=
  if !s.holdsUnit x.index x.address then s
  else
    match s.unit? x.index with
    | some u =>
        let sample := marginSample x.hops uplink r.downlink r.hopUp
        let v := (u.takeSample seed sample).heard s.heardSecond
        let t := s.modUnit x.index (fun _ => v)
        let t :=
          if x.hops = 0 then t.modLevel ph (fun l => l.sample (s.settings.levels.get ph) r.downlink) else t
        if u.figuresMoved v then t.recomputeGroups (unitGroups s.roster x.index u (u.mode != v.mode))
        else t
    | none => s

/-! ## Pings (R93) -/

/-- The record IN FLIGHT of a queue takes a state. -/
def setInFlight (st : PingState) : List PingRec → List PingRec
  | [] => []
  | r :: rest => if r.state = .inFlight then { r with state := st } :: rest else r :: setInFlight st rest

/-- The oldest QUEUED record of a queue takes a state. -/
def setOldestQueued (st : PingState) : List PingRec → List PingRec
  | [] => []
  | r :: rest => if r.state = .queued then { r with state := st } :: rest else r :: setOldestQueued st rest

def inFlightPing (q : List PingRec) : Option PingRec := q.find? (fun r => r.state = .inFlight)
def oldestQueued (q : List PingRec) : Option PingRec := q.find? (fun r => r.state = .queued)

/-- The oldest QUEUED record is completed without an exchange (R92, R94). -/
def State.completeQueued (s : State) (ph : Phase) (result : PingResult) : State :=
  match oldestQueued (s.pingQueue ph) with
  | some r => (s.modPings ph (setOldestQueued (.held result))).offerHeld r.origin (.ping ph)
  | none => s

/-- The record IN FLIGHT is completed at the end of its exchange (R93), or leaves its queue without a notice if it is
marked dropped (R95). -/
def State.completeInFlight (s : State) (ph : Phase) (result : PingResult) : State :=
  match inFlightPing (s.pingQueue ph) with
  | some r =>
      if r.dropped then s.modPings ph (List.eraseP (fun r => r.state = .inFlight))
      else (s.modPings ph (setInFlight (.held result))).offerHeld r.origin (.ping ph)
  | none => s

/-- The record IN FLIGHT is QUEUED again after phase loss, or leaves if it is marked dropped (R94, R95). -/
def State.requeueInFlight (s : State) (ph : Phase) : State :=
  match inFlightPing (s.pingQueue ph) with
  | some r =>
      if r.dropped then s.modPings ph (List.eraseP (fun r => r.state = .inFlight))
      else s.modPings ph (setInFlight .queued)
  | none => s

/-- Every QUEUED record of a HALTED channel is completed SILENT (R75, R94). -/
def State.silenceQueue (s : State) (ph : Phase) : State :=
  ((s.pingQueue ph).filter (fun r => r.state = .queued)).foldl (fun s _ => s.completeQueued ph .silent) s

end Sys2Proof.Machine
end

