-- ==== Sys2Proof/Machine/LineOps.lean ====
section
/-! DEFINITION. The channels' shared operations (chapter 3): sending frames (R65, R81, R92, R121, R142), the arbiter
(R60 to R62) and what it starts, suspension and resumption (R68 to R70), halts (R59, R73, R75), the end of a channel's
work, the loss of a phase (R57, R158), and the line survey's samples (R190, R191). -/

namespace Sys2Proof.Machine

/-! ## Sending a frame -/

/-- A channel starts a frame at the present crossing: it becomes SENDING, its level reaches the amplifier (R142), and a
failed buffer check sets halt pending (R59). -/
def State.transmit (s : State) (ph : Phase) (w : Work) : State :=
  (s.modChan ph (fun c =>
    { c with
      state := .sending, work := some w, gapLeft := none, quiet := false,
      haltPending := c.haltPending || c.bufferBad })).modLevel ph (fun l => { l with applied := l.level })

/-- The flood of an entry's next repeat on a phase, with the delay field of R44. -/
def State.nextFlood (s : State) (e : Entry) (ph : Phase) : Flood :=
  let p := e.parts.get ph
  let g := s.settings.gap
  let span := floodSpan p.depth p.mode g
  let delay := delayField e.activation (s.crossingNow ph + slotMillis span s.fPlan)
  { entry := some e.handle, repeatIndex := p.sent + 1, span, slots := 0
    frame := lineFrame s.identity.code 1 g (BitVec.ofNat 32 e.group) p.depth []
      ([e.sequence.getD 0, actionByte e.action, durationByte e.action, byteOf (p.sent + 1)] ++ be 2 delay) 0 }

/-- The next repeat of an entry's part starts on the channel. -/
def State.sendRepeat (s : State) (h : Nat) (ph : Phase) : State :=
  match s.entry? h with
  | some e => s.transmit ph (.flood (s.nextFlood e ph))
  | none => s

/-! ## Starting a part (R64, R65) -/

/-- An activation joins a field-pending list in ascending place, after equal ones (R113). -/
def insertActivation (a : Nat) : List Nat → List Nat
  | [] => [a]
  | b :: rest => if b ≤ a then b :: insertActivation a rest else a :: b :: rest

/-- STARTED (R7). -/
def startedNotice (e : Entry) (sequence : Byte) : Item :=
  .notice .started (be 2 e.handle ++ [e.tag, byteOf e.group, sequence])

/-- The entry's sending begins (R64): the group's counter rises and gives the sequence, the activation joins the
field-pending list unless the clock has reached it already (R113), and STARTED is offered. -/
def State.beginSending (s : State) (e : Entry) : State :=
  let sequence := (s.group e.group).sequence + 1
  let s := s.modGroup e.group (fun r =>
    { r with
      sequence
      fieldPending := if e.activation * 1000 ≤ s.now then r.fieldPending else insertActivation e.activation r.fieldPending })
  (s.modEntry e.handle (fun e => { e with sequence := some sequence })).offer e.origin (startedNotice e sequence)

/-- A READY part starts on its channel at the present crossing (R64, R65). -/
def State.startPart (s : State) (h : Nat) (ph : Phase) : State :=
  match s.entry? h with
  | some e =>
      let now := s.crossingNow ph
      let s := if e.sequence.isNone then s.beginSending e else s
      let s := s.modPart h ph (fun p => { p with state := .sending, start := some now })
      (s.modChan ph (fun c => { c with openPart := some h })).sendRepeat h ph
  | none => s

/-! ## Exchanges and probes -/

/-- The contents of an exchange's outbound frame, and its kind nibble (R194). -/
def State.exchangeContents (s : State) (ph : Phase) (k : ExchangeFrame) (e : Option Entry) (span : Nat) :
    Nat × List Byte :=
  match k, e with
  | .direct, some e =>
      let delay := delayField e.activation (s.crossingNow ph + slotMillis span s.fPlan)
      (2, [byteOf e.group, e.sequence.getD 0, actionByte e.action, durationByte e.action] ++ be 2 delay)
  | .poll, some e => (3, [byteOf e.group])
  | _, _ => (4, [0])

/-- An exchange with the unit at an index starts at the present crossing (R47, R81, R92). -/
def State.startExchange (s : State) (ph : Phase) (owner : ExchangeOwner) (k : ExchangeFrame) (e : Option Entry)
    (index : Nat) (u : UnitRec) : State :=
  let hops := u.route.length
  let mode := pathMode s.roster u
  let g := s.settings.gap
  let outSpan := outboundSpan k hops mode g
  let (kind, contents) := s.exchangeContents ph k e outSpan
  s.transmit ph (.exchange
    { owner, kind := k, index, address := u.address, hops, mode, outSpan,
      silence := silenceSlots k hops mode g s.settings.tolerance, slots := 0
      frame := lineFrame s.identity.code kind g u.address hops (routeAddresses s.roster u.route) contents
        (s.testMasks.get ph) })

/-- The filter of prefix length 0, which every address matches (R117). -/
def ProbeFilter.all : ProbeFilter := { length := 0, value := 0 }

/-- The conditions a relay origin meets (R119). -/
def UnitRec.originFor (u : UnitRec) (ph : Phase) : Bool :=
  u.state == .active && u.relayCapable && u.phase == ph && u.route.length ≤ 2

/-- The cycle ends: the channel rests for the probe period (R128). -/
def Discovery.rest (d : Discovery) (elapsed period : Nat) : Discovery :=
  { d with state := .resting, origin := none, restEnd := some (elapsed + period * 1000) }

/-- A new cycle begins from origin DIRECT (R118). -/
def Discovery.cycle (d : Discovery) : Discovery :=
  { d with state := .probing, origin := some .direct, stack := [ProbeFilter.all], restEnd := none }

/-- The index the search for the next origin begins at (R119). -/
def Origin.next : Option Origin → Nat
  | some (.relay i _) => i + 1
  | _ => 0

/-- The origin advances to the lowest eligible index, or the cycle ends (R119, R128). -/
def State.advanceOrigin (s : State) (ph : Phase) : State :=
  let start := Origin.next (s.disc ph).origin
  match s.roster.find? (fun x => start ≤ x.1 && x.2.originFor ph) with
  | some x =>
      s.modDisc ph (fun d =>
        { d with origin := some (.relay x.1 x.2.address), stack := ProbeFilter.all :: d.stack })
  | none => s.modDisc ph (fun d => d.rest s.elapsed s.settings.probePeriod)

/-- The route of a probe, as roster indices: none for DIRECT, else the origin's route followed by the origin; absent
where the origin no longer serves (R120, R121). -/
def State.probeRoute (s : State) (ph : Phase) : Option Origin → Option (List Nat)
  | some .direct => some []
  | some (.relay i a) =>
      match s.unit? i with
      | some u => if u.address == a && u.originFor ph then some (u.route ++ [i]) else none
      | none => none
  | none => none

/-- A probe of a filter starts at the present crossing (R121). -/
def State.startProbe (s : State) (ph : Phase) (origin : Origin) (f : ProbeFilter) (route : List Nat) : State :=
  let hops := route.length
  let g := s.settings.gap
  let s := s.modDisc ph (fun d =>
    { d with stack := d.stack.tail, probe := some { origin, filter := f, stopped := false, route } })
  s.transmit ph (.probe
    { hops, outSpan := probeSpan hops g, window := windowSpan hops g, gap := g, next := 0, slots := 0
      frame := lineFrame s.identity.code 6 g 0 hops (routeAddresses s.roster route)
        (byteOf f.length :: be32 f.value) 0 })

/-! ## The arbiter (R60 to R62) -/

/-- The conditions of R62 for a part of an entry at a crossing: the group lock, the field-pending limit, the cut-off. -/
def State.canStart (s : State) (e : Entry) (now : Nat) : Bool :=
  !s.calendar.any (fun o => o.handle != e.handle && o.group == e.group && o.locks) &&
    ((s.group e.group).fieldPending.length < Config.fieldPlaces || e.state = .sending) &&
    now < e.cutOff * 1000

/-- The entries whose READY part of the phase stands in a class: DUE with LS at or before now, EARLY with now between
ES and LS (R61), and can start. -/
def State.candidates (s : State) (ph : Phase) (c : EntryClass) (due : Bool) (now : Nat) : List Entry :=
  s.calendar.filter (fun e =>
    let p := e.parts.get ph
    e.cls = c && p.state = .ready && (if due then p.ls ≤ now else p.es ≤ now && now < p.ls) && s.canStart e now)

/-- Earliest LS first, calendar order among equals (R61). -/
def earliestFirst (ph : Phase) (es : List Entry) : Option Entry :=
  es.foldl (fun best e =>
    match best with
    | none => some e
    | some b => if (e.parts.get ph).ls < (b.parts.get ph).ls then some e else best) none

/-- A piece of work the arbiter chooses. -/
inductive Choice where
  | part (h : Nat)
  | resume (h : Nat)
  | confirm (h : Nat)
  | ping
  | registration
  | probe
deriving DecidableEq, Repr

/-- The suspended part, if its cut-off lies ahead (R61, R62). -/
def State.resumable (s : State) (ph : Phase) (now : Nat) : Option Nat :=
  match (s.chan ph).suspendedPart with
  | some h =>
      match s.entry? h with
      | some e => if now < e.cutOff * 1000 then some h else none
      | none => none
  | none => none

/-- The first CONFIRMING entry in calendar order with confirmation work on the phase (R61, R73). -/
def State.toConfirm (s : State) (ph : Phase) : Option Entry :=
  s.calendar.find? (fun e => e.confirming && e.confirmLive && e.hasConfirmWork ph)

/-- Discovery work of class 7: the registration list first, then a probe (R120). -/
def State.discoveryWork (s : State) (ph : Phase) : Option Choice :=
  let d := s.disc ph
  if !d.registration.isEmpty then some .registration
  else if d.state = .probing && !d.stack.isEmpty then some .probe
  else none

/-- The first class that has work able to start (R61). -/
def State.choose (s : State) (ph : Phase) : Option Choice :=
  let now := s.crossingNow ph
  let part (c : EntryClass) (due : Bool) : Option Choice :=
    (earliestFirst ph (s.candidates ph c due now)).map (fun e => .part e.handle)
  (part .urgent true).or <|
  ((s.resumable ph now).map Choice.resume).or <|
  (part .routine true).or <|
  (part .urgent false).or <|
  (part .routine false).or <|
  ((s.toConfirm ph).map (fun e => Choice.confirm e.handle)).or <|
  (if (oldestQueued (s.pingQueue ph)).isSome then some Choice.ping else none).or (s.discoveryWork ph)

/-- The suspended part resumes (R70). -/
def State.resumePart (s : State) (h : Nat) (ph : Phase) : State :=
  let s := s.modPart h ph (fun p => { p with state := .sending })
  (s.modChan ph (fun c => { c with openPart := some h, suspendedPart := none })).sendRepeat h ph

/-- What serving a choice comes to: the channel has started work, or the arbiter goes on choosing. -/
inductive Served where
  | started (s : State)
  | goOn (s : State)

/-- Class 5: the current unit is checked as it stands; a unit that is gone or LOST is decided without an exchange,
otherwise the exchange starts (R81). DESIGN CHOICE (log 49): the checks come in the order in which R81 lists them, so that
a LOST unit that is also out of the group or off the phase is not reached, not unconfirmed. -/
def State.serveConfirm (s : State) (h : Nat) (ph : Phase) : Served :=
  match s.entry? h, s.progress? h ph with
  | some e, some r =>
      match r.current with
      | some (i, a) =>
          match s.unit? i with
          | some u =>
              if u.address != a || !u.member e.group || u.phase != ph then
                .goOn ((s.decideNotReached h ph).settleConfirm h)
              else if u.state = .lost then .goOn ((s.decideUnconfirmed h ph i).settleConfirm h)
              else
                let k := match r.nextFrame with | .poll => ExchangeFrame.poll | .direct => ExchangeFrame.direct
                .started (s.startExchange ph (.confirm (some h)) k (some e) i u)
          | none => .goOn ((s.decideNotReached h ph).settleConfirm h)
      | none => .goOn s
  | _, _ => .goOn s

/-- Class 6: the oldest QUEUED ping is checked and sent, or completed NOT SENT (R92). -/
def State.servePing (s : State) (ph : Phase) : Served :=
  match oldestQueued (s.pingQueue ph) with
  | some r =>
      match s.unit? r.index with
      | some u =>
          if u.address != r.address || u.phase != ph then .goOn (s.completeQueued ph .notSent)
          else .started ((s.modPings ph (setOldestQueued .inFlight)).startExchange ph .ping .ping none r.index u)
      | none => .goOn (s.completeQueued ph .notSent)
  | none => .goOn s

/-- Class 7: the oldest registration record is checked, and its registering ping sent or the record discarded
(R126). -/
def State.serveRegistration (s : State) (ph : Phase) : Served :=
  match (s.disc ph).registration with
  | (i, a) :: rest =>
      let s := s.modDisc ph (fun d => { d with registration := rest })
      match s.unit? i with
      | some u =>
          if u.address != a || u.phase != ph then .goOn s
          else .started (s.startExchange ph .registration .ping none i u)
      | none => .goOn s
  | [] => .goOn s

/-- Class 7: the top filter is probed from the origin, or an origin that no longer serves is left (R120). -/
def State.serveProbe (s : State) (ph : Phase) : Served :=
  let d := s.disc ph
  match d.stack, d.origin, s.probeRoute ph d.origin with
  | f :: _, some origin, some route => .started (s.startProbe ph origin f route)
  | _, _, _ => .goOn ((s.modDisc ph (fun d => { d with stack := [] })).advanceOrigin ph)

def State.serve (s : State) (ph : Phase) : Choice → Served
  | .part h => .started (s.startPart h ph)
  | .resume h => .started (s.resumePart h ph)
  | .confirm h => s.serveConfirm h ph
  | .ping => s.servePing ph
  | .registration => s.serveRegistration ph
  | .probe => s.serveProbe ph

/-- The arbiter of a channel runs at the present crossing: it chooses and starts work, going on choosing where a choice
starts none. Each round that starts none removes its cause, so the rounds never run out (log 16). -/
def State.arbitrate : Nat → Phase → State → State
  | 0, _, s => s
  | rounds + 1, ph, s =>
      match s.choose ph with
      | none => s
      | some c =>
          match s.serve ph c with
          | .started t => t
          | .goOn t => State.arbitrate rounds ph t

/-- More rounds than there are causes to go on: one for each calendar entry, ping and registration record of a channel,
and the origin. -/
def arbiterRounds : Nat := 256

/-! ## The open part of an IDLE channel (R68, R69) -/

/-- An URGENT part of the phase could start now in class 1 (R67 test 3). -/
def State.urgentDue (s : State) (ph : Phase) : Bool := !(s.candidates ph .urgent true (s.crossingNow ph)).isEmpty

/-- The routine open part is set aside (R69). -/
def State.suspend (s : State) (h : Nat) (ph : Phase) : State :=
  (s.modPart h ph (fun p => { p with state := .suspended })).modChan ph
    (fun c => { c with openPart := none, suspendedPart := some h })

/-- At least g slots have passed since last flood end, or none has ended since the phase was last present (R68). -/
def Channel.gapPassed (c : Channel) (g : Nat) : Bool :=
  match c.lastFloodEnd with
  | some k => c.absentSinceFlood || k + g ≤ c.crossings
  | none => true

/-- The open part of an IDLE channel resumes at the present crossing, or gives way to due urgent work (R68, R69). -/
def State.resumeOpen (s : State) (h : Nat) (ph : Phase) : State :=
  match s.entry? h with
  | some e =>
      if e.cutOff * 1000 ≤ s.crossingNow ph then (s.stopPart h ph).settleEntry h
      else if e.cls = .routine && s.urgentDue ph then State.arbitrate arbiterRounds ph (s.suspend h ph)
      else s.sendRepeat h ph
  | none => s

/-- What an IDLE channel does at a crossing while the line is RUNNING: its open part resumes, or its arbiter runs (R60,
R68). -/
def State.atCrossing (s : State) (ph : Phase) : State :=
  let c := s.chan ph
  if s.line ≠ .running || c.state ≠ .idle then s
  else
    match c.openPart with
    | some h => if c.gapPassed s.settings.gap then s.resumeOpen h ph else s
    | none => State.arbitrate arbiterRounds ph s

/-- The slot that begins now is quiet if the channel is IDLE or HALTED (R190). -/
def State.markQuiet (s : State) (ph : Phase) : State :=
  s.modChan ph (fun c => { c with quiet := c.state = .idle || c.state = .halted })

/-! ## The end of work, and halts (R51, R56, R59) -/

/-- Confirmation ends on the phase of a channel that halts, for every entry with work there (R73). -/
def State.haltConfirmations (s : State) (ph : Phase) : State :=
  (s.calendar.filter (fun e => e.confirming && e.confirmLive && e.hasConfirmWork ph)).foldl
    (fun s e => (s.modEntry e.handle (s.endPhase ph)).settleConfirm e.handle) s

/-- The channel becomes HALTED (R59): CHANNEL HALT is posted, its pings complete SILENT (R75, R94), its registration
list is discarded (R127), and confirmation on its phase ends (R73). DESIGN CHOICE (log 43): the notices are offered in
this order, FAULT, then the PING RESULTs, then at the end of the event the OUTCOMEs of the confirmations ended. -/
def State.halt (s : State) (ph : Phase) : State :=
  let s := s.modChan ph (fun c => { c with state := .halted, work := none, gapLeft := none, haltPending := false })
  let s := (s.post (.channelHalt ph)).silenceQueue ph
  (s.modDisc ph (fun d => { d with registration := [] })).haltConfirmations ph

/-- A channel's work has ended and its result is counted: a pending halt takes effect (R59), a DRAINING line may become
HELD (R51), and an IDLE channel goes on at the same crossing (R60). DESIGN CHOICE (log 45): LINE STATE is offered after
the PART FINISHED, FAULT and PING RESULT notices of the event and before its OUTCOMEs. -/
def State.afterWork (s : State) (ph : Phase) : State :=
  let s := if (s.chan ph).haltPending then s.halt ph else s
  (s.checkDrained.atCrossing ph).markQuiet ph

/-- The channel's work is off the wiring and the channel is IDLE. -/
def State.clearWork (s : State) (ph : Phase) : State :=
  s.modChan ph (fun c => { c with state := .idle, work := none, gapLeft := none })

/-- The ping result of an exchange that ended with a reply (R93). -/
def State.pingReplied (s : State) (x : Exchange) (r : ReplyReading) (uplink : Nat) : PingResult :=
  if s.holdsUnit x.index x.address then .answered uplink r.downlink r.hopUp r.sequence x.hops x.mode else .notSent

/-- An exchange ends, with a reply or in silence: the roster takes it (R88, R89), then the work that started it (R82 to
R86, R93, R126), and the channel goes on. DESIGN CHOICE (log 46): the roster's effect, with the replanning and the R74
judgement it brings, comes before the exchange is counted, and its notices before the PING RESULT (log 45). -/
def State.endExchange (s : State) (ph : Phase) (x : Exchange) (reply : Option (ReplyReading × Nat)) : State :=
  let seed :=
    match x.owner with
    | .ping => (match inFlightPing (s.pingQueue ph) with | some r => r.register | none => false)
    | _ => false
  let s :=
    match reply with
    | some (r, uplink) => s.applyReply ph x r uplink seed
    | none => s.applySilence x.index x.address
  let s := s.clearWork ph
  let s :=
    match x.owner with
    | .confirm (some h) => s.countExchange h ph x (reply.map (fun (r : ReplyReading × Nat) => r.1.sequence))
    | .confirm none => s
    | .ping =>
        s.completeInFlight ph
          (match reply with
           | some (r, uplink) => s.pingReplied x r uplink
           | none => .silent)
    | .registration => s
  s.afterWork ph

/-! ## Loss of a phase (R57, R86, R94, R126, R127, R158) -/

/-- A flood is abandoned (R57): a part whose cut-off has been reached or whose entry is cancelled finishes; any other
keeps its channel. -/
def State.abandonFlood (s : State) (ph : Phase) (f : Flood) : State :=
  match f.entry with
  | some h =>
      match s.entry? h with
      | some e =>
          if e.cutOffReached || e.cancelled then
            let s := s.modChan ph (fun c => { c with openPart := none })
            (s.finishPart h ph (e.parts.get ph).startedFinish).settleEntry h
          else s
      | none => s
  | none => s

/-- An exchange is abandoned: an entry that is cancelled or cut short treats it as ended (R86), a ping is QUEUED again
(R94), and a registering ping goes back to the head of its list (R126). -/
def State.abandonExchange (s : State) (ph : Phase) (x : Exchange) : State :=
  match x.owner with
  | .confirm (some h) =>
      match s.entry? h with
      | some e => if e.confirmLive then s else s.settleConfirm h
      | none => s
  | .confirm none => s
  | .ping => s.requeueInFlight ph
  | .registration => s.modDisc ph (fun d => { d with registration := (x.index, x.address) :: d.registration })

/-- A probe is abandoned: its filter goes back on the stack unless it is stopped or the stack is full (R127). -/
def Discovery.abandonProbe (d : Discovery) : Discovery :=
  match d.probe with
  | some p =>
      let d := { d with probe := none }
      if p.stopped then d
      else if d.stack.length < Config.splitPlaces then { d with stack := p.filter :: d.stack }
      else { d with splitOverflow := saturatingSucc Config.counterTop d.splitOverflow }
  | none => d

/-- The work of a channel whose phase is lost is abandoned (R57). -/
def State.abandonWork (s : State) (ph : Phase) : State :=
  let work := (s.chan ph).work
  let s := s.modChan ph (fun c => { c with state := .offline, work := none, gapLeft := none, quiet := false })
  match work with
  | some (.flood f) => s.abandonFlood ph f
  | some (.exchange x) => s.abandonExchange ph x
  | some (.probe _) => s.modDisc ph Discovery.abandonProbe
  | none => s

/-- A PRESENT phase is declared ABSENT (R158). DESIGN CHOICE (log 45): where the loss takes a DRAINING line to HELD,
FAULT is offered before LINE STATE. -/
def State.losePhase (s : State) (ph : Phase) : State :=
  let s := s.setPhaseRec ph PhaseRec.fresh
  let s := s.modChan ph (fun c => { c with absentSinceFlood := true, quiet := false })
  let s :=
    if (s.chan ph).state = .halted then s
    else
      let s := s.abandonWork ph
      if (s.chan ph).haltPending then s.halt ph else s
  (s.post (.phaseLoss ph)).checkDrained

/-! ## The line survey's samples (R190, R191) -/

/-- SURVEY DONE (R191). -/
def surveyDoneNotice (ph : Phase) (v : Survey) : Item :=
  .notice .surveyDone ([v.tag, channelByte ph] ++ be 2 v.target ++ be 2 v.sampled ++ [byteOf (v.highest.getD 0)])

/-- SURVEY ABANDONED (R191). -/
def surveyAbandonedNotice (ph : Phase) (v : Survey) : Item :=
  .notice .surveyAbandoned ([v.tag, channelByte ph] ++ be 2 v.sampled)

/-- A survey with one more slot of this noise level in it (R190). -/
def Survey.sample (v : Survey) (level : Nat) : Survey :=
  let bin := level / 16
  { v with
    bins := v.bins.set bin (saturatingSucc Config.counterTop (v.bins.getD bin 0))
    sampled := v.sampled + 1
    highest := some (match v.highest with | some b => max b bin | none => bin) }

/-- A survey's notice becomes held, and is offered to its port (R191). DESIGN CHOICE (log 40): where a SURVEY ABANDONED is
still held as the new survey completes, both notices are held, and each is queued at its own turn. -/
def State.offerSurvey (s : State) (ph : Phase) (p : Port) (i : Item) : State :=
  (s.modSurvey ph (fun v => { v with held := v.held ++ [(p, i)] })).offerHeld p (.survey ph)

/-- The slot that ends now is sampled if the survey is RUNNING and the channel was IDLE or HALTED throughout it; the
sample that reaches the target completes the survey (R190, R191). DESIGN CHOICE (log 45): SURVEY DONE is the first
notice of its crossing. -/
def State.sampleSlot (s : State) (ph : Phase) (noise : Int) : State :=
  let v := s.survey ph
  let c := s.chan ph
  if v.state = .running && c.quiet && (c.state = .idle || c.state = .halted) then
    let v := v.sample (holdWithin 0 255 noise.toNat)
    if v.sampled = v.target then
      let s := s.modSurvey ph (fun _ => { v with state := .complete })
      match v.starter with
      | some p => s.offerSurvey ph p (surveyDoneNotice ph v)
      | none => s
    else s.modSurvey ph (fun _ => v)
  else s

/-! ## A crossing handed to a channel (R156) -/

def Work.endSlot : Work → Work
  | .flood f => .flood { f with slots := f.slots + 1 }
  | .exchange x => .exchange { x with slots := x.slots + 1 }
  | .probe r => .probe { r with slots := r.slots + 1 }

/-- The channel counts the crossing: its work and its gap are one slot on. -/
def Channel.countCrossing (c : Channel) (bufferBad : Bool) : Channel :=
  { c with crossings := c.crossings + 1, work := c.work.map Work.endSlot, gapLeft := c.gapLeft.map (· - 1), bufferBad }

/-- The MTU hands a crossing to the channel: a slot ends and the next begins, the survey samples the slot that ended,
and an IDLE channel resumes or arbitrates (R60, R156). DESIGN CHOICE (log 45): SURVEY DONE is offered before the
STARTED and the PING RESULTs of the arbitration. -/
def State.handCrossing (s : State) (ph : Phase) (noise : Int) (bufferBad : Bool) : State :=
  let s := s.sampleSlot ph noise
  let s := s.modChan ph (fun c => c.countCrossing bufferBad)
  (s.atCrossing ph).markQuiet ph

end Sys2Proof.Machine
end

