-- ==== Sys2Proof/Machine/Startup.lean ====
section
/-! DEFINITION. POWER_ON and PIN_RESET: every block takes its start-up value, and the store is loaded (R185, R116, R138,
R160, R187). -/

namespace Sys2Proof.Machine

/-- The store at a start-up: no save and no held STORE DONE, and an image that has decayed is invalid (R183, R185). -/
def Store.atStart (t : Store) (settingsDecayed rosterDecayed : Bool) : Store :=
  { Store.blank with
    settingsImage := if settingsDecayed then none else t.settingsImage
    rosterImage := if rosterDecayed then none else t.rosterImage }

/-- Every block at its start-up value before loading; what the outside world keeps, the store, the identity area and
this Fault Record are taken over. -/
def State.starting (s : State) (store : Store) (faults : FaultRec) : State :=
  { State.bare with
    pending := s.pending, elapsed := s.elapsed, freeCount := s.freeCount, store, identity := s.identity, faults }

/-- The settings a valid settings image gives: the next-start layout and quotas come into force (R185). -/
def Settings.loaded (v : Settings) : Settings := { v with layout := v.nextLayout, quota := v.nextQuota }

/-- Loading step 1 (R185). -/
def State.loadSettings (s : State) : State :=
  match s.store.settingsImage with
  | some v => { s with settings := v.loaded, store := { s.store with settingsValid := true } }
  | none => State.post { s with settings := Settings.factory } (.storeCheck .settings)

/-- The roster a roster image gives under a capacity: the units beyond it are dropped, and the routes through them are
invalidated (R103, R185). -/
def RosterImage.roster (v : RosterImage) (capacity : Nat) : Roster :=
  let kept := v.units.filter (fun x => x.1 < capacity)
  let dropped := (v.units.filter (fun x => capacity ≤ x.1)).map (·.1)
  invalidate capacity kept.length dropped kept

/-- The number of units a capacity drops. -/
def RosterImage.dropped (v : RosterImage) (capacity : Nat) : Nat :=
  (v.units.filter (fun x => capacity ≤ x.1)).length

/-- The 64 group records of start-up with these counters (R112, R116). -/
def groupsFrom (counters : List Byte) : List GroupRec :=
  (List.range 64).map (fun g => { GroupRec.fresh with sequence := counters.getD g 0 })

/-- Loading step 2 (R185). -/
def State.loadRoster (s : State) : State :=
  match s.store.rosterImage with
  | some v =>
      let t :=
        { s with
          roster := v.roster s.rosterCapacity, groups := groupsFrom v.counters
          store := { s.store with rosterValid := true } }
      if 0 < v.dropped s.rosterCapacity then t.post (.rosterTruncated (v.dropped s.rosterCapacity)) else t
  | none => s.post (.storeCheck .roster)

/-- Loading step 3: the figures of all 64 groups (R115, R185). -/
def State.figureAll (s : State) : State := (List.range 64).foldl State.refigure s

/-- The start-up values that read the settings loaded: the levels within their ranges (R138), and the planning frequency
(R160). -/
def State.applySettings (s : State) : State :=
  let level (v : LevelSettings) : LevelRec := LevelRec.fresh (holdWithin v.low v.high Config.startLevel)
  { s with
    fPlan := s.settings.nominal
    levels := ⟨level s.settings.levels.l1, level s.settings.levels.l2, level s.settings.levels.l3⟩ }

/-- Start-up over a Fault Record (R185). -/
def State.startUp (s : State) (settingsDecayed rosterDecayed : Bool) (faults : FaultRec) : State :=
  (s.starting (s.store.atStart settingsDecayed rosterDecayed) faults).loadSettings.loadRoster.figureAll.applySettings

/-- POWER_ON (R185): the Fault Record starts afresh before loading (R187). -/
def execPowerOn (settingsDecayed rosterDecayed : Bool) (s : State) : Host.Outcome State Fault Refusal :=
  .next (s.startUp settingsDecayed rosterDecayed FaultRec.fresh)

/-- PIN_RESET (R185): the Fault Record is kept (R187). -/
def execPinReset (settingsDecayed rosterDecayed : Bool) (s : State) : Host.Outcome State Fault Refusal :=
  .next (s.startUp settingsDecayed rosterDecayed s.faults)

end Sys2Proof.Machine
end

