-- ==== Sys2Proof/Machine/Calendar.lean ====
section
/-! DEFINITION. The calendar's commands and events: SUBMIT (R10, R11), CANCEL (R19 to R22), READ ENTRY (R28), LIST ENTRIES
(R29), and the reaching of an earliest start (R15) and of a latest start (R74). -/

namespace Sys2Proof.Machine

/-! ## SUBMIT -/

/-- A permit admits a port (R111). -/
def Permit.admits : Permit → Port → Bool
  | .onlyA, p => p = .A
  | .onlyB, p => p = .B
  | .both, _ => true
  | .neither, _ => false

/-- A class byte's class (R195). -/
def readClass (b : Byte) : Option EntryClass :=
  match b.toNat with
  | 0 => some .routine
  | 1 => some .urgent
  | _ => none

/-- The expiry as admission takes it: clamped to the activation (R11). -/
def submitExpiry (a : SubmitArgs) : Option Nat := a.expiry.map (fun x => max x.toNat a.activation.toNat)

/-- Test 2 of R10: what the command's fields spell; none when a value is out of range. -/
def readSubmitArgs (a : SubmitArgs) (now : Nat) : Option (Action × EntryClass) :=
  match readAction a.action a.duration, readClass a.cls with
  | some action, some cls =>
      if 63 < a.group.toNat || now + Config.activationHorizon < a.activation.toNat * 1000 then none
      else some (action, cls)
  | _, _ => none

/-- Test 4 of R10. -/
def submitTooLate (a : SubmitArgs) (now : Nat) : Bool :=
  a.activation.toNat * 1000 ≤ now && (match submitExpiry a with | none => true | some x => x * 1000 ≤ now)

/-- Test 5 of R10. -/
def State.conflicts (s : State) (a : SubmitArgs) : Bool :=
  s.calendar.any (fun e => e.group == a.group.toNat && e.activation == a.activation.toNat)

/-- The first test of R10 that fails; none when the command is to be admitted. -/
def State.submitRefusal (s : State) (p : Port) (a : SubmitArgs) : Option ReplyCode :=
  if !s.clock.isSet then some .clockUnset
  else if (readSubmitArgs a s.now).isNone then some .badParameter
  else if !(s.permit a.group.toNat).admits p then some .notPermitted
  else if submitTooLate a s.now then some .tooLate
  else if s.conflicts a then some .conflict
  else if s.settings.quota.get p ≤ s.liveCount p then some .quota
  else if s.calendarCapacity ≤ s.calendar.length then some .full
  else none

/-- The handle after a handle: 0 is passed over (R2). -/
def handleAfter (h : Nat) : Nat := if h < 65535 then h + 1 else 1

/-- The next handle that is not in use (R2); more rounds than handles in use find one. -/
def nextHandle (used : List Nat) : Nat → Nat → Nat
  | 0, h => handleAfter h
  | rounds + 1, h => if used.contains (handleAfter h) then nextHandle used rounds (handleAfter h) else handleAfter h

/-- The handle R2 assigns. -/
def State.assignHandle (s : State) : Nat :=
  nextHandle (s.calendar.map (·.handle)) s.calendar.length s.lastHandle

/-- An entry joins the calendar in ascending order of activation, after its equals (R1). -/
def insertEntry (e : Entry) : List Entry → List Entry
  | [] => [e]
  | x :: rest => if x.activation ≤ e.activation then x :: insertEntry e rest else e :: x :: rest

/-- Some needed part has its LS in the past (R11 step 4). -/
def State.lateParts (s : State) (e : Entry) : Bool :=
  phases.any (fun ph => s.needed e.group ph && (e.parts.get ph).ls < s.now)

/-- The entry admission makes, before its parts' states are read (R4, R11 steps 1, 2 and 4). -/
def State.admittedEntry (s : State) (p : Port) (tag : Byte) (a : SubmitArgs) (action : Action) (cls : EntryClass) :
    Entry :=
  let group := a.group.toNat
  let activation := a.activation.toNat
  let part (ph : Phase) : Part := Part.admitted (s.plan group cls activation ph)
  let e : Entry :=
    { handle := s.assignHandle, origin := p, tag, group, action, activation, expiry := submitExpiry a, cls,
      confirm := a.confirm, sequence := none, lateAdmission := false, timeStepped := false, cancelled := false,
      cutShort := false, parts := ⟨part .L1, part .L2, part .L3⟩, confirmation := none, outcome := none,
      record := none, cutOffReached := false, confirmStopped := false }
  { e with lateAdmission := s.lateParts e }

/-- The earliest of the three latest starts (R11 step 6). -/
def Entry.firstLs (e : Entry) : Nat := min e.parts.l1.ls (min e.parts.l2.ls e.parts.l3.ls)

/-- Admission, on the one event (R11): the entry is inserted, the reply queued, and the parts' states read, a part that
is not needed and at its ES finishing after the reply. -/
def State.admitted (s : State) (p : Port) (tag : Byte) (a : SubmitArgs) (action : Action) (cls : EntryClass) : State :=
  let e := s.admittedEntry p tag a action cls
  let t := { s with calendar := insertEntry e s.calendar, lastHandle := e.handle }
  let t := t.reply p 0x01 tag .ok (be 2 e.handle ++ be 6 e.firstLs ++ [flagByte e.lateAdmission])
  ((t.rereadParts e.handle).settleEntry e.handle).retireSince s

/-- SUBMIT (R10, R11). -/
def execSubmit (p : Port) (tag : Byte) (a : SubmitArgs) (s : State) : Host.Outcome State Fault Refusal :=
  whenTaken s p (.submit p tag a) fun s =>
    match s.submitRefusal p a, readSubmitArgs a s.now with
    | some code, _ => s.reply p 0x01 tag code []
    | none, some (action, cls) => s.admitted p tag a action cls
    | none, none => s.reply p 0x01 tag .badParameter []

/-! ## CANCEL -/

/-- The first test of R19 that fails. -/
def State.cancelRefusal (s : State) (p : Port) (h : Nat) : Option ReplyCode :=
  match s.entry? h with
  | none => some .noEntry
  | some e =>
      if e.origin ≠ p then some .notOwner
      else if e.outcome.isSome then some .finished
      else none

/-- An accepted CANCEL acts for the entry's state: unstarted, suspended and waiting parts finish, and an entry with
nothing in flight retires (R20 to R22). -/
def State.cancelEntry (s : State) (h : Nat) : State :=
  ((((s.modEntry h (fun e => { e with cancelled := true })).stopParts h).settleEntry h).settleConfirm h).retireSince s

/-- CANCEL (R19 to R22): one of an entry already cancelled is answered OK and changes nothing. -/
def execCancel (p : Port) (tag : Byte) (handle : Word16) (s : State) : Host.Outcome State Fault Refusal :=
  whenTaken s p (.cancel p tag handle) fun s =>
    match s.cancelRefusal p handle.toNat with
    | some code => s.reply p 0x02 tag code []
    | none =>
        let t := s.reply p 0x02 tag .ok []
        if ((s.entry? handle.toNat).map (·.cancelled)).getD false then t else t.cancelEntry handle.toNat

/-! ## Reading the calendar -/

/-- A part's fields (R5, R28). -/
def partBytes (ph : Phase) (p : Part) : List Byte :=
  [phaseByte ph, partStateByte p.state] ++ optionalByte (p.finish.map finishByte) ++
    [byteOf p.depth, modeByte p.mode, byteOf p.planned, byteOf p.sent] ++ be 6 p.ls ++ be 6 p.es ++
    optionalNat 6 p.start

/-- A phase record's fields (R78); the current unit as its index and address. -/
def progressBytes (r : PhaseProgress) : List Byte :=
  be 2 r.cursor ++ optionalBytes 6 (fun (c : Nat × Address) => be 2 c.1 ++ be32 c.2) r.current ++
    [byteOf r.attempts, flagByte r.resendDone, nextFrameByte r.nextFrame] ++ be 2 r.expected ++ be 2 r.confirmed ++
    be 2 r.superseded ++ be 2 r.notAttempted ++ be 2 r.notReached ++ be 2 r.unconfirmed

/-- A confirmation progress: the three phase records, then the unconfirmed list. -/
def Confirmation.bytes (c : Confirmation) : List Byte :=
  c.records.toList.flatMap progressBytes ++ countedBytes (be 2) c.unconfirmedList

/-- The width of an absent confirmation progress: three phase records of 24 bytes and an empty list. -/
def confirmationWidth : Nat := 73

/-- The whole entry as READ ENTRY shows it (R28, log 10). -/
def Entry.bytes (e : Entry) : List Byte :=
  be 2 e.handle ++ [portByte e.origin, e.tag, byteOf e.group, actionByte e.action, durationByte e.action] ++
    be 4 e.activation ++ optionalNat 4 e.expiry ++ [classByte e.cls, flagByte e.confirm] ++
    optionalByte e.sequence ++
    [flagByte e.lateAdmission, flagByte e.timeStepped, flagByte e.cancelled, flagByte e.cutShort,
      entryStateByte e.state] ++
    partBytes .L1 e.parts.l1 ++ partBytes .L2 e.parts.l2 ++ partBytes .L3 e.parts.l3 ++
    optionalBytes confirmationWidth Confirmation.bytes e.confirmation ++
    optionalByte (e.outcome.map entryOutcomeByte)

/-- READ ENTRY (R28). -/
def execReadEntry (p : Port) (tag : Byte) (handle : Word16) (s : State) : Host.Outcome State Fault Refusal :=
  whenTaken s p (.readEntry p tag handle) fun s =>
    match s.entry? handle.toNat with
    | some e => s.reply p 0x03 tag .ok e.bytes
    | none => s.reply p 0x03 tag .noEntry []

/-- An entry's summary (R29). -/
def Entry.summary (e : Entry) : List Byte :=
  be 2 e.handle ++ [portByte e.origin, e.tag, byteOf e.group] ++ be 4 e.activation ++
    [classByte e.cls, entryStateByte e.state] ++ optionalByte e.sequence ++
    optionalByte (e.outcome.map entryOutcomeByte)

/-- The contents of a LIST ENTRIES reply: the count, then up to 8 summaries from a position on (R29). -/
def State.listing (s : State) (position : Nat) : List Byte :=
  byteOf s.calendar.length :: countedBytes Entry.summary ((s.calendar.drop position).take 8)

/-- LIST ENTRIES (R29). -/
def execListEntries (p : Port) (tag : Byte) (position : Byte) (s : State) : Host.Outcome State Fault Refusal :=
  whenTaken s p (.listEntries p tag position) fun s => s.reply p 0x04 tag .ok (s.listing position.toNat)

/-! ## The clock reaches an ES or an LS -/

/-- The clock has reached the ES of an entry's WAITING part (R15). -/
def State.esDue (s : State) (h : Nat) (ph : Phase) : Bool :=
  match s.entry? h with
  | some e => (e.parts.get ph).state = .waiting && (e.parts.get ph).es ≤ s.now
  | none => false

/-- ES_REACHED: the part becomes READY, or finishes NOT NEEDED (R6, R15). -/
def execEsReached (handle : Nat) (ph : Phase) (s : State) : Host.Outcome State Fault Refusal :=
  .next (if s.esDue handle ph then ((s.rereadPart handle ph).settleEntry handle).retireSince s else s)

/-- The clock has reached the LS of an entry's READY part, and a CONFIRMING entry of its group is to be cut short
(R74). -/
def State.lsDue (s : State) (h : Nat) (ph : Phase) : Bool :=
  match s.entry? h with
  | some e =>
      (e.parts.get ph).state = .ready && (e.parts.get ph).ls ≤ s.now &&
        s.calendar.any (fun x => x.handle != h && x.group == e.group && x.confirming && x.confirmLive)
  | none => false

/-- LS_REACHED: the part is due, and cuts short a CONFIRMING entry of its group (R74). -/
def execLsReached (handle : Nat) (ph : Phase) (s : State) : Host.Outcome State Fault Refusal :=
  .next
    (match s.entry? handle with
     | some e => if s.lsDue handle ph then (s.cutShortGroup e.group).retireSince s else s
     | none => s)

end Sys2Proof.Machine
end

