-- ==== Sys2Proof/Machine/Channels.lean ====
section
/-! DEFINITION. The channels' events: a flood's end and the end of the gap after it (R67), the end of an outbound span
(R56), and a reply or silence (R48); and the channels' commands READ LEVEL (R145) and SET TEST MASK (R155). -/

namespace Sys2Proof.Machine

/-! ## Commands -/

/-- A level controller's record with its settings (R145). -/
def LevelRec.bytes (l : LevelRec) (v : LevelSettings) : List Byte :=
  [byteOf l.level, byteOf l.applied, byteOf v.low, byteOf v.high, byteOf v.target, controllerStateByte l.state,
    byteOf l.windowCount] ++ optionalNat 1 l.windowMin ++
    optionalBytes 2 (fun (w : Nat × LevelAction) => [byteOf w.1, levelActionByte w.2]) l.lastWindow ++
    [flagByte l.levelLimit]

/-- READ LEVEL (R145). -/
def execReadLevel (p : Port) (tag channel : Byte) (s : State) : Host.Outcome State Fault Refusal :=
  whenTaken s p (.readLevel p tag channel) fun s =>
    match phaseOfChannel channel with
    | some ph => s.reply p 0x17 tag .ok ((s.levelRec ph).bytes (s.settings.levels.get ph))
    | none => s.reply p 0x17 tag .badParameter []

/-- SET TEST MASK (R155). -/
def execSetTestMask (p : Port) (tag channel : Byte) (mask : Word16) (s : State) : Host.Outcome State Fault Refusal :=
  whenTaken s p (.setTestMask p tag channel mask) fun s =>
    match phaseOfChannel channel with
    | some ph => State.reply { s with testMasks := s.testMasks.set ph mask } p 0x18 tag .ok (be16 (s.testMasks.get ph))
    | none => s.reply p 0x18 tag .badParameter []

/-! ## Floods -/

/-- A flood is off the wiring: last flood end is the present crossing (R67, R68). -/
def Channel.endFlood (c : Channel) : Channel :=
  { c with work := none, lastFloodEnd := some c.crossings, absentSinceFlood := false }

/-- The channel goes into the gap before the next repeat, still SENDING (R67 test 5). -/
def Channel.enterGap (c : Channel) (g : Nat) : Channel := { c with state := .sending, gapLeft := some g }

/-- The open part finishes at the end of its flood (R67 tests 1 and 2). -/
def State.finishOpen (s : State) (h : Nat) (ph : Phase) (p : Part) : State :=
  ((s.modChan ph (fun c => { c with openPart := none })).finishPart h ph p.startedFinish).settleEntry h

/-- What follows a flood of the open part, its repeat counted, in the order of the tests of R67. -/
def State.afterFlood (s : State) (h : Nat) (ph : Phase) (e : Entry) : State :=
  let p := e.parts.get ph
  if p.sent = p.planned || e.cancelled || e.cutOffReached then
    ((s.finishOpen h ph p).clearWork ph).afterWork ph
  else if (s.chan ph).haltPending then (s.clearWork ph).afterWork ph
  else if e.cls = .routine && s.line = .running && s.urgentDue ph then
    ((s.suspend h ph).clearWork ph).afterWork ph
  else if s.line ≠ .running then (s.clearWork ph).afterWork ph
  else s.modChan ph (fun c => c.enterGap s.settings.gap)

/-- A flood completes at the end of its last wave (R67); that of an entry a port reset removed updates no entry
(R77). -/
def State.endFlood (s : State) (ph : Phase) (f : Flood) : State :=
  let s := s.modChan ph Channel.endFlood
  match f.entry with
  | some h =>
      let s := s.modPart h ph (fun p => { p with sent := p.sent + 1 })
      match s.entry? h with
      | some e => s.afterFlood h ph e
      | none => (s.clearWork ph).afterWork ph
  | none => (s.clearWork ph).afterWork ph

/-- FLOOD_END (R67): effective when the flood on the channel has run its span. -/
def execFloodEnd (ph : Phase) (s : State) : Host.Outcome State Fault Refusal :=
  .next
    (match (s.chan ph).work with
     | some (.flood f) => if f.span ≤ f.slots then (s.endFlood ph f).retireSince s else s
     | _ => s)

/-- The gap of an open part has ended: the next repeat starts, or the part finishes at its cut-off and the channel
arbitrates at its next crossing (R67, R71). -/
def State.endGap (s : State) (h : Nat) (ph : Phase) : State :=
  match s.entry? h with
  | some e =>
      if e.cutOff * 1000 ≤ s.crossingNow ph then ((s.stopPart h ph).settleEntry h).markQuiet ph
      else s.sendRepeat h ph
  | none => s

/-- REPEAT_GAP_END (R67): effective when the slots of the gap have ended. -/
def execRepeatGapEnd (ph : Phase) (s : State) : Host.Outcome State Fault Refusal :=
  .next
    (match (s.chan ph).gapLeft, (s.chan ph).openPart with
     | some 0, some h => (s.endGap h ph).retireSince s
     | _, _ => s)

/-! ## Exchanges and probes -/

/-- The outbound span of the exchange or probe on a channel has run its slots. -/
def Work.spanEnded : Work → Bool
  | .flood _ => false
  | .exchange x => x.outSpan ≤ x.slots
  | .probe r => r.outSpan ≤ r.slots

/-- OUTBOUND_SPAN_END: the channel becomes LISTENING (R48, R56, R121). -/
def execOutboundSpanEnd (ph : Phase) (s : State) : Host.Outcome State Fault Refusal :=
  .next
    (match (s.chan ph).work with
     | some w =>
         if (s.chan ph).state = .sending && w.spanEnded then s.modChan ph (fun c => { c with state := .listening })
         else s
     | none => s)

/-- The exchange a channel listens for, if any. -/
def Channel.listeningFor (c : Channel) : Option Exchange :=
  match c.work with
  | some (.exchange x) => if c.state = .listening then some x else none
  | _ => none

/-- REPLY_RECEIVED (R48): a REPLY from the addressed unit that has ended by the silence point is taken; any other frame
changes nothing. DESIGN CHOICE (log 50): it is taken wherever it began, be it while the channel was still SENDING. -/
def execReplyReceived (ph : Phase) (heard : HeardFrame) (s : State) : Host.Outcome State Fault Refusal :=
  .next
    (match (s.chan ph).listeningFor, readReply s.identity.code heard.bytes with
     | some x, some r =>
         if x.slots ≤ x.silence && r.address == x.address then
           (s.endExchange ph x (some (r, marginOf heard.uplink))).retireSince s
         else s
     | _, _ => s)

/-- SILENCE_POINT (R48): effective when the exchange has run to its silence point. -/
def execSilencePoint (ph : Phase) (s : State) : Host.Outcome State Fault Refusal :=
  .next
    (match (s.chan ph).listeningFor with
     | some x => if x.silence ≤ x.slots then (s.endExchange ph x none).retireSince s else s
     | none => s)

end Sys2Proof.Machine
end

