-- ==== Sys2Proof/Machine/Discovery.lean ====
section
/-! DEFINITION. Discovery: START DISCOVERY and STOP DISCOVERY (R118), READ DISCOVERY (R129), the end of a reply window
and what it records (R123 to R125, R127), and the end of a rest (R128). -/

namespace Sys2Proof.Machine

/-! ## Starting, stopping and reading -/

/-- START DISCOVERY on one channel (R118). -/
def Discovery.start (d : Discovery) : Discovery := if d.state = .off then d.cycle else d

/-- STOP DISCOVERY on one channel (R118). -/
def Discovery.stop (d : Discovery) : Discovery :=
  match d.state with
  | .probing =>
      { d with
        state := .off, origin := none, stack := []
        probe := d.probe.map (fun p => { p with stopped := true }) }
  | .resting => { d with state := .off, restEnd := none }
  | .off => d

/-- All three discovery records change. -/
def State.mapDiscovery (s : State) (f : Discovery → Discovery) : State :=
  { s with discovery := ⟨f s.discovery.l1, f s.discovery.l2, f s.discovery.l3⟩ }

/-- START DISCOVERY (R118). -/
def execStartDiscovery (p : Port) (tag : Byte) (s : State) : Host.Outcome State Fault Refusal :=
  whenTaken s p (.startDiscovery p tag) fun s => (s.reply p 0x14 tag .ok []).mapDiscovery Discovery.start

/-- STOP DISCOVERY (R118). -/
def execStopDiscovery (p : Port) (tag : Byte) (s : State) : Host.Outcome State Fault Refusal :=
  whenTaken s p (.stopDiscovery p tag) fun s => (s.reply p 0x15 tag .ok []).mapDiscovery Discovery.stop

/-- An origin: 00h DIRECT, 01h a roster index, then the index (log 10). -/
def originBytes : Origin → List Byte
  | .direct => [0, 0, 0]
  | .relay i _ => 1 :: be 2 i

/-- A filter: its prefix length and its prefix value. -/
def filterBytes (f : ProbeFilter) : List Byte := byteOf f.length :: be32 f.value

/-- A discovery record as READ DISCOVERY gives it (R129). -/
def Discovery.bytes (d : Discovery) (elapsed : Nat) : List Byte :=
  [discoveryStateByte d.state] ++ optionalBytes 3 originBytes d.origin ++ countedBytes filterBytes d.stack ++
    [byteOf d.registration.length] ++ optionalBytes 5 filterBytes (d.probe.map (·.filter)) ++ be 2 d.splitOverflow ++
    optionalNat 2 (d.restEnd.map (fun t => (t - elapsed) / 1000))

/-- READ DISCOVERY (R129). -/
def execReadDiscovery (p : Port) (tag : Byte) (s : State) : Host.Outcome State Fault Refusal :=
  whenTaken s p (.readDiscovery p tag) fun s =>
    s.reply p 0x16 tag .ok
      (s.discovery.l1.bytes s.elapsed ++ s.discovery.l2.bytes s.elapsed ++ s.discovery.l3.bytes s.elapsed)

/-! ## Filters (R117, R122, R123) -/

/-- An address matches a filter. -/
def ProbeFilter.admits (f : ProbeFilter) (a : Address) : Bool := (a ^^^ f.value) >>> (32 - f.length) == 0

/-- The window an address answers in (R122). -/
def ProbeFilter.windowOf (f : ProbeFilter) (a : Address) : Nat :=
  if f.length = 32 then 0 else ((a >>> (30 - f.length)) &&& 3).toNat

/-- The filter extended by a window (R123). -/
def ProbeFilter.extend (f : ProbeFilter) (window : Nat) : ProbeFilter :=
  { length := f.length + 2, value := f.value ||| (BitVec.ofNat 32 window <<< (30 - f.length)) }

/-! ## What a probe finds (R123 to R125) -/

/-- The result of a window (R123). -/
inductive WindowResult where
  | good (r : ProbeReplyReading) (uplink ago : Nat)
  | collision
  | empty
deriving DecidableEq, Repr

/-- A reply taken in a window makes it GOOD (R123). -/
def ProbeFilter.goodReply (f : ProbeFilter) (window : Nat) (r : ProbeReplyReading) : Bool :=
  r.address != 0 && r.address != 0xFFFFFFFF && f.admits r.address && f.windowOf r.address = window

/-- The frame began at or after the start of its window, of this many slots: its airtime in ROBUST and the slots after it
fit in the window (R34, R121). -/
def beganWithin (x : WindowFrame) (span : Nat) : Bool := airtime x.frame.bytes.length .robust + x.slots ≤ span

/-- The reply a frame in a window gives, where it is taken: a PROBE REPLY whole and good, begun in the window (R121). -/
def replyTaken (x : WindowFrame) (code : Word16) (span : Nat) : Option ProbeReplyReading :=
  if beganWithin x span then readProbeReply code x.frame.bytes else none

/-- What was heard in a window, read at its end (R121, R123, R148, log 18). -/
def readWindow (code : Word16) (f : ProbeFilter) (window span : Nat) (heard : List WindowFrame) : WindowResult :=
  let taken := heard.filterMap (fun x => (replyTaken x code span).map (fun r => (r, marginOf x.frame.uplink, x.ago)))
  match taken.find? (fun x => f.goodReply window x.1) with
  | some x => .good x.1 x.2.1 x.2.2
  | none =>
      if taken.isEmpty && heard.any (fun x => !inTransit code x.frame.bytes) then .collision else .empty

/-- A collision (R123). -/
def Discovery.collide (d : Discovery) (p : ProbeInFlight) (window : Nat) : Discovery :=
  if p.stopped then d
  else if p.filter.length < 32 ∧ d.stack.length < Config.splitPlaces then
    { d with stack := p.filter.extend window :: d.stack }
  else { d with splitOverflow := saturatingSucc Config.counterTop d.splitOverflow }

/-- The calendar second a reply ended in, this many milliseconds ago; none while the clock is UNSET (R124). DESIGN
CHOICE (log 29): after a SET TIME taken since the reply's end, the second is counted back from the stepped clock. -/
def State.replySecond (s : State) (ago : Nat) : Option Nat :=
  if s.clock.isSet then some ((s.now - ago) / 1000) else none

/-- A record joins the channel's registration list; one that joins on a HALTED channel is discarded (R124, R127). -/
def State.register (s : State) (ph : Phase) (i : Nat) (a : Address) : State :=
  if (s.chan ph).state = .halted then s
  else s.modDisc ph (fun d => { d with registration := d.registration ++ [(i, a)] })

/-- UNIT FOUND (R124). -/
def unitFoundNotice (i : Nat) (u : UnitRec) : Item :=
  .notice .unitFound (be 2 i ++ be32 u.address ++ [phaseByte u.phase, byteOf u.route.length, flagByte u.relayCapable] ++
    groupListBytes u.groups)

/-- A unit as its first probe reply records it, route lawful or not (R124). -/
def UnitRec.found (ph : Phase) (r : ProbeReplyReading) (route : List Nat) (sample : Nat) (second : Option Nat) :
    UnitRec :=
  UnitRec.heard
    (UnitRec.takeSample (UnitRec.added r.address ph r.groups r.relayCapable route) true sample) second

/-- A route that breaks R102 is recorded empty, and the unit is LOST (R127). -/
def UnitRec.lawful (u : UnitRec) (r : Roster) (own : Option Nat) : UnitRec :=
  if routeLawful r u.phase own u.route then u else u.invalidated

/-- A new address is recorded (R124). DESIGN CHOICE (log 45): UNIT FOUND is offered before the notices of the
recomputation. -/
def State.recordFound (s : State) (ph : Phase) (p : ProbeInFlight) (r : ProbeReplyReading) (uplink ago : Nat) :
    State :=
  match lowestFree s.rosterCapacity s.roster with
  | none => s.post (.rosterFull ph r.address)
  | some i =>
      let sample := marginSample p.route.length uplink r.downlink r.hopUp
      let u := (UnitRec.found ph r p.route sample (s.replySecond ago)).lawful s.roster none
      let t := State.register { s with roster := putUnit i u s.roster } ph i u.address
      (t.offerBoth (unitFoundNotice i u)).recomputeGroups u.groups

/-- A known unit after a probe reply (R125, R104, R127). -/
def UnitRec.refound (u : UnitRec) (roster : Roster) (i : Nat) (ph : Phase) (route : List Nat) (sample : Nat)
    (second : Option Nat) : UnitRec :=
  let v := (u.takeSample false sample).heard second
  if u.pinned || route.contains i then v
  else UnitRec.lawful { v with phase := ph, route } roster (some i)

/-- A known address is updated (R125): its dependents lose their routes if its phase or route changed (R103), UNIT LOST
is offered for every unit the event set LOST (R101, R127), and figures are computed afresh (R115). DESIGN CHOICE (log
45): UNIT LOST is offered before the notices of the recomputation. -/
def State.updateFound (s : State) (ph : Phase) (p : ProbeInFlight) (r : ProbeReplyReading) (uplink ago i : Nat)
    (u : UnitRec) : State :=
  let sample := marginSample p.route.length uplink r.downlink r.hopUp
  let v := u.refound s.roster i ph p.route sample (s.replySecond ago)
  let written := s.modUnit i (fun _ => v)
  let moved : Bool := u.route != v.route || u.phase != v.phase
  let after := if moved then invalidateFrom i written.roster else written.roster
  let t := (State.noticeLost { s with roster := after } s.roster .route).register ph i u.address
  if moved || u.figuresMoved v then
    t.recomputeGroups
      (unitGroups s.roster i u (u.mode != v.mode) ++ changedGroups written.roster after)
  else t

/-- The result of a window takes effect (R123). -/
def State.applyWindow (s : State) (ph : Phase) (p : ProbeInFlight) (window : Nat) : WindowResult → State
  | .good r uplink ago =>
      match s.indexOf? r.address with
      | some x => s.updateFound ph p r uplink ago x.1 x.2
      | none => s.recordFound ph p r uplink ago
  | .collision => s.modDisc ph (fun d => d.collide p window)
  | .empty => s

/-- A probe's last window has been read: no probe is in flight, the origin advances if the split stack is empty (R119),
and the channel becomes IDLE (R75). -/
def State.endProbe (s : State) (ph : Phase) : State :=
  let s := s.modDisc ph (fun d => { d with probe := none })
  let d := s.disc ph
  let s := if d.state = .probing ∧ d.stack = [] then s.advanceOrigin ph else s
  (s.clearWork ph).afterWork ph

/-- A window of the probe on a channel ends (R123). -/
def State.endWindow (s : State) (ph : Phase) (r : ProbeRun) (p : ProbeInFlight) (heard : List WindowFrame) : State :=
  let t := s.applyWindow ph p r.next (readWindow s.identity.code p.filter r.next r.window heard)
  if r.next = 3 then t.endProbe ph
  else t.modChan ph (fun c => { c with work := some (.probe { r with next := r.next + 1 }) })

/-- PROBE_WINDOW_END (R123): effective when the window in progress of a listening probe has run its slots. -/
def execProbeWindowEnd (ph : Phase) (heard : List WindowFrame) (s : State) : Host.Outcome State Fault Refusal :=
  .next
    (match (s.chan ph).work, (s.disc ph).probe with
     | some (.probe r), some p =>
         if (s.chan ph).state = .listening ∧ windowEnd r.outSpan r.window r.gap r.next ≤ r.slots then
           (s.endWindow ph r p heard).retireSince s
         else s
     | _, _ => s)

/-! ## The end of a rest -/

/-- A rest is over (R128). -/
def State.restOver (s : State) (ph : Phase) : Bool :=
  (s.disc ph).state = .resting && (match (s.disc ph).restEnd with | some t => t ≤ s.elapsed | none => false)

/-- REST_END: a new cycle begins (R128). -/
def execRestEnd (ph : Phase) (s : State) : Host.Outcome State Fault Refusal :=
  .next (if s.restOver ph then s.modDisc ph Discovery.cycle else s)

end Sys2Proof.Machine
end

