-- ==== Sys2Proof/Machine/Line.lean ====
section
/-! DEFINITION. RUN LINE, HOLD LINE and RELEASE LINE (R49 to R53), and the joint commands (R54): APPLY PROFILE (R180),
SET PARAMETER (R181), SET GROUP PERMIT and SET QUOTA (R182), with the acceptance of a save they share with chapter 11
(R183). -/

namespace Sys2Proof.Machine

/-! ## The line -/

/-- RUN LINE (R49). -/
def execRunLine (p : Port) (tag : Byte) (s : State) : Host.Outcome State Fault Refusal :=
  whenTaken s p (.runLine p tag) fun s =>
    if s.line ≠ .stopped then s.reply p 0x05 tag .badState []
    else if s.identity.code = Config.unsetCode then s.reply p 0x05 tag .noIdentity []
    else
      let t := s.reply p 0x05 tag .ok []
      State.noteLine { t with line := if s.hold.a || s.hold.b then .held else .running } s.line s.hold

/-- A channel between two repeats becomes IDLE and keeps its open part when the line goes to DRAINING (R50, R56). -/
def Channel.drain (c : Channel) : Channel :=
  if c.gapLeft.isSome then { c with state := .idle, gapLeft := none } else c

/-- The line with a port added to the hold set (R50): a RUNNING line goes to DRAINING, and on to HELD when no channel
is left SENDING or LISTENING. -/
def State.addHold (s : State) (p : Port) : State :=
  let t := { s with hold := s.hold.set p true }
  if s.line = .running then
    if s.anyBusy then
      State.settleLine
        { t with
          line := .draining
          channels := ⟨s.channels.l1.drain, s.channels.l2.drain, s.channels.l3.drain⟩ }
    else { t with line := .held }
  else t

/-- HOLD LINE (R50): a port already in the hold set changes nothing. -/
def execHoldLine (p : Port) (tag : Byte) (s : State) : Host.Outcome State Fault Refusal :=
  whenTaken s p (.holdLine p tag) fun s =>
    let t := s.reply p 0x06 tag .ok []
    if s.hold.get p then t else (t.addHold p).noteLine s.line s.hold

/-- RELEASE LINE (R52). -/
def execReleaseLine (p : Port) (tag : Byte) (s : State) : Host.Outcome State Fault Refusal :=
  whenTaken s p (.releaseLine p tag) fun s =>
    if s.hold.get p then ((s.reply p 0x07 tag .ok []).releaseHold p).noteLine s.line s.hold
    else s.reply p 0x07 tag .notHolding []

/-! ## Profiles (R180) -/

/-- The ten parameters of a profile's column (R180). -/
def Settings.withProfile (v : Settings) (q : Profile) : Settings :=
  let v := { v with profile := q, modified := false }
  match q with
  | .smallQuiet =>
      { v with routineRepeats := 2, urgentRepeats := 3, pollRetries := 1, guardMs := 1000, leadS := 300, gap := 1,
               tolerance := 1, degradeLimit := 2, lostLimit := 5, probePeriod := 600 }
  | .smallNoisy =>
      { v with routineRepeats := 3, urgentRepeats := 4, pollRetries := 2, guardMs := 2000, leadS := 600, gap := 2,
               tolerance := 2, degradeLimit := 3, lostLimit := 8, probePeriod := 900 }
  | .mediumQuiet =>
      { v with routineRepeats := 2, urgentRepeats := 3, pollRetries := 1, guardMs := 1500, leadS := 600, gap := 1,
               tolerance := 1, degradeLimit := 2, lostLimit := 5, probePeriod := 900 }
  | .mediumNoisy =>
      { v with routineRepeats := 3, urgentRepeats := 4, pollRetries := 2, guardMs := 2500, leadS := 900, gap := 2,
               tolerance := 2, degradeLimit := 3, lostLimit := 8, probePeriod := 1200 }
  | .largeQuiet =>
      { v with routineRepeats := 2, urgentRepeats := 3, pollRetries := 1, guardMs := 2000, leadS := 900, gap := 2,
               tolerance := 2, degradeLimit := 2, lostLimit := 6, probePeriod := 1800 }
  | .largeNoisy =>
      { v with routineRepeats := 4, urgentRepeats := 5, pollRetries := 2, guardMs := 3000, leadS := 1200, gap := 2,
               tolerance := 3, degradeLimit := 3, lostLimit := 10, probePeriod := 1800 }

/-- Every channel's controller returns to ACQUIRE (R143). -/
def State.reacquireAll (s : State) : State :=
  { s with levels := ⟨s.levels.l1.reacquire, s.levels.l2.reacquire, s.levels.l3.reacquire⟩ }

/-- APPLY PROFILE (R54, R180). -/
def execApplyProfile (p : Port) (tag : Byte) (profile : Byte) (s : State) : Host.Outcome State Fault Refusal :=
  whenTaken s p (.applyProfile p tag profile) fun s =>
    if !s.joint then s.reply p 0x08 tag .notJoint []
    else
      match profileOfByte profile with
      | some q =>
          let t := s.reply p 0x08 tag .ok []
          (State.reacquireAll { t with settings := s.settings.withProfile q }).recomputeAll.retireSince s
      | none => s.reply p 0x08 tag .badParameter []

/-! ## Parameters (R181) -/

/-- The parameters SET PARAMETER can name, in the order of their numbers (R195). -/
inductive Parameter where
  | routineRepeats | urgentRepeats | guardMs | leadS | gap | tolerance | pollRetries | degradeLimit | lostLimit
  | probePeriod
  | levelMin (ph : Phase)
  | levelMax (ph : Phase)
  | target (ph : Phase)
  | nominal
deriving DecidableEq, Repr

/-- The parameter a parameter byte and a channel byte name; the channel is read for the level settings only. -/
def readParameterArgs (a : ParameterArgs) : Option Parameter :=
  match a.parameter.toNat with
  | 0x00 => some .routineRepeats
  | 0x01 => some .urgentRepeats
  | 0x02 => some .guardMs
  | 0x03 => some .leadS
  | 0x04 => some .gap
  | 0x05 => some .tolerance
  | 0x06 => some .pollRetries
  | 0x07 => some .degradeLimit
  | 0x08 => some .lostLimit
  | 0x09 => some .probePeriod
  | 0x0A => (phaseOfChannel a.channel).map .levelMin
  | 0x0B => (phaseOfChannel a.channel).map .levelMax
  | 0x0C => (phaseOfChannel a.channel).map .target
  | 0x0D => some .nominal
  | _ => none

/-- The value SET PARAMETER writes for the parameter it names (R181). -/
def Parameter.written (q : Parameter) (v : Settings) (value : Nat) : Nat :=
  match q with
  | .routineRepeats => holdWithin 1 8 value
  | .urgentRepeats => holdWithin 1 8 value
  | .guardMs => holdWithin 0 10000 value
  | .leadS => holdWithin 60 3600 value
  | .gap => holdWithin 1 4 value
  | .tolerance => holdWithin 1 3 value
  | .pollRetries => holdWithin 0 3 value
  | .degradeLimit => holdWithin 1 15 value
  | .lostLimit => holdWithin (v.degradeLimit + 1) 31 value
  | .probePeriod => holdWithin 60 7200 value
  | .levelMin _ => holdWithin 0 63 value
  | .levelMax ph => max (holdWithin 0 63 value) (v.levels.get ph).low
  | .target _ => holdWithin 0 255 value
  | .nominal => if value < 5500 then 5000 else 6000

/-- The settings with a value written, and what the writing brings with it: the lost limit above a new degrade limit,
and the level maximum not below a new minimum (R181). -/
def Parameter.store (q : Parameter) (v : Settings) (w : Nat) : Settings :=
  match q with
  | .routineRepeats => { v with routineRepeats := w, modified := true }
  | .urgentRepeats => { v with urgentRepeats := w, modified := true }
  | .guardMs => { v with guardMs := w, modified := true }
  | .leadS => { v with leadS := w, modified := true }
  | .gap => { v with gap := w, modified := true }
  | .tolerance => { v with tolerance := w, modified := true }
  | .pollRetries => { v with pollRetries := w, modified := true }
  | .degradeLimit => { v with degradeLimit := w, lostLimit := max v.lostLimit (w + 1), modified := true }
  | .lostLimit => { v with lostLimit := w, modified := true }
  | .probePeriod => { v with probePeriod := w, modified := true }
  | .levelMin ph =>
      let l := v.levels.get ph
      { v with levels := v.levels.set ph { l with low := w, high := max l.high w } }
  | .levelMax ph => { v with levels := v.levels.set ph { v.levels.get ph with high := w } }
  | .target ph => { v with levels := v.levels.set ph { v.levels.get ph with target := w } }
  | .nominal => { v with nominal := w }

/-- The effects of a parameter on other blocks, on the same event (R42, R143, R181). -/
def State.parameterEffects (s : State) : Parameter → State
  | .routineRepeats => s.recomputeAll
  | .urgentRepeats => s.recomputeAll
  | .guardMs => s.recomputeAll
  | .leadS => s.recomputeAll
  | .gap => s.recomputeAll
  | .levelMin ph => s.modLevel ph (fun l => (l.reacquire).within (s.settings.levels.get ph))
  | .levelMax ph => s.modLevel ph (fun l => (l.reacquire).within (s.settings.levels.get ph))
  | .target ph => s.modLevel ph LevelRec.reacquire
  | .tolerance => s
  | .pollRetries => s
  | .degradeLimit => s
  | .lostLimit => s
  | .probePeriod => s
  | .nominal => s

/-- SET PARAMETER (R54, R181). -/
def execSetParameter (p : Port) (tag : Byte) (a : ParameterArgs) (s : State) : Host.Outcome State Fault Refusal :=
  whenTaken s p (.setParameter p tag a) fun s =>
    if !s.joint then s.reply p 0x09 tag .notJoint []
    else
      match readParameterArgs a with
      | some q =>
          let w := q.written s.settings a.value.toNat
          let t := s.reply p 0x09 tag .ok (be 2 w)
          (State.parameterEffects { t with settings := q.store s.settings w } q).retireSince s
      | none => s.reply p 0x09 tag .badParameter []

/-! ## Permits and quotas (R182) -/

/-- SET GROUP PERMIT (R54, R182). -/
def execSetGroupPermit (p : Port) (tag : Byte) (group permit : Byte) (s : State) : Host.Outcome State Fault Refusal :=
  whenTaken s p (.setGroupPermit p tag group permit) fun s =>
    if !s.joint then s.reply p 0x0A tag .notJoint []
    else
      match permitOfByte permit with
      | some q =>
          if 63 < group.toNat then s.reply p 0x0A tag .badParameter []
          else
            let t := s.reply p 0x0A tag .ok []
            { t with settings := { s.settings with permits := s.settings.permits.set group.toNat q } }
      | none => s.reply p 0x0A tag .badParameter []

/-- A save would be refused BUSY (R183). -/
def State.storeBusy (s : State) : Bool := s.store.state ≠ .idle || s.store.heldDone.isSome

/-- A save is accepted (R183): its snapshot is taken, the store state becomes ERASING, and the image of its area is
invalid from then on. -/
def State.startSave (s : State) (p : Port) (tag : Byte) (snapshot : Snapshot) : State :=
  let store := { s.store with state := .erasing, save := some { snapshot, origin := p, tag } }
  { s with
    store :=
      match snapshot with
      | .settings _ => { store with settingsImage := none }
      | .roster _ => { store with rosterImage := none } }

/-- SET QUOTA (R54, R182): the next-start values are written, and a settings save starts. -/
def execSetQuota (p : Port) (tag : Byte) (layout quotaA quotaB : Byte) (s : State) :
    Host.Outcome State Fault Refusal :=
  whenTaken s p (.setQuota p tag layout quotaA quotaB) fun s =>
    if !s.joint then s.reply p 0x0B tag .notJoint []
    else if 2 < layout.toNat then s.reply p 0x0B tag .badParameter []
    else if s.storeBusy then s.reply p 0x0B tag .busy []
    else
      let qa := min quotaA.toNat 192
      let qb := min quotaB.toNat 192
      let settings := { s.settings with nextLayout := layout.toNat, nextQuota := ⟨qa, qb⟩ }
      let t := s.reply p 0x0B tag .ok [layout, byteOf qa, byteOf qb]
      State.startSave { t with settings } p tag (.settings settings)

end Sys2Proof.Machine
end

