-- ==== Sys2Proof/Machine/Mains.lean ====
section
/-! DEFINITION. Mains timing and the calendar clock: ZERO_CROSSING (R156, R157), PHASE_LOSS (R158), the measured and the
planning frequency (R159, R160), the excursion (R161), SECOND_BOUNDARY (R163), SET TIME (R164, R18) and READ TIME
(R165). -/

namespace Sys2Proof.Machine

/-! ## Crossings -/

/-- An in-range interval joins the end of a history of at most 16 (R156). -/
def pushInterval (history : List Nat) (d : Nat) : List Nat :=
  (if Config.historyPlaces ≤ history.length then history.tail else history) ++ [d]

/-- A phase that has just been declared PRESENT: its channel becomes IDLE, or stays HALTED (R157, R58). -/
def State.returnPhase (s : State) (ph : Phase) : State :=
  s.modChan ph (fun c => if c.state = .halted then c else { c with state := .idle })

/-- An accepted crossing with its interval from the last one (R156, R157). -/
def State.acceptCrossing (s : State) (ph : Phase) (c : Crossing) (d : Nat) (noise : Int) (bufferBad : Bool) : State :=
  let r := { s.phaseRec ph with lastCrossing := some c }
  let inRange := d ≤ Config.crossingHigh
  if r.present then
    let r := if inRange then { r with history := pushInterval r.history d } else r
    (s.setPhaseRec ph r).handCrossing ph noise bufferBad
  else if inRange then
    let r := { r with history := pushInterval r.history d, run := r.run + 1 }
    if r.run = Config.declareRun then
      ((s.setPhaseRec ph { r with present := true }).returnPhase ph).handCrossing ph noise bufferBad
    else s.setPhaseRec ph r
  else s.setPhaseRec ph { r with run := 0, history := [] }

/-- A phase's first crossing since start-up or since its loss (R156). -/
def State.firstCrossing (s : State) (ph : Phase) (c : Crossing) : State :=
  s.setPhaseRec ph { s.phaseRec ph with lastCrossing := some c }

/-- A crossing reported at an instant of elapsed time in µs (R156). A crossing more than 40 ms after the last one finds
the phase declared ABSENT already (R158). -/
def State.reportCrossing (s : State) (ph : Phase) (instant : Nat) (noise : Int) (bufferBad : Bool) : State :=
  let c : Crossing := { instant, stamp := s.now }
  match (s.phaseRec ph).lastCrossing with
  | none => s.firstCrossing ph c
  | some last =>
      let d := instant - last.instant
      if d < Config.crossingLow then s
      else if (s.phaseRec ph).present && Config.lossMicros < d then (s.losePhase ph).firstCrossing ph c
      else s.acceptCrossing ph c d noise bufferBad

/-- ZERO_CROSSING (R156). -/
def execZeroCrossing (ph : Phase) (micros : Nat) (noise : Int) (bufferBad : Bool) (s : State) :
    Host.Outcome State Fault Refusal :=
  .next ((s.reportCrossing ph (s.elapsed * 1000 + micros) noise bufferBad).retireSince s)

/-- A PRESENT phase has had no accepted crossing for 40 ms (R158). -/
def State.lossDue (s : State) (ph : Phase) : Bool :=
  (s.phaseRec ph).present &&
    (match (s.phaseRec ph).lastCrossing with
     | some c => c.instant + Config.lossMicros ≤ s.elapsed * 1000
     | none => false)

/-- PHASE_LOSS (R158). -/
def execPhaseLoss (ph : Phase) (s : State) : Host.Outcome State Fault Refusal :=
  .next (if s.lossDue ph then (s.losePhase ph).retireSince s else s)

/-! ## Frequency -/

/-- A quotient rounded to the nearest whole number, a half rounded up (R159). -/
def roundedQuotient (a b : Nat) : Nat := (2 * a + b) / (2 * b)

/-- The measured frequency of a PRESENT phase, in cHz (R159). -/
def PhaseRec.frequency (r : PhaseRec) : Option Nat :=
  if r.present then some (roundedQuotient (r.history.length * 50000000) (r.history.foldl (· + ·) 0)) else none

/-- The reference phase: the lowest-numbered PRESENT phase (R160). -/
def State.reference (s : State) : Option Phase := phases.find? (fun ph => (s.phaseRec ph).present)

/-- The reference phase with its measured frequency. -/
def State.referenceFrequency (s : State) : Option (Phase × Nat) :=
  match s.reference with
  | some ph => (s.phaseRec ph).frequency.map (fun f => (ph, f))
  | none => none

/-- The planning frequency a boundary sets (R160). -/
def State.refreshedPlanFrequency (s : State) : Nat :=
  match s.referenceFrequency with
  | some (_, f) => holdWithin Config.planFrequencyLow Config.planFrequencyHigh f
  | none => s.settings.nominal

/-- A frequency outside the range planning accepts. -/
def outOfRange (f : Nat) : Bool := f < Config.planFrequencyLow || Config.planFrequencyHigh < f

/-- The excursion is judged (R161). -/
def State.judgeExcursion (s : State) : State :=
  match s.referenceFrequency with
  | some (ph, f) =>
      if outOfRange f then
        if s.excursion then s else State.post { s with excursion := true } (.frequencyRange ph f)
      else { s with excursion := false }
  | none => { s with excursion := false }

/-! ## The calendar clock -/

/-- Field-pending items leave every group's list (R113). -/
def State.dropField (s : State) (leaves : Nat → Bool) : State :=
  { s with
    groups := s.groups.map (fun r => { r with fieldPending := r.fieldPending.filter (fun a => !leaves a) }) }

/-- What the boundary of a new second does, the clock standing at it (R40, R163): the plans are recomputed with the
frequency it set, and the cut-offs it reaches finish their parts. -/
def State.crossSecond (s : State) (second : Nat) : State :=
  let t := State.judgeExcursion { s with fPlan := s.refreshedPlanFrequency }
  ((t.review true (fun _ => true) (fun e => e.cutOff = second)).dropField (· = second)).retireSince s

/-- The clock holds its last value (R162). -/
def State.clockEnded (s : State) : Bool := Config.lastSecond ≤ s.clock.millis / 1000

/-- The clock counts on to the next second, and elapsed time with it. DESIGN CHOICE (log 2): what falls due in the time
that passes, a phase's loss among it, is declared only after the boundary. -/
def State.toNextSecond (s : State) : State :=
  let millis := (s.clock.millis / 1000 + 1) * 1000
  { s with elapsed := s.elapsed + (millis - s.clock.millis), clock := { s.clock with millis } }

/-- SECOND_BOUNDARY (R163): none occurs once the clock has reached its last second (R162). -/
def execSecondBoundary (s : State) : Host.Outcome State Fault Refusal :=
  .next (if s.clockEnded then s else s.toNextSecond.crossSecond (s.clock.millis / 1000 + 1))

/-- A clock step, the clock standing at the new value (R18, R113, R164): every WAITING and READY part is read again
against now, without new figures, and the parts of the entries whose cut-off it reaches finish. -/
def State.stepClock (s : State) (second : Nat) : State :=
  let t :=
    { s with
      calendar := s.calendar.map (fun (e : Entry) => { e with timeStepped := e.timeStepped || e.sequence.isSome }) }
  ((t.review false (fun _ => true) (fun e => e.cutOff ≤ second)).dropField (· ≤ second)).retireSince s

/-- SET TIME (R164). DESIGN CHOICE (log 10): the value in the reply is the calendar second in four bytes and the
millisecond in two. -/
def execSetTime (p : Port) (tag : Byte) (seconds : Word32) (millis : Word16) (s : State) :
    Host.Outcome State Fault Refusal :=
  whenTaken s p (.setTime p tag seconds millis) fun s =>
    if 999 < millis.toNat then s.reply p 0x19 tag .badParameter []
    else
      let t :=
        s.reply p 0x19 tag .ok
          (be 4 (s.clock.millis / 1000) ++ be 2 (s.clock.millis % 1000) ++ [clockStateByte s.clock.isSet])
      State.stepClock { t with clock := ⟨true, seconds.toNat * 1000 + millis.toNat⟩ } seconds.toNat

/-- A phase as READ TIME gives it (R165). -/
def PhaseRec.bytes (r : PhaseRec) : List Byte :=
  [presenceByte r.present, byteOf r.history.length] ++ optionalNat 2 r.frequency

/-- READ TIME (R165). -/
def execReadTime (p : Port) (tag : Byte) (s : State) : Host.Outcome State Fault Refusal :=
  whenTaken s p (.readTime p tag) fun s =>
    s.reply p 0x1A tag .ok
      (be 4 (s.clock.millis / 1000) ++ be 2 (s.clock.millis % 1000) ++ [clockStateByte s.clock.isSet] ++
        be 2 s.fPlan ++ optionalByte (s.reference.map phaseByte) ++ [flagByte s.excursion] ++
        s.mains.l1.bytes ++ s.mains.l2.bytes ++ s.mains.l3.bytes)

end Sys2Proof.Machine
end

