-- ==== Sys2Proof/Machine/Ports.lean ====
section
/-! DEFINITION. The client ports: the frames refused by R168, the held notices (R172), STATUS (R174) and RESET PORT (R175,
R176). -/

namespace Sys2Proof.Machine

/-! ## Frames refused, and held notices -/

/-- The refusal of a frame that fails a test of R168: its code, its tag, and the outcome code. -/
def FrameReading.refusal : FrameReading → Option (Byte × Byte × ReplyCode)
  | .badFrame code tag => some (code, tag, .badFrame)
  | .badParameter code tag => some (code, tag, .badParameter)
  | .command _ => none

/-- FRAME_REFUSED (R168): effective where the oldest frame fails a test and the out-queue has a place. -/
def execFrameRefused (p : Port) (s : State) : Host.Outcome State Fault Refusal :=
  .next
    (match (s.headReading p).bind FrameReading.refusal with
     | some (code, tag, outcome) =>
         if (s.port p).outq.length < Config.outQueueItems then (s.popFrame p).reply p code tag outcome [] else s
     | none => s)

/-- HELD_NOTICE_QUEUED (R172): effective where the out-queue has room for the notice at the head of the list. -/
def execHeldNoticeQueued (p : Port) (s : State) : Host.Outcome State Fault Refusal :=
  .next
    (match (s.port p).held with
     | o :: rest =>
         if noticeRoom (s.port p).outq then (s.modPort p (fun r => { r with held := rest })).queueHeld p o else s
     | [] => s)

/-! ## STATUS -/

/-- The contents of a STATUS reply (R174). -/
def State.statusBytes (s : State) (p : Port) : List Byte :=
  [lineStateByte s.line, portsByte s.hold, channelStateByte s.channels.l1.state, channelStateByte s.channels.l2.state,
    channelStateByte s.channels.l3.state, clockStateByte s.clock.isSet] ++ be 4 (s.clock.millis / 1000) ++
    [byteOf s.calendarCapacity, byteOf s.calendar.length, byteOf (s.liveCount .A), byteOf s.settings.quota.a,
      byteOf (s.liveCount .B), byteOf s.settings.quota.b, storeStateByte s.store.state] ++
    be 2 s.faults.generation ++ be 2 s.ports.a.overflow ++ be 2 s.ports.a.drops ++ be 2 s.ports.b.overflow ++
    be 2 s.ports.b.drops ++
    [byteOf (s.port p).fifo.length, byteOf (s.port p).outq.length, byteOf (noticeCount (s.port p).outq)]

/-- STATUS (R174). -/
def execStatus (p : Port) (tag : Byte) (s : State) : Host.Outcome State Fault Refusal :=
  whenTaken s p (.status p tag) fun s => s.reply p 0x24 tag .ok (s.statusBytes p)

/-! ## RESET PORT -/

/-- A port after its reset (R175): a transfer under way goes on, and its completion removes nothing (R170). -/
def PortRec.reset (r : PortRec) : PortRec :=
  { r with
    fifo := [], outq := [], overflow := 0, drops := 0, held := []
    transfer := r.transfer.map (fun t => { t with cut := true }) }

/-- The handle belongs to an entry of the port. -/
def State.ownedBy (s : State) (p : Port) (h : Nat) : Bool :=
  match s.entry? h with
  | some e => e.origin == p
  | none => false

/-- Work in flight for an entry a port reset removes goes on for no entry (R77, R86). -/
def Work.orphan (owned : Nat → Bool) : Work → Work
  | .flood f => .flood { f with entry := f.entry.filter (fun h => !owned h) }
  | .exchange x =>
      match x.owner with
      | .confirm e => .exchange { x with owner := .confirm (e.filter (fun h => !owned h)) }
      | _ => .exchange x
  | .probe r => .probe r

/-- What a channel does with the parts and the work of the entries a port reset removes (R77): its open part and its
suspended part are given up, a channel in the gap of such a part becomes IDLE, and work in flight goes on. -/
def Channel.releaseOwned (c : Channel) (owned : Nat → Bool) : Channel :=
  let gap := (match c.openPart with | some h => owned h | none => false) && c.gapLeft.isSome
  let c :=
    { c with
      work := c.work.map (Work.orphan owned)
      openPart := c.openPart.filter (fun h => !owned h)
      suspendedPart := c.suspendedPart.filter (fun h => !owned h) }
  if gap then { c with state := .idle, gapLeft := none } else c

/-- The entries of a port leave the calendar (R31), and the channels deal with what they held for them (R77). -/
def State.removeEntries (s : State) (p : Port) : State :=
  let owned := s.ownedBy p
  { s with
    channels := ⟨s.channels.l1.releaseOwned owned, s.channels.l2.releaseOwned owned, s.channels.l3.releaseOwned owned⟩
    calendar := s.calendar.filter (fun e => e.origin != p)
    retirement := s.retirement.set p [] }

/-- A ping queue after a reset of a port: its QUEUED and HELD records leave, one IN FLIGHT is marked dropped (R95). -/
def dropPings (p : Port) (q : List PingRec) : List PingRec :=
  (q.filter (fun r => r.origin != p || r.state == .inFlight)).map
    (fun r => if r.origin == p then { r with dropped := true } else r)

/-- A survey's held notice for the port is discarded (R176). -/
def Survey.discard (p : Port) (v : Survey) : Survey := { v with held := v.held.filter (fun x => x.1 != p) }

/-- The effects of a port reset on the blocks that keep state for the port, its hold apart (R176). -/
def State.resetOwned (s : State) (p : Port) : State :=
  let s := s.removeEntries p
  { s with
    pings := ⟨dropPings p s.pings.l1, dropPings p s.pings.l2, dropPings p s.pings.l3⟩
    readCursors := s.readCursors.set p 0
    store := { s.store with heldDone := s.store.heldDone.filter (fun d => d.origin != p) }
    surveys := ⟨s.surveys.l1.discard p, s.surveys.l2.discard p, s.surveys.l3.discard p⟩ }

/-- RESET PORT (R175 to R177): the reply is the first item of the emptied out-queue, and LINE STATE follows it. -/
def execResetPort (p : Port) (tag : Byte) (s : State) : Host.Outcome State Fault Refusal :=
  whenTaken s p (.resetPort p tag) fun s =>
    let t := ((s.modPort p PortRec.reset).resetOwned p).reply p 0x25 tag .ok []
    (t.releaseHold p).noteLine s.line s.hold

end Sys2Proof.Machine
end

