-- ==== Sys2Proof/Machine/Record.lean ====
section
/-! DEFINITION. The Fault Record's commands READ FAULTS and CLEAR FAULTS (R188), and the line survey's commands START
SURVEY (R189, R191) and READ SURVEY (R192). -/

namespace Sys2Proof.Machine

/-! ## Faults -/

/-- A first-fault record: kind, time and detail. -/
def faultRecordBytes (r : FaultReport × Option Nat) : List Byte := [byteOf r.1.kind] ++ faultTime r.2 ++ r.1.detail

/-- The width of an absent record's zeros: a kind, a time, and the one-byte detail of kind 00h (log 10). -/
def absentRecordWidth : Nat := 8

/-- READ FAULTS (R188). -/
def execReadFaults (p : Port) (tag : Byte) (s : State) : Host.Outcome State Fault Refusal :=
  whenTaken s p (.readFaults p tag) fun s =>
    s.reply p 0x20 tag .ok
      (optionalBytes absentRecordWidth faultRecordBytes s.faults.record ++ s.faults.counters.map byteOf ++
        be 2 s.faults.generation)

/-- A fault kind is in a set (R195): bit 0 for PORT OVERFLOW. -/
def kindIn (kinds : Byte) (k : Nat) : Bool := kinds.getLsbD k

/-- The counters of the kinds in a set become 0 (R188). -/
def clearCounters (kinds : Byte) : Nat → List Nat → List Nat
  | _, [] => []
  | k, c :: rest => (if kindIn kinds k then 0 else c) :: clearCounters kinds (k + 1) rest

/-- The Fault Record after an accepted CLEAR FAULTS (R188). -/
def FaultRec.cleared (f : FaultRec) (kinds : Byte) : FaultRec :=
  { record := f.record.filter (fun r => !kindIn kinds r.1.kind)
    counters := clearCounters kinds 0 f.counters
    generation := wrappingSucc Config.counterTop f.generation }

/-- CLEAR FAULTS (R188): the refusal STALE carries the current generation. -/
def execClearFaults (p : Port) (tag : Byte) (generation : Word16) (kinds : Byte) (s : State) :
    Host.Outcome State Fault Refusal :=
  whenTaken s p (.clearFaults p tag generation kinds) fun s =>
    if generation.toNat ≠ s.faults.generation then s.reply p 0x21 tag .stale (be 2 s.faults.generation)
    else
      let faults := s.faults.cleared kinds
      State.reply { s with faults } p 0x21 tag .ok (be 2 faults.generation)

/-! ## Surveys -/

/-- A RUNNING survey is abandoned by a new START SURVEY (R191). -/
def State.abandonSurvey (s : State) (ph : Phase) : State :=
  let v := s.survey ph
  match v.state, v.starter with
  | .running, some q => s.offerSurvey ph q (surveyAbandonedNotice ph v)
  | _, _ => s

/-- A survey begins anew, its held notices kept (R189). -/
def Survey.begin (v : Survey) (p : Port) (tag : Byte) (target : Nat) : Survey :=
  { v with
    state := .running, starter := some p, tag, target, sampled := 0, bins := List.replicate 16 0, highest := none }

/-- START SURVEY (R189). -/
def execStartSurvey (p : Port) (tag channel : Byte) (slots : Word16) (s : State) :
    Host.Outcome State Fault Refusal :=
  whenTaken s p (.startSurvey p tag channel slots) fun s =>
    match phaseOfChannel channel with
    | none => s.reply p 0x22 tag .badParameter []
    | some ph =>
        if !(s.survey ph).held.isEmpty then s.reply p 0x22 tag .busy []
        else
          let target := max 1 slots.toNat
          ((s.reply p 0x22 tag .ok (be 2 target)).abandonSurvey ph).modSurvey ph (·.begin p tag target)

/-- A survey as READ SURVEY gives it (R192). -/
def Survey.bytes (v : Survey) : List Byte :=
  [surveyStateByte v.state] ++ optionalByte (v.starter.map portByte) ++ [v.tag] ++ be 2 v.target ++ be 2 v.sampled ++
    v.bins.flatMap (be 2) ++ optionalNat 1 v.highest ++ [flagByte (!v.held.isEmpty)]

/-- READ SURVEY (R192). -/
def execReadSurvey (p : Port) (tag channel : Byte) (s : State) : Host.Outcome State Fault Refusal :=
  whenTaken s p (.readSurvey p tag channel) fun s =>
    match phaseOfChannel channel with
    | some ph => s.reply p 0x23 tag .ok (s.survey ph).bytes
    | none => s.reply p 0x23 tag .badParameter []

end Sys2Proof.Machine
end

