-- ==== Sys2Proof/Machine/Roster.lean ====
section
/-! DEFINITION. The roster's commands ADD UNIT, EDIT UNIT, RETIRE UNIT, READ UNIT, READ NEXT and FIND UNIT (R105 to
R109), PING UNIT (R90, R94), and READ GROUP (R111). -/

namespace Sys2Proof.Machine

/-- 0 and FFFFFFFFh are no unit addresses (00_scope, Addresses and codes). -/
def validAddress (a : Address) : Bool := a != 0 && a != 0xFFFFFFFF

/-! ## ADD UNIT -/

/-- Test 1 of R105: the phase and the groups the command spells. -/
def readAddUnitArgs (a : AddUnitArgs) : Option (Phase × List Nat) :=
  match phaseOfByte a.phase, groupsOfArg a.groups with
  | some ph, some gs => if validAddress a.address then some (ph, gs) else none
  | _, _ => none

/-- A new unit is recorded at an index, and the figures of its groups are computed afresh (R105, R115). -/
def State.record (s : State) (i : Nat) (u : UnitRec) : State :=
  (State.recomputeGroups { s with roster := putUnit i u s.roster } u.groups).retireSince s

/-- What ADD UNIT comes to by the tests of R105: a refusal, or an index and the unit recorded there. -/
def State.addUnitResult (s : State) (a : AddUnitArgs) : Except ReplyCode (Nat × UnitRec) :=
  match readAddUnitArgs a with
  | none => .error .badParameter
  | some (ph, gs) =>
      if (s.indexOf? a.address).isSome then .error .duplicate
      else
        match routeOfArg a.route with
        | none => .error .badRoute
        | some route =>
            if !routeLawful s.roster ph none route then .error .badRoute
            else
              match lowestFree s.rosterCapacity s.roster with
              | none => .error .full
              | some i => .ok (i, UnitRec.added a.address ph gs a.relayCapable route)

/-- ADD UNIT (R105). -/
def execAddUnit (p : Port) (tag : Byte) (a : AddUnitArgs) (s : State) : Host.Outcome State Fault Refusal :=
  whenTaken s p (.addUnit p tag a) fun s =>
    match s.addUnitResult a with
    | .error code => s.reply p 0x0C tag code []
    | .ok (i, u) => (s.reply p 0x0C tag .ok (be 2 i)).record i u

/-! ## EDIT UNIT -/

/-- A new groups list that breaks the limits of R105 (R106 test 1). -/
def groupsBroken : Option GroupsArg → Bool
  | some a => (groupsOfArg a).isNone
  | none => false

/-- A route given to EDIT UNIT: unchanged, or the new one; none for one that fails R102 (R106 test 3). -/
def State.editedRoute (s : State) (i : Nat) (u : UnitRec) : Option RouteArg → Option (List Nat)
  | none => some u.route
  | some arg =>
      match routeOfArg arg with
      | some route => if routeLawful s.roster u.phase (some i) route then some route else none
      | none => none

/-- The groups after an edit. -/
def editedGroups (u : UnitRec) : Option GroupsArg → List Nat
  | none => u.groups
  | some arg => (groupsOfArg arg).getD u.groups

/-- What EDIT UNIT comes to by the tests of R106: a refusal, or the unit before and after. -/
def State.editUnitResult (s : State) (a : EditUnitArgs) : Except ReplyCode (UnitRec × UnitRec) :=
  if s.rosterCapacity ≤ a.index.toNat || groupsBroken a.groups then .error .badParameter
  else
    match s.unit? a.index.toNat with
    | none => .error .noEntry
    | some u =>
        match s.editedRoute a.index.toNat u a.route with
        | none => .error .badRoute
        | some route =>
            .ok (u, { u with
              route
              groups := editedGroups u a.groups
              pinned := a.pinned.getD u.pinned
              relayCapable := a.relayCapable.getD u.relayCapable })

/-- The edit withdraws the unit as a relay: a different route, or the relay-capable flag cleared (R103, R106). -/
def UnitRec.withdrawn (u v : UnitRec) : Bool := u.route != v.route || (u.relayCapable && !v.relayCapable)

/-- The edit is written, the dependents of a withdrawn relay lose their routes, and the figures of the groups concerned
are computed afresh where a property of R115 changed (R106). DESIGN CHOICE (log 45): UNIT LOST is offered before the
PART FINISHED and OUTCOME notices of the recomputation. -/
def State.editUnit (s : State) (i : Nat) (u v : UnitRec) : State :=
  let written := s.modUnit i (fun _ => v)
  let t := if u.withdrawn v then written.withdrawRelay i else written
  let dependents := changedGroups written.roster t.roster
  if u.route = v.route ∧ u.groups = v.groups ∧ changedUnits written.roster t.roster = [] then t
  else (t.recomputeGroups (u.groups ++ v.groups ++ dependents)).retireSince s

/-- EDIT UNIT (R106). -/
def execEditUnit (p : Port) (tag : Byte) (a : EditUnitArgs) (s : State) : Host.Outcome State Fault Refusal :=
  whenTaken s p (.editUnit p tag a) fun s =>
    match s.editUnitResult a with
    | .error code => s.reply p 0x0D tag code []
    | .ok (u, v) => (s.reply p 0x0D tag .ok []).editUnit a.index.toNat u v

/-! ## RETIRE UNIT -/

/-- The unit at an index leaves the roster, and its dependents lose their routes (R103, R107). DESIGN CHOICE (log 45):
UNIT LOST is offered before the PART FINISHED and OUTCOME notices of the recomputation. -/
def State.retireUnit (s : State) (i : Nat) (u : UnitRec) : State :=
  let removed := { s with roster := s.roster.filter (fun x => x.1 != i) }
  let t := State.withdrawRelay removed i
  (t.recomputeGroups (u.groups ++ changedGroups removed.roster t.roster)).retireSince s

/-- RETIRE UNIT (R107). -/
def execRetireUnit (p : Port) (tag : Byte) (index : Word16) (s : State) : Host.Outcome State Fault Refusal :=
  whenTaken s p (.retireUnit p tag index) fun s =>
    if s.rosterCapacity ≤ index.toNat then s.reply p 0x0E tag .badParameter []
    else
      match s.unit? index.toNat with
      | none => s.reply p 0x0E tag .noEntry []
      | some u => (s.reply p 0x0E tag .ok (be32 u.address)).retireUnit index.toNat u

/-! ## Reading the roster -/

/-- READ UNIT (R108). -/
def execReadUnit (p : Port) (tag : Byte) (index : Word16) (s : State) : Host.Outcome State Fault Refusal :=
  whenTaken s p (.readUnit p tag index) fun s =>
    if s.rosterCapacity ≤ index.toNat then s.reply p 0x0F tag .badParameter []
    else s.reply p 0x0F tag .ok (unitReply s.roster (s.unit? index.toNat))

/-- A unit with its index, as READ NEXT and FIND UNIT give it (R108, R109). -/
def indexedUnit (r : Roster) (x : Nat × UnitRec) : List Byte := be 2 x.1 ++ unitReply r (some x.2)

/-- The units READ NEXT collects from a cursor on (R109). -/
def collectUnits (r : Roster) (cursor : Nat) : Roster := (r.filter (fun x => cursor ≤ x.1)).take 4

/-- The cursor after a collection: one past the last unit where 4 were found, else the end (R109). -/
def cursorAfter (capacity : Nat) (found : Roster) : Nat :=
  if found.length = 4 then (match found.getLast? with | some x => x.1 + 1 | none => capacity) else capacity

/-- READ NEXT (R109, log 17). -/
def execReadNext (p : Port) (tag : Byte) (restart : Bool) (s : State) : Host.Outcome State Fault Refusal :=
  whenTaken s p (.readNext p tag restart) fun s =>
    let cursor := if restart then 0 else s.readCursors.get p
    let found := collectUnits s.roster cursor
    let next := cursorAfter s.rosterCapacity found
    let t := { s with readCursors := s.readCursors.set p next }
    State.reply t p 0x10 tag .ok
      (be 2 s.roster.length ++ countedBytes (indexedUnit s.roster) found ++ [flagByte (s.rosterCapacity ≤ next)])

/-- FIND UNIT (R108). -/
def execFindUnit (p : Port) (tag : Byte) (address : Address) (s : State) : Host.Outcome State Fault Refusal :=
  whenTaken s p (.findUnit p tag address) fun s =>
    if !validAddress address then s.reply p 0x11 tag .badParameter []
    else
      match s.indexOf? address with
      | none => s.reply p 0x11 tag .noEntry []
      | some x => s.reply p 0x11 tag .ok (indexedUnit s.roster x)

/-! ## PING UNIT -/

/-- The first test of R90 that fails, or the unit to be pinged. -/
def State.pingResultOf (s : State) (i : Nat) : Except ReplyCode UnitRec :=
  if s.rosterCapacity ≤ i then .error .badParameter
  else
    match s.unit? i with
    | none => .error .noEntry
    | some u => if Config.pingPlaces ≤ (s.pingQueue u.phase).length then .error .busy else .ok u

/-- PING UNIT (R90): the record joins the queue of the unit's channel; on a HALTED channel it is completed SILENT after
the reply (R94). -/
def execPingUnit (p : Port) (tag : Byte) (index : Word16) (register : Bool) (s : State) :
    Host.Outcome State Fault Refusal :=
  whenTaken s p (.pingUnit p tag index register) fun s =>
    match s.pingResultOf index.toNat with
    | .error code => s.reply p 0x12 tag code []
    | .ok u =>
        let r : PingRec :=
          { origin := p, tag, index := index.toNat, address := u.address, register, state := .queued, dropped := false }
        let t := (s.reply p 0x12 tag .ok [channelByte u.phase]).modPings u.phase (· ++ [r])
        if (s.chan u.phase).state = .halted then t.completeQueued u.phase .silent else t

/-! ## READ GROUP -/

/-- The derived figures of a phase (R114). -/
def figuresBytes (f : Figures) : List Byte := be 2 f.members ++ be 2 f.reachable ++ [byteOf f.depth, modeByte f.mode]

/-- A group record (R111). -/
def State.groupBytes (s : State) (g : Nat) : List Byte :=
  let r := s.group g
  [permitByte (s.permit g), r.sequence] ++ countedBytes (be 4) r.fieldPending ++ figuresBytes r.figures.l1 ++
    figuresBytes r.figures.l2 ++ figuresBytes r.figures.l3

/-- READ GROUP (R111). -/
def execReadGroup (p : Port) (tag : Byte) (group : Byte) (s : State) : Host.Outcome State Fault Refusal :=
  whenTaken s p (.readGroup p tag group) fun s =>
    if 63 < group.toNat then s.reply p 0x13 tag .badParameter []
    else s.reply p 0x13 tag .ok (s.groupBytes group.toNat)

end Sys2Proof.Machine
end

