-- ==== Sys2Proof/Machine/Store.lean ====
section
/-! DEFINITION. Settings, store and identity: SAVE SETTINGS and SAVE ROSTER (R183), the stages of a save (R183, R184),
WRITE SYSTEM CODE and READ IDENTITY (R186), and READ SETTINGS (R179). -/

namespace Sys2Proof.Machine

/-- SAVE SETTINGS (R183). -/
def execSaveSettings (p : Port) (tag : Byte) (s : State) : Host.Outcome State Fault Refusal :=
  whenTaken s p (.saveSettings p tag) fun s =>
    if s.storeBusy then s.reply p 0x1B tag .busy []
    else (s.reply p 0x1B tag .ok []).startSave p tag (.settings s.settings)

/-- The snapshot of SAVE ROSTER (R183). -/
def State.rosterImage (s : State) : RosterImage := { units := s.roster, counters := s.groups.map (·.sequence) }

/-- SAVE ROSTER (R183). -/
def execSaveRoster (p : Port) (tag : Byte) (s : State) : Host.Outcome State Fault Refusal :=
  whenTaken s p (.saveRoster p tag) fun s =>
    if s.storeBusy then s.reply p 0x1C tag .busy []
    else (s.reply p 0x1C tag .ok (be 2 s.roster.length)).startSave p tag (.roster s.rosterImage)

/-- ERASE_END (R183): effective while the store is ERASING. -/
def execEraseEnd (s : State) : Host.Outcome State Fault Refusal :=
  .next (if s.store.state = .erasing then { s with store := { s.store with state := .writing } } else s)

/-- The image a snapshot is written to. -/
def Snapshot.image : Snapshot → Image
  | .settings _ => .settings
  | .roster _ => .roster

/-- The store once a snapshot has been written and read back (R184). -/
def Store.written (t : Store) (v : Save) (matched : Bool) : Store :=
  let t :=
    { t with
      state := .idle, save := none
      heldDone := some { origin := v.origin, tag := v.tag, image := v.snapshot.image, ok := matched } }
  match v.snapshot with
  | .settings x => { t with settingsImage := if matched then some x else none, settingsValid := matched }
  | .roster x => { t with rosterImage := if matched then some x else none, rosterValid := matched }

/-- The write of a save ends (R184): a failed read-back posts STORE WRITE, and STORE DONE is offered. -/
def State.endWrite (s : State) (v : Save) (matched : Bool) : State :=
  let t := { s with store := s.store.written v matched }
  let t := if matched then t else t.post (.storeWrite v.snapshot.image)
  t.offerHeld v.origin .storeDone

/-- WRITE_END (R184): effective while the store is WRITING. -/
def execWriteEnd (matched : Bool) (s : State) : Host.Outcome State Fault Refusal :=
  .next
    (match s.store.save with
     | some v => if s.store.state = .writing then s.endWrite v matched else s
     | none => s)

/-! ## Identity -/

/-- WRITE SYSTEM CODE (R186). -/
def execWriteSystemCode (p : Port) (tag : Byte) (code : Word16) (s : State) : Host.Outcome State Fault Refusal :=
  whenTaken s p (.writeSystemCode p tag code) fun s =>
    if code = Config.unsetCode then s.reply p 0x1D tag .badParameter []
    else if s.identity.code ≠ Config.unsetCode then s.reply p 0x1D tag .locked []
    else State.reply { s with identity := { s.identity with code } } p 0x1D tag .ok []

/-- READ IDENTITY (R186). -/
def execReadIdentity (p : Port) (tag : Byte) (s : State) : Host.Outcome State Fault Refusal :=
  whenTaken s p (.readIdentity p tag) fun s =>
    s.reply p 0x1E tag .ok (be16 s.identity.code ++ be32 s.identity.serial ++ [s.identity.revision])

/-! ## READ SETTINGS -/

/-- The level minimum and maximum of a channel: a row of R179. -/
def LevelSettings.rangeBytes (v : LevelSettings) : List Byte := [byteOf v.low, byteOf v.high]

/-- The settings record, field by field in the order of R179; a row kept per channel is sent for L1, L2 and L3 before
the next row (log 10). -/
def Settings.bytes (v : Settings) : List Byte :=
  [profileByte v.profile, flagByte v.modified, byteOf v.routineRepeats, byteOf v.urgentRepeats,
    byteOf v.pollRetries] ++ be 2 v.guardMs ++ be 2 v.leadS ++
    [byteOf v.gap, byteOf v.tolerance, byteOf v.degradeLimit, byteOf v.lostLimit] ++ be 2 v.probePeriod ++
    v.levels.l1.rangeBytes ++ v.levels.l2.rangeBytes ++ v.levels.l3.rangeBytes ++
    [byteOf v.levels.l1.target, byteOf v.levels.l2.target, byteOf v.levels.l3.target] ++
    be 2 v.nominal ++ v.permits.map permitByte ++
    [byteOf v.layout, byteOf v.nextLayout, byteOf v.quota.a, byteOf v.nextQuota.a, byteOf v.quota.b,
      byteOf v.nextQuota.b]

/-- READ SETTINGS (R179). -/
def execReadSettings (p : Port) (tag : Byte) (s : State) : Host.Outcome State Fault Refusal :=
  whenTaken s p (.readSettings p tag) fun s =>
    s.reply p 0x1F tag .ok
      (s.settings.bytes ++
        [storeStateByte s.store.state, flagByte s.store.heldDone.isSome, flagByte s.store.settingsValid,
          flagByte s.store.rosterValid])

end Sys2Proof.Machine
end

