-- ==== Sys2Proof/Machine/Transfers.lean ====
section
/-! DEFINITION. The transfers of the client ports (R166, R167, R170, R177), and what a port does on the event that makes
room or brings a frame: it takes the frames of its FIFO (R168) and queues its held notices (R172) while it can. -/

namespace Sys2Proof.Machine

/-! ## The port's waiting work (R168, R170, R172) -/

/-- The head of the held-notice list has room (R172). -/
def State.heldDue (s : State) (p : Port) : Bool := !(s.port p).held.isEmpty && noticeRoom (s.port p).outq

/-- What the oldest frame of a port's FIFO comes to, where the port can take it (R168). -/
def State.frameDue (s : State) (p : Port) : Option Instr :=
  match s.headReading p with
  | none => none
  | some (.command i) => if s.replyRoom p i then some i else none
  | some _ => if (s.port p).outq.length < Config.outQueueItems then some (.frameRefused p) else none

/-- A port's work that is due, with the state that has drawn the free value where a held notice and a frame compete for
one place (R172, log 3). -/
def State.portDue (s : State) (p : Port) : Option (Instr × State) :=
  match s.frameDue p with
  | none => if s.heldDue p then some (.heldNoticeQueued p, s) else none
  | some i =>
      if s.heldDue p then
        some (if Config.frameFirst s.freeCount then i else .heldNoticeQueued p,
          { s with freeCount := s.freeCount + 1 })
      else some (i, s)

/-- What a port's waiting work comes to: a client command taken from its frame, a frame refused, or a held notice queued;
no other command is a port's work. -/
def State.carryOut (s : State) : Instr → Host.Outcome State Fault Refusal
  | .frameRefused p => execFrameRefused p s
  | .heldNoticeQueued p => execHeldNoticeQueued p s
  | .submit p tag a => execSubmit p tag a s
  | .cancel p tag handle => execCancel p tag handle s
  | .readEntry p tag handle => execReadEntry p tag handle s
  | .listEntries p tag position => execListEntries p tag position s
  | .runLine p tag => execRunLine p tag s
  | .holdLine p tag => execHoldLine p tag s
  | .releaseLine p tag => execReleaseLine p tag s
  | .applyProfile p tag profile => execApplyProfile p tag profile s
  | .setParameter p tag a => execSetParameter p tag a s
  | .setGroupPermit p tag group permit => execSetGroupPermit p tag group permit s
  | .setQuota p tag layout quotaA quotaB => execSetQuota p tag layout quotaA quotaB s
  | .addUnit p tag a => execAddUnit p tag a s
  | .editUnit p tag a => execEditUnit p tag a s
  | .retireUnit p tag index => execRetireUnit p tag index s
  | .readUnit p tag index => execReadUnit p tag index s
  | .readNext p tag restart => execReadNext p tag restart s
  | .findUnit p tag address => execFindUnit p tag address s
  | .pingUnit p tag index register => execPingUnit p tag index register s
  | .readGroup p tag group => execReadGroup p tag group s
  | .startDiscovery p tag => execStartDiscovery p tag s
  | .stopDiscovery p tag => execStopDiscovery p tag s
  | .readDiscovery p tag => execReadDiscovery p tag s
  | .readLevel p tag channel => execReadLevel p tag channel s
  | .setTestMask p tag channel mask => execSetTestMask p tag channel mask s
  | .setTime p tag seconds millis => execSetTime p tag seconds millis s
  | .readTime p tag => execReadTime p tag s
  | .saveSettings p tag => execSaveSettings p tag s
  | .saveRoster p tag => execSaveRoster p tag s
  | .writeSystemCode p tag code => execWriteSystemCode p tag code s
  | .readIdentity p tag => execReadIdentity p tag s
  | .readSettings p tag => execReadSettings p tag s
  | .readFaults p tag => execReadFaults p tag s
  | .clearFaults p tag generation kinds => execClearFaults p tag generation kinds s
  | .startSurvey p tag channel slots => execStartSurvey p tag channel slots s
  | .readSurvey p tag channel => execReadSurvey p tag channel s
  | .status p tag => execStatus p tag s
  | .resetPort p tag => execResetPort p tag s
  | .powerOn .. | .pinReset .. | .commandTransfer .. | .fetchTransfer .. | .ignoredTransfer .. | .zeroCrossing ..
  | .phaseLoss .. | .secondBoundary .. | .esReached .. | .lsReached .. | .floodEnd .. | .repeatGapEnd ..
  | .outboundSpanEnd .. | .replyReceived .. | .silencePoint .. | .probeWindowEnd .. | .restEnd .. | .eraseEnd ..
  | .writeEnd .. | .selectAsserted .. => .next s

/-- The port goes on with its waiting work while any is due, on the one event (R168, R172). Each round but that of a RESET
PORT, which leaves no frame and no held notice, puts an item in the out-queue, or drops from the list a notice its owner
no longer has, so the rounds never run out (log 16). -/
def State.servePort : Nat → Port → State → State
  | 0, _, s => s
  | rounds + 1, p, s =>
      match s.portDue p with
      | some (i, t) => (match t.carryOut i with | .next u => State.servePort rounds p u | _ => t)
      | none => s

/-- More rounds than the out-queue has places and the list has notices. -/
def State.portRounds (s : State) (p : Port) : Nat := 32 + (s.port p).held.length

/-- The port goes on with its waiting work until none is due. -/
def State.tryWaiting (s : State) (p : Port) : State := State.servePort (s.portRounds p) p s

/-! ## Transfers -/

/-- What a port latches when its select line is asserted (R166, R170). -/
def PortRec.select (r : PortRec) (clockHigh : Bool) : PortRec :=
  { r with
    transfer := some
      { mode3 := clockHigh, fifoFill := r.fifo.length, outCount := r.outq.length, head := r.outq.head?, cut := false } }

/-- SELECT_ASSERTED (R166): one transfer runs at a time, so a port whose select is asserted already changes nothing. A
select line asserted while the reset pin is asserted is ignored until it is released and asserted again (R177): it opens
no transfer, and its release finds none (log 39). DESIGN CHOICE (log 5): a transfer released before its kind byte is whole
has no command of its own. -/
def execSelectAsserted (p : Port) (lines : SelectLines) (s : State) : Host.Outcome State Fault Refusal :=
  .next (if lines.inReset || (s.port p).transfer.isSome then s else s.modPort p (·.select lines.clockHigh))

/-- A transfer ends having shifted these bytes out. -/
def PortRec.endTransfer (r : PortRec) (out : List Byte) : PortRec := { r with transfer := none, dataOut := out }

/-- The frame of a COMMAND transfer: the first 64 bytes, marked over-long if more came (R167). -/
def frameOf (bytes : List Byte) : Frame :=
  { bytes := bytes.take Config.frameBytes, overLong := Config.frameBytes < bytes.length }

/-- A frame arrives at a port: it joins the FIFO, and the port takes what it can (R168), or it is discarded with fault
PORT OVERFLOW (R167). -/
def State.arrive (s : State) (p : Port) (f : Frame) : State :=
  if (s.port p).fifo.length < Config.fifoPlaces then
    State.tryWaiting (s.modPort p (fun r => { r with fifo := r.fifo ++ [f] })) p
  else
    (s.modPort p (fun r => { r with overflow := saturatingSucc Config.counterTop r.overflow })).post (.portOverflow p)

/-- COMMAND_TRANSFER (R166, R167). -/
def execCommandTransfer (p : Port) (bytes : List Byte) (s : State) : Host.Outcome State Fault Refusal :=
  .next
    (match (s.port p).transfer with
     | some t =>
         let s := s.modPort p (·.endTransfer (List.replicate (bytes.length + 1) (byteOf t.fifoFill)))
         if bytes.isEmpty then s else s.arrive p (frameOf bytes)
     | none => s)

/-- The bytes a FETCH shifts out after the count byte: the item, or EMPTY. -/
def Transfer.itemBytes (t : Transfer) : List Byte :=
  match t.head with
  | some i => i.bytes
  | none => emptyItem

/-- The completion of a FETCH takes its item off the out-queue: every byte of the item has been shifted out, and no
reset of the port has been taken meanwhile (R170). -/
def Transfer.removes (t : Transfer) (count : Nat) : Bool :=
  t.head.isSome && !t.cut && t.itemBytes.length ≤ count

/-- FETCH_TRANSFER (R166, R170): with the place its completion frees, the port tries its waiting work again. DESIGN
CHOICE (log 3): this is one event, so a held notice or a waiting frame takes the place before any droppable notice of a
later event. -/
def execFetchTransfer (p : Port) (count : Nat) (s : State) : Host.Outcome State Fault Refusal :=
  .next
    (match (s.port p).transfer with
     | some t =>
         let out := byteOf t.outCount :: (t.itemBytes ++ List.replicate count Config.filler).take count
         let s := s.modPort p (·.endTransfer out)
         if t.removes count then State.tryWaiting (s.modPort p (fun r => { r with outq := r.outq.tail })) p
         else s
     | none => s)

/-- IGNORED_TRANSFER (R166): the byte shifted out with the unknown kind byte is a free value (log 4). -/
def execIgnoredTransfer (p : Port) (_kind : Byte) (count : Nat) (s : State) : Host.Outcome State Fault Refusal :=
  .next
    (match (s.port p).transfer with
     | some _ =>
         State.modPort { s with freeCount := s.freeCount + 1 } p
           (·.endTransfer (Config.ignoredKindByte s.freeCount :: List.replicate count Config.filler))
     | none => s)

end Sys2Proof.Machine
end

