-- ==== Sys2Proof/Machine/Timebase.lean ====
section
/-! DEFINITION. What the block does of its own accord while no command waits (log 2): it takes an event that has fallen
due inside it, and where none has, a millisecond of elapsed time passes. -/

namespace Sys2Proof.Machine

/-- One millisecond of elapsed time, counted by the calendar clock unless it holds its last value (R162). -/
def State.tick (s : State) : State :=
  { s with
    elapsed := s.elapsed + 1
    clock := { s.clock with millis := if s.clock.millis < Config.lastMillis then s.clock.millis + 1 else s.clock.millis } }

/-- The event a channel's slot counts have brought about (R48, R56, R67, R121, R123). -/
def Channel.due (c : Channel) (ph : Phase) : Option Instr :=
  match c.work with
  | some (.flood f) => if f.span ≤ f.slots then some (.floodEnd ph) else none
  | some (.exchange x) =>
      if c.state = .sending then (if x.outSpan ≤ x.slots then some (.outboundSpanEnd ph) else none)
      else if c.state = .listening ∧ x.silence ≤ x.slots then some (.silencePoint ph)
      else none
  | some (.probe r) =>
      if c.state = .sending then (if r.outSpan ≤ r.slots then some (.outboundSpanEnd ph) else none)
      else if c.state = .listening ∧ windowEnd r.outSpan r.window r.gap r.next ≤ r.slots then
        some (.probeWindowEnd ph [])
      else none
  | none => if c.gapLeft = some 0 ∧ c.openPart.isSome then some (.repeatGapEnd ph) else none

/-- The channel's event, where it would take effect: a probe on the channel is one the Discovery Unit holds, and a gap is
that of an entry in the calendar. -/
def State.channelDue (s : State) (ph : Phase) : Option Instr :=
  let effective : Bool :=
    match (s.chan ph).work with
    | some (.probe r) => r.slots < r.outSpan || (s.chan ph).state == .sending || (s.disc ph).probe.isSome
    | some _ => true
    | none => (match (s.chan ph).openPart with | some h => (s.entry? h).isSome | none => false)
  if effective then (s.chan ph).due ph else none

/-- An ES or an LS of an entry that the clock has reached (R15, R74). -/
def State.partDue (s : State) (e : Entry) (ph : Phase) : Option Instr :=
  if s.esDue e.handle ph then some (.esReached e.handle ph)
  else if s.lsDue e.handle ph then some (.lsReached e.handle ph)
  else none

/-- The events of a phase that elapsed time has brought about (R128, R158). -/
def State.phaseDue (s : State) (ph : Phase) : Option Instr :=
  if s.lossDue ph then some (.phaseLoss ph) else if s.restOver ph then some (.restEnd ph) else none

/-- The next second begins with the next millisecond (R163). -/
def State.secondDue (s : State) : Option Instr :=
  if s.clock.millis % 1000 = 999 ∧ !s.clockEnded then some .secondBoundary else none

/-- The event due inside the block, ports first, then channels, the calendar, the phases and the clock (log 2). -/
def State.eventDue (s : State) : Option (Instr × State) :=
  (s.portDue .A).or <|
  (s.portDue .B).or <|
  ((phases.findSome? s.channelDue).or <|
    (s.calendar.findSome? (fun e => phases.findSome? (s.partDue e))).or <|
    (phases.findSome? s.phaseDue).or s.secondDue).map (fun i => (i, s))

end Sys2Proof.Machine
end

