-- ==== Sys2Proof/Machine/Dispatch.lean ====
section
/-! DEFINITION. The meaning of every command: one arm for each constructor of Instr. -/

namespace Sys2Proof.Machine

def exec (i : Instr) (s : State) : Host.Outcome State Fault Refusal :=
  match i with
  | .powerOn settingsDecayed rosterDecayed => Sys2Proof.Machine.execPowerOn settingsDecayed rosterDecayed s
  | .pinReset settingsDecayed rosterDecayed => Sys2Proof.Machine.execPinReset settingsDecayed rosterDecayed s
  | .commandTransfer p bytes => Sys2Proof.Machine.execCommandTransfer p bytes s
  | .fetchTransfer p count => Sys2Proof.Machine.execFetchTransfer p count s
  | .ignoredTransfer p kind count => Sys2Proof.Machine.execIgnoredTransfer p kind count s
  | .frameRefused p => Sys2Proof.Machine.execFrameRefused p s
  | .heldNoticeQueued p => Sys2Proof.Machine.execHeldNoticeQueued p s
  | .submit p tag a => Sys2Proof.Machine.execSubmit p tag a s
  | .cancel p tag handle => Sys2Proof.Machine.execCancel p tag handle s
  | .readEntry p tag handle => Sys2Proof.Machine.execReadEntry p tag handle s
  | .listEntries p tag position => Sys2Proof.Machine.execListEntries p tag position s
  | .runLine p tag => Sys2Proof.Machine.execRunLine p tag s
  | .holdLine p tag => Sys2Proof.Machine.execHoldLine p tag s
  | .releaseLine p tag => Sys2Proof.Machine.execReleaseLine p tag s
  | .applyProfile p tag profile => Sys2Proof.Machine.execApplyProfile p tag profile s
  | .setParameter p tag a => Sys2Proof.Machine.execSetParameter p tag a s
  | .setGroupPermit p tag group permit => Sys2Proof.Machine.execSetGroupPermit p tag group permit s
  | .setQuota p tag layout quotaA quotaB => Sys2Proof.Machine.execSetQuota p tag layout quotaA quotaB s
  | .addUnit p tag a => Sys2Proof.Machine.execAddUnit p tag a s
  | .editUnit p tag a => Sys2Proof.Machine.execEditUnit p tag a s
  | .retireUnit p tag index => Sys2Proof.Machine.execRetireUnit p tag index s
  | .readUnit p tag index => Sys2Proof.Machine.execReadUnit p tag index s
  | .readNext p tag restart => Sys2Proof.Machine.execReadNext p tag restart s
  | .findUnit p tag address => Sys2Proof.Machine.execFindUnit p tag address s
  | .pingUnit p tag index register => Sys2Proof.Machine.execPingUnit p tag index register s
  | .readGroup p tag group => Sys2Proof.Machine.execReadGroup p tag group s
  | .startDiscovery p tag => Sys2Proof.Machine.execStartDiscovery p tag s
  | .stopDiscovery p tag => Sys2Proof.Machine.execStopDiscovery p tag s
  | .readDiscovery p tag => Sys2Proof.Machine.execReadDiscovery p tag s
  | .readLevel p tag channel => Sys2Proof.Machine.execReadLevel p tag channel s
  | .setTestMask p tag channel mask => Sys2Proof.Machine.execSetTestMask p tag channel mask s
  | .setTime p tag seconds millis => Sys2Proof.Machine.execSetTime p tag seconds millis s
  | .readTime p tag => Sys2Proof.Machine.execReadTime p tag s
  | .saveSettings p tag => Sys2Proof.Machine.execSaveSettings p tag s
  | .saveRoster p tag => Sys2Proof.Machine.execSaveRoster p tag s
  | .writeSystemCode p tag code => Sys2Proof.Machine.execWriteSystemCode p tag code s
  | .readIdentity p tag => Sys2Proof.Machine.execReadIdentity p tag s
  | .readSettings p tag => Sys2Proof.Machine.execReadSettings p tag s
  | .readFaults p tag => Sys2Proof.Machine.execReadFaults p tag s
  | .clearFaults p tag generation kinds => Sys2Proof.Machine.execClearFaults p tag generation kinds s
  | .startSurvey p tag channel slots => Sys2Proof.Machine.execStartSurvey p tag channel slots s
  | .readSurvey p tag channel => Sys2Proof.Machine.execReadSurvey p tag channel s
  | .status p tag => Sys2Proof.Machine.execStatus p tag s
  | .resetPort p tag => Sys2Proof.Machine.execResetPort p tag s
  | .zeroCrossing ph micros noise bufferBad => Sys2Proof.Machine.execZeroCrossing ph micros noise bufferBad s
  | .phaseLoss ph => Sys2Proof.Machine.execPhaseLoss ph s
  | .secondBoundary => Sys2Proof.Machine.execSecondBoundary s
  | .esReached handle ph => Sys2Proof.Machine.execEsReached handle ph s
  | .lsReached handle ph => Sys2Proof.Machine.execLsReached handle ph s
  | .floodEnd ph => Sys2Proof.Machine.execFloodEnd ph s
  | .repeatGapEnd ph => Sys2Proof.Machine.execRepeatGapEnd ph s
  | .outboundSpanEnd ph => Sys2Proof.Machine.execOutboundSpanEnd ph s
  | .replyReceived ph heard => Sys2Proof.Machine.execReplyReceived ph heard s
  | .silencePoint ph => Sys2Proof.Machine.execSilencePoint ph s
  | .probeWindowEnd ph heard => Sys2Proof.Machine.execProbeWindowEnd ph heard s
  | .restEnd ph => Sys2Proof.Machine.execRestEnd ph s
  | .eraseEnd => Sys2Proof.Machine.execEraseEnd s
  | .writeEnd matched => Sys2Proof.Machine.execWriteEnd matched s
  | .selectAsserted p lines => Sys2Proof.Machine.execSelectAsserted p lines s

end Sys2Proof.Machine
end

