-- ==== Sys2Proof/Safety.lean ====
section
/-! DEFINITION. What counts as a safe run, in the terms the statements use: when a port takes a command, what an answer
to it is, and the invariants of the block, each with the rule it comes from. -/

namespace Sys2Proof.Machine

/-! ## Taking and answering a command -/

/-- The port takes the command now (R168, log 1): there is a place for its reply, and its frame is the oldest of the
FIFO, or the FIFO is empty and it arrives as it is taken. -/
abbrev State.takes (s : State) (p : Port) (i : Instr) : Prop :=
  s.replyRoom p i = true ∧ ((s.port p).fifo = [] ∨ s.headReading p = some (.command i))

/-- The state in which the command's frame has left the FIFO and its reply stands at the end of the out-queue, nothing
else changed. -/
def State.answered (s : State) (p : Port) (code tag : Byte) (outcome : ReplyCode) (contents : List Byte) : State :=
  (s.popFrame p).reply p code tag outcome contents

/-- The out-queue of a port went on from its items before with this reply, and after the reply with notices alone
(R168: the reply is queued before any notice that the command causes). -/
def replyThenNotices (before after : List Item) (reply : Item) : Prop :=
  ∃ notices : List Item, after = before ++ reply :: notices ∧ ∀ i ∈ notices, i.isNotice = true

/-! ## Ports (R167, R169) -/

/-- A port's queues within their bounds. -/
abbrev PortRec.bounded (r : PortRec) : Prop :=
  r.outq.length ≤ 16 ∧ noticeCount r.outq ≤ 15 ∧ r.fifo.length ≤ 4 ∧ ∀ f ∈ r.fifo, f.bytes.length ≤ 64

/-- R167 and R169: at most 16 items, of which at most 15 notices, and at most 4 frames of at most 64 bytes. -/
abbrev QueuesBounded (s : State) : Prop := s.ports.a.bounded ∧ s.ports.b.bounded

/-- The oldest frame of the FIFO is RESET PORT, which needs no place for its reply (R168). -/
def resetWaits (p : Port) (fifo : List Frame) : Prop :=
  ∃ f tag, fifo.head? = some f ∧ readFrame p f.overLong f.bytes = .command (.resetPort p tag)

/-- R168, R170 and R172: a port has tried its waiting work. A frame waits only for a place for its reply, and a held notice
only for a place for a notice. -/
abbrev PortRec.tried (p : Port) (r : PortRec) : Prop :=
  (r.fifo = [] ∨ (16 ≤ r.outq.length ∧ ¬ resetWaits p r.fifo)) ∧
    (r.held = [] ∨ 16 ≤ r.outq.length ∨ 15 ≤ noticeCount r.outq)

/-- Both ports have tried their waiting work, their queues within their bounds. -/
abbrev PortsTried (s : State) : Prop := QueuesBounded s ∧ s.ports.a.tried .A ∧ s.ports.b.tried .B

/-! ## Settings, levels and the planning frequency (R138, R160, R179) -/

/-- The ranges of R179 for one channel's level settings. -/
abbrev LevelSettings.inRange (v : LevelSettings) : Prop := v.low ≤ v.high ∧ v.high ≤ 63 ∧ v.target ≤ 255

/-- The ranges of R179. -/
abbrev Settings.inRange (v : Settings) : Prop :=
  (1 ≤ v.routineRepeats ∧ v.routineRepeats ≤ 8) ∧ (1 ≤ v.urgentRepeats ∧ v.urgentRepeats ≤ 8) ∧ v.pollRetries ≤ 3 ∧
    v.guardMs ≤ 10000 ∧ (60 ≤ v.leadS ∧ v.leadS ≤ 3600) ∧ (1 ≤ v.gap ∧ v.gap ≤ 4) ∧
    (1 ≤ v.tolerance ∧ v.tolerance ≤ 3) ∧ (1 ≤ v.degradeLimit ∧ v.degradeLimit ≤ 15) ∧
    (v.degradeLimit + 1 ≤ v.lostLimit ∧ v.lostLimit ≤ 31) ∧ (60 ≤ v.probePeriod ∧ v.probePeriod ≤ 7200) ∧
    (v.levels.l1.inRange ∧ v.levels.l2.inRange ∧ v.levels.l3.inRange) ∧ (v.nominal = 5000 ∨ v.nominal = 6000) ∧
    v.permits.length = 64 ∧ (v.layout ≤ 2 ∧ v.nextLayout ≤ 2) ∧
    (v.quota.a ≤ 192 ∧ v.quota.b ≤ 192 ∧ v.nextQuota.a ≤ 192 ∧ v.nextQuota.b ≤ 192)

/-- The settings a store holds are within R179: its image, and the snapshot of a save in progress. -/
abbrev Store.settingsInRange (t : Store) : Prop :=
  (match t.settingsImage with
   | some v => v.inRange
   | none => True) ∧
    (match t.save with
     | some ⟨.settings v, _, _⟩ => v.inRange
     | _ => True)

/-- R179: the current settings, and those the store can bring back, are within their ranges. -/
abbrev SettingsInRange (s : State) : Prop := s.settings.inRange ∧ s.store.settingsInRange

/-- A level within its channel's range. -/
abbrev LevelRec.inRange (l : LevelRec) (v : LevelSettings) : Prop := v.low ≤ l.level ∧ l.level ≤ v.high

/-- R138: every channel's transmit level is within that channel's level minimum and maximum, the settings being within
theirs. -/
abbrev LevelsInRange (s : State) : Prop :=
  SettingsInRange s ∧ s.levels.l1.inRange s.settings.levels.l1 ∧ s.levels.l2.inRange s.settings.levels.l2 ∧
    s.levels.l3.inRange s.settings.levels.l3

/-- R160: the planning frequency is within 4500 to 6500 cHz, the settings being within their ranges. -/
abbrev PlanFrequencyInRange (s : State) : Prop := SettingsInRange s ∧ 4500 ≤ s.fPlan ∧ s.fPlan ≤ 6500

/-! ## The line and the channels (R51, R55, R56) -/

/-- A channel's state agrees with its work, its gap, the line and its phase (R55, R56): it has work only while SENDING or
LISTENING, and while so it has work or a gap; a gap it has only while SENDING on a RUNNING line; it is OFFLINE only while
its phase is ABSENT, and OFFLINE or HALTED then. -/
abbrev Channel.coherent (c : Channel) (line : LineState) (present : Bool) : Prop :=
  (c.busy = true ↔ (c.work.isSome = true ∨ c.gapLeft.isSome = true)) ∧
    (c.gapLeft.isSome = true → c.work = none ∧ c.state = .sending ∧ line = .running) ∧
    (if present then c.state ≠ .offline else c.state = .offline ∨ c.state = .halted)

/-- The channels and the line agree: a DRAINING line has a channel at work, and a STOPPED or HELD line has none
(section 3.1, R51). -/
abbrev ChannelsCoherent (s : State) : Prop :=
  s.channels.l1.coherent s.line s.mains.l1.present ∧ s.channels.l2.coherent s.line s.mains.l2.present ∧
    s.channels.l3.coherent s.line s.mains.l3.present ∧
    (s.line = .draining → s.anyBusy = true) ∧ (s.line = .stopped ∨ s.line = .held → s.anyBusy = false)

/-! ## The roster and the Group Table (R96, R97, R102, R114, R115) -/

/-- The route of a unit obeys the law of R102 in a roster. -/
abbrev routeHolds (r : Roster) (x : Nat × UnitRec) : Prop := routeLawful r x.2.phase (some x.1) x.2.route = true

/-- R96, R97 and R102 for a roster: indices rising and so each held once, addresses valid and held once, and every route
lawful. -/
abbrev rosterLawful (r : Roster) : Prop :=
  (r.map (·.1)).Pairwise (· < ·) ∧ (r.map (·.2.address)).Nodup ∧
    (∀ x ∈ r, x.2.address ≠ 0 ∧ x.2.address ≠ 0xFFFFFFFF) ∧ ∀ x ∈ r, routeHolds r x

/-- The rosters a store can bring back are lawful. -/
abbrev Store.rosterLawful (t : Store) : Prop :=
  (match t.rosterImage with
   | some v => Machine.rosterLawful v.units
   | none => True) ∧
    (match t.save with
     | some ⟨.roster v, _, _⟩ => Machine.rosterLawful v.units
     | _ => True)

/-- R96 and R102 of the roster in force and of those the store can bring back; every index is below the capacity. -/
abbrev RosterLawful (s : State) : Prop :=
  rosterLawful s.roster ∧ s.store.rosterLawful ∧ ∀ x ∈ s.roster, x.1 < s.rosterCapacity

/-- R114: the derived figures of every group are those of the roster as it stands. -/
abbrev FiguresCurrent (s : State) : Prop :=
  RosterLawful s ∧ s.groups.length = 64 ∧
    ∀ g < 64, (s.group g).figures = ⟨figuresOf s.roster g .L1, figuresOf s.roster g .L2, figuresOf s.roster g .L3⟩

/-- R14: every WAITING and READY part of the calendar holds the plan of the inputs as they stand. -/
abbrev PlansCurrent (s : State) : Prop :=
  ∀ e ∈ s.calendar, ∀ ph : Phase,
    (e.parts.get ph).unstarted = true →
      (e.parts.get ph).replan (s.plan e.group e.cls e.activation ph) = e.parts.get ph

/-- R55 and R65: a channel's open part and its suspended part are SENDING and SUSPENDED parts of entries of the calendar,
and a flood on it is of its open part. -/
abbrev Channel.owns (c : Channel) (s : State) (ph : Phase) : Prop :=
  (∀ h ∈ c.openPart, ∃ e ∈ s.entry? h, (e.parts.get ph).state = .sending) ∧
    (∀ h ∈ c.suspendedPart, ∃ e ∈ s.entry? h, (e.parts.get ph).state = .suspended) ∧
    (match c.work with
     | some (.flood f) => ∀ h ∈ f.entry, c.openPart = some h
     | _ => True)

/-- R5: a part that is SENDING or SUSPENDED, or has sent a repeat, has its start time. -/
abbrev Part.timed (p : Part) : Prop :=
  (p.state = .sending ∨ p.state = .suspended ∨ 0 < p.sent) → p.start.isSome = true

/-- R9 and R23: an entry whose parts have all finished has its outcome or its confirmation, only such an entry has either,
and the record of R24 comes with the outcome. -/
abbrev Entry.settled (e : Entry) : Prop :=
  (e.allFinished = true → e.outcome.isSome = true ∨ e.confirmation.isSome = true) ∧
    (e.outcome.isSome = true ∨ e.confirmation.isSome = true → e.allFinished = true) ∧
    (e.record.isSome = true → e.outcome.isSome = true)

/-- R2, R5, R9 and R55: handles are held once, each entry agrees with its parts, and the channels with the entries. -/
abbrev CalendarCoherent (s : State) : Prop :=
  (s.calendar.map (·.handle)).Nodup ∧
    (∀ e ∈ s.calendar, e.settled ∧ e.parts.l1.timed ∧ e.parts.l2.timed ∧ e.parts.l3.timed) ∧
    s.channels.l1.owns s .L1 ∧ s.channels.l2.owns s .L2 ∧ s.channels.l3.owns s .L3

/-- The line of R23's table that gives an entry its outcome, read as log 14 says. -/
def outcomeByTable (e : Entry) (o : EntryOutcome) : Prop :=
  let parts := e.parts.toList
  let noneNeeded : Prop := ∀ p ∈ parts, p.finish = some .notNeeded
  let neededMissed : Prop := ∀ p ∈ parts, p.finishNeeded = true → p.finish = some .missed
  let allSent : Prop := ∀ p ∈ parts, p.finish = some .notNeeded ∨ (p.finish = some .onTime ∧ p.sent = p.planned)
  let allConfirmed : Prop :=
    e.confirm = true → ∀ c, e.confirmation = some c → ∀ r ∈ c.records.toList, r.unconfirmed = 0 ∧ r.notReached = 0
  match o with
  | .cancelled => e.cancelled = true
  | .complete => e.cancelled = false ∧ (noneNeeded ∨ (¬ neededMissed ∧ allSent ∧ allConfirmed))
  | .expired => e.cancelled = false ∧ ¬ noneNeeded ∧ neededMissed
  | .incomplete => e.cancelled = false ∧ ¬ noneNeeded ∧ ¬ neededMissed ∧ ¬ (allSent ∧ allConfirmed)

/-- A part's ten bytes in the outcome record (R197), a start time's presence byte being 01h (log 10). -/
def partOutcome (p : Part) : List Byte :=
  [finishByte (p.finish.getD .missed), byteOf p.planned, byteOf p.sent] ++
    (match p.start with
     | some k => 1 :: be 6 k
     | none => [0, 0, 0, 0, 0, 0, 0])

/-- The outcome record of R24 in the layout of R197, from the handle to the list, the sequence's presence byte being 01h
(log 10). -/
def outcomeRecord (e : Entry) (o : EntryOutcome) : List Byte :=
  be 2 e.handle ++ [e.tag, byteOf e.group, actionByte e.action, durationByte e.action] ++ be 4 e.activation ++
    [entryOutcomeByte o] ++ (match e.sequence with | some q => [1, q] | none => [0, 0]) ++
    [byteOf ((if e.lateAdmission then 1 else 0) + (if e.timeStepped then 2 else 0) + (if e.cutShort then 4 else 0) +
      (if e.confirmation.isSome then 8 else 0))] ++
    partOutcome e.parts.l1 ++ partOutcome e.parts.l2 ++ partOutcome e.parts.l3 ++
    (match e.confirmation with
     | none => []
     | some c =>
         let total (f : PhaseProgress → Nat) : List Byte := be 2 (f c.records.l1 + f c.records.l2 + f c.records.l3)
         total (·.expected) ++ total (·.confirmed) ++ total (·.superseded) ++ total (·.notAttempted) ++
           total (·.notReached) ++ total (·.unconfirmed) ++ byteOf c.unconfirmedList.length ::
           c.unconfirmedList.flatMap (be 2))

/-- R22, R23, R24 and R87: in a coherent calendar every entry with an outcome has it by the table, and holds its record,
composed as the outcome was decided; only its time-stepped flag may have been set since (R18). No exchange is in flight
for it: that of an entry in flight is of a CONFIRMING one. -/
abbrev OutcomesRecorded (s : State) : Prop :=
  CalendarCoherent s ∧ (∀ ph h, s.exchangeOf h ph = true → ∃ e ∈ s.entry? h, e.confirming = true) ∧
    ∀ e ∈ s.calendar, ∀ o, e.outcome = some o →
      outcomeByTable e o ∧ ∃ stepped, e.record = some (outcomeRecord { e with timeStepped := stepped } o)

/-- R72, in a coherent calendar: of two SENDING or CONFIRMING entries of one group the handles are the same. -/
abbrev LocksHeldByOne (s : State) : Prop :=
  CalendarCoherent s ∧
    ∀ e ∈ s.calendar, ∀ x ∈ s.calendar,
      e.locks = true → x.locks = true → e.group = x.group → e.handle = x.handle

/-- R1 and R3: the entries stand in order of activation, within the capacity, each port within its quota, and no two of
one group and activation. -/
abbrev CalendarBounded (s : State) : Prop :=
  (s.calendar.map (·.activation)).Pairwise (· ≤ ·) ∧ s.calendar.length ≤ s.calendarCapacity ∧
    (s.liveCount .A ≤ s.settings.quota.a ∧ s.liveCount .B ≤ s.settings.quota.b) ∧
    s.calendar.Pairwise (fun e x => ¬ (e.group = x.group ∧ e.activation = x.activation))

/-- R113: at most 4 activations, in ascending order. -/
abbrev GroupRec.fieldBounded (g : GroupRec) : Prop := g.fieldPending.length ≤ 4 ∧ g.fieldPending.Pairwise (· ≤ ·)

/-- R117 and R126: at most 8 filters on the split stack and 4 registration records; while a probe is in progress no more
records than windows read, and while a registering ping is in flight a place for it to come back to. -/
abbrev Discovery.bounded (d : Discovery) (work : Option Work) : Prop :=
  d.stack.length ≤ 8 ∧
    (match work with
     | some (.probe r) => r.next ≤ 3 ∧ d.registration.length ≤ r.next
     | some (.exchange x) => d.registration.length + (if x.owner = .registration then 1 else 0) ≤ 4
     | _ => d.registration.length ≤ 4)

/-- R62, R64, R90, R113, R117 and R126: the lists of work within their bounds, where each handle is held once and an entry
that has started has its sequence. -/
abbrev WorkBounded (s : State) : Prop :=
  (s.calendar.map (·.handle)).Nodup ∧ (∀ e ∈ s.calendar, e.anyStarted = true → e.sequence.isSome = true) ∧
    (∀ g ∈ s.groups, g.fieldBounded) ∧
    (s.pings.l1.length ≤ 8 ∧ s.pings.l2.length ≤ 8 ∧ s.pings.l3.length ≤ 8) ∧
    s.discovery.l1.bounded s.channels.l1.work ∧ s.discovery.l2.bounded s.channels.l2.work ∧
    s.discovery.l3.bounded s.channels.l3.work

end Sys2Proof.Machine
end

