-- ==== Sys2Proof/Certificates/Slice0/Obligations.lean ====
section
/-! DEFINITION. The statements for the provers. Each docstring names the rules of spec/ it rests on, and the log entry
where it rests on a choice of the model.
A frame is written `{ t with a := s.a } = s`: but for the fields named, t is s. -/

open Sys2Proof Sys2Proof.Machine

/-! ## The queue of commands -/

/-- A step carries out the command at the front of the queue on the state with the queue's rest. -/
def Obligations.StepRunsFrontCommand : Prop :=
  ∀ (c : Instr) (rest : List Instr) (s : State),
    s.pending = c :: rest → step s = exec c { s with pending := rest }

/-- The model's choice (log 2): while no command waits, a step takes the event due inside the block, and where none is
due a millisecond passes: elapsed time rises by 1, and so does the calendar clock short of its last value (R162). -/
def Obligations.IdleStepTakesDueEventOrTime : Prop :=
  ∀ (s : State), s.pending = [] →
    (∀ (c : Instr) (t : State), s.eventDue = some (c, t) → step s = exec c t) ∧
      (s.eventDue = none →
        step s =
          .next { s with
            elapsed := s.elapsed + 1
            clock := { s.clock with millis := min (s.clock.millis + 1) (max s.clock.millis 4294967295999) } })

/-- No command stops the block: each has an effect in every state, or finds nothing to do. -/
def Obligations.EveryCommandAnswersNext : Prop :=
  ∀ (c : Instr) (s : State), ∃ t, exec c s = .next t

/-- The model's choice (log 1): a client command its port cannot take now, for want of a place for its reply or
because the oldest frame of the FIFO is another, changes nothing (R168). -/
def Obligations.UntakenCommandChangesNothing : Prop :=
  ∀ (c : Instr) (p : Port) (code tag : Byte) (params : List Byte) (s : State),
    clientCommand c = some (p, code, tag, params) → ¬ s.takes p c → exec c s = .next s

/-- The frame of every client command, with every parameter at every value, passes the four tests of R168 and reads
back as that command (R195). -/
def Obligations.ClientFramesReadBack : Prop :=
  ∀ (c : Instr) (p : Port) (code tag : Byte) (params : List Byte),
    clientCommand c = some (p, code, tag, params) → readFrame p false (commandFrame code tag params) = .command c

/-! ## The client ports -/

/-- The assertion of select latches what the transfer will shift out (R166, R170): the FIFO's fill, the count of the
out-queue, and its head; one while the reset pin is asserted is ignored (R177; the operand says whether it is: log
39). A transfer under another kind byte shifts out one byte with it and then filler alone, and changes no queue and no
counter. The byte shifted out with that kind byte is a free value (log 4). -/
def Obligations.SelectLatchesAndUnknownKindIgnored : Prop :=
  (∀ (p : Port) (clockHigh : Bool) (s : State),
    exec (.selectAsserted p ⟨clockHigh, true⟩) s = .next s ∧
    ((s.port p).transfer = none →
      exec (.selectAsserted p ⟨clockHigh, false⟩) s =
        .next (s.modPort p (fun r =>
          { r with
            transfer := some
              { mode3 := clockHigh, fifoFill := r.fifo.length, outCount := r.outq.length, head := r.outq.head?,
                cut := false } })))) ∧
    ∀ (p : Port) (kind : Byte) (count : Nat) (s : State) (x : Transfer), (s.port p).transfer = some x →
      ∃ (t : State) (b : Byte),
        exec (.ignoredTransfer p kind count) s = .next t ∧
          t.port p = { s.port p with transfer := none, dataOut := b :: List.replicate count 0xFF } ∧
          { t with ports := s.ports.set p (t.port p), freeCount := s.freeCount } =
            { s with ports := s.ports.set p (t.port p) }

/-- A COMMAND transfer (R166, R167, R168) shifts out the FIFO's fill as it stood when select was asserted, and ends.
Without a byte after the kind byte it does nothing else. Its frame is the first 64 of the bytes, marked over-long if
more came. At a FIFO of 4 frames the frame is discarded, the overflow counter rises, and fault PORT OVERFLOW is
posted. Otherwise, at a port that has tried its waiting work, the frame joins the end of the FIFO: behind other
frames, or with no place for its reply, it waits there; else it is taken on the same event, as the command it spells
or as the refusal the tests give it (log 16 for the order of a port's work, logs 10 and 26 for the bytes of FAULT). -/
def Obligations.CommandTransferDeliversFrame : Prop :=
  ∀ (p : Port) (bytes : List Byte) (s : State) (x : Transfer), (s.port p).transfer = some x →
    let c : Instr := .commandTransfer p bytes
    let out := List.replicate (bytes.length + 1) (BitVec.ofNat 8 x.fifoFill)
    let frame : Frame := { bytes := bytes.take 64, overLong := decide (64 < bytes.length) }
    let shifted := s.modPort p (fun r => { r with transfer := none, dataOut := out })
    let joined := shifted.modPort p (fun r => { r with fifo := r.fifo ++ [frame] })
    let taken : Prop :=
      (s.port p).fifo = [] ∧
        ((s.port p).outq.length < 16 ∨ ∃ tag, readFrame p frame.overLong frame.bytes = .command (.resetPort p tag))
    (bytes = [] → exec c s = .next shifted) ∧
      (bytes ≠ [] → 4 ≤ (s.port p).fifo.length →
        exec c s =
          .next (State.post
            (shifted.modPort p (fun r =>
              { r with overflow := if r.overflow < 65535 then r.overflow + 1 else r.overflow }))
            (.portOverflow p))) ∧
      (bytes ≠ [] → (s.port p).fifo.length < 4 → PortsTried s →
        (¬ taken → exec c s = .next joined) ∧
          (taken →
            (∀ i, readFrame p frame.overLong frame.bytes = .command i → exec c s = exec i joined) ∧
              ((∀ i, readFrame p frame.overLong frame.bytes ≠ .command i) →
                exec c s = exec (.frameRefused p) joined)))

/-- A FETCH transfer (R166, R170) shifts out the count latched at the assertion of select, then the item latched
there, or an EMPTY item, then filler, and ends. The head leaves the out-queue if and only if the transfer ran to the
last byte of an item and no reset of the port was taken while it ran. With the place that frees, a port that had tried
its waiting work tries it again on the same event (R168, R172): the oldest frame is taken, and a RESET PORT behind it
too; the held notice at the head of the list is queued where the notices leave it room; of the two, one takes the
place, which one being a free value (log 3). With neither due, nothing else changes. -/
def Obligations.FetchTransferTakesHead : Prop :=
  ∀ (p : Port) (count : Nat) (s : State) (x : Transfer), (s.port p).transfer = some x →
    let c : Instr := .fetchTransfer p count
    let item := (x.head.map Item.bytes).getD [0x00, 0x03, 0xFD]
    let leaves : Prop := x.head.isSome ∧ x.cut = false ∧ item.length ≤ count
    let base := s.modPort p (fun r =>
      { r with
        transfer := none
        dataOut := BitVec.ofNat 8 x.outCount :: (item ++ List.replicate count 0xFF).take count
        outq := if leaves then r.outq.tail else r.outq })
    let noticeDue : Prop := (s.port p).held ≠ [] ∧ noticeCount (base.port p).outq < 15
    (¬ leaves → exec c s = .next base) ∧
      (leaves → PortsTried s →
        ((s.port p).fifo = [] → ¬ noticeDue → exec c s = .next base) ∧
        (∀ o i, (s.port p).fifo = [] → noticeDue → (s.port p).held.head? = some o → s.heldItem p o = some i →
          exec c s = exec (.heldNoticeQueued p) base) ∧
        ∀ f rest, (s.port p).fifo = f :: rest →
          let oldest : Instr := match readFrame p f.overLong f.bytes with | .command i => i | _ => .frameRefused p
          let drawn := { base with freeCount := base.freeCount + 1 }
          (¬ noticeDue → ¬ resetWaits p rest → exec c s = exec oldest base) ∧
            (∀ g tag, ¬ noticeDue → rest.head? = some g →
              readFrame p g.overLong g.bytes = .command (.resetPort p tag) →
              ∃ u, exec oldest base = .next u ∧ exec c s = exec (.resetPort p tag) u) ∧
            (∀ o i, noticeDue → ¬ resetWaits p rest → (s.port p).held.head? = some o → s.heldItem p o = some i →
              exec c s = exec oldest drawn ∨ exec c s = exec (.heldNoticeQueued p) drawn))

/-- The oldest frame of a FIFO, where the out-queue has a place, by the tests of R168 in their order: over-long,
shorter than 4 bytes, or of another length than its length field, it leaves the FIFO and is answered BAD FRAME; of a
bad sum, BAD FRAME; of a code outside 01h to 25h, BAD PARAMETER; of a size its command does not have, BAD FRAME. Each
answer carries the code and the tag as received, or 0. A frame that names a command is not refused. -/
def Obligations.FrameRefusedByTests : Prop :=
  ∀ (p : Port) (s : State) (f : Frame) (rest : List Frame),
    (s.port p).fifo = f :: rest → (s.port p).outq.length < 16 →
    let code := f.bytes.getD 1 0
    let tag := f.bytes.getD 2 0
    let envelope : Prop := f.overLong = false ∧ 4 ≤ f.bytes.length ∧ (f.bytes.getD 0 0).toNat = f.bytes.length
    let known : Prop := 1 ≤ code.toNat ∧ code.toNat ≤ 0x25
    let read := readCommand p code tag (frameParams f.bytes)
    (¬ envelope → exec (.frameRefused p) s = .next (s.answered p code tag .badFrame [])) ∧
      (envelope → byteSum f.bytes ≠ 0 → exec (.frameRefused p) s = .next (s.answered p code tag .badFrame [])) ∧
      (envelope → byteSum f.bytes = 0 → ¬ known →
        exec (.frameRefused p) s = .next (s.answered p code tag .badParameter [])) ∧
      (envelope → byteSum f.bytes = 0 → known → read = none →
        exec (.frameRefused p) s = .next (s.answered p code tag .badFrame [])) ∧
      (envelope → byteSum f.bytes = 0 → known → read.isSome = true → exec (.frameRefused p) s = .next s)

/-- The held notice at the head of a port's list is queued where the out-queue has room, leaves the list, and its
owner completes the work that waited on it (R172): the entry leaves the calendar and its retirement queue, the oldest
ping record HELD for the port leaves its queue, the STORE DONE becomes absent, the survey's oldest notice for the port
leaves it. (The bytes of the notice that no rule fixes are log 10's.) Nothing else changes; and without a notice or
without room nothing changes. -/
def Obligations.HeldNoticeIsQueuedAndItsOwnerGoesOn : Prop :=
  ∀ (p : Port) (s : State),
    (∀ (o : HeldOwner) (rest : List HeldOwner) (i : Item),
      (s.port p).held = o :: rest → (s.port p).outq.length < 16 → noticeCount (s.port p).outq < 15 →
      s.heldItem p o = some i →
      let t := s.modPort p (fun r => { r with held := rest, outq := r.outq ++ [i] })
      exec (.heldNoticeQueued p) s =
        .next (match o with
          | .outcome h =>
              { t with
                calendar := s.calendar.filter (fun e => e.handle ≠ h)
                retirement := s.retirement.set p ((s.retirement.get p).filter (· ≠ h)) }
          | .ping ph => { t with pings := s.pings.set ph ((s.pingQueue ph).eraseP (isHeldFor p)) }
          | .storeDone => { t with store := { s.store with heldDone := none } }
          | .survey ph =>
              { t with
                surveys := s.surveys.set ph
                  { s.survey ph with held := (s.survey ph).held.eraseP (fun x => x.1 = p) } })) ∧
      ((s.port p).held = [] ∨ 16 ≤ (s.port p).outq.length ∨ 15 ≤ noticeCount (s.port p).outq →
        exec (.heldNoticeQueued p) s = .next s)

/-- The queues of both ports stay within their bounds: at most 16 items, of which at most 15 notices, at most 4 frames
of at most 64 bytes each (R167, R169). And each port has tried its waiting work at the end of every step: a frame
waits in a FIFO only where the out-queue has no place for its reply, and a held notice only where it has none for a
notice (R168, R170, R172). -/
def Obligations.QueuesStayBoundedAndTried : Prop :=
  ∀ (s t : State), step s = .next t → (QueuesBounded s → QueuesBounded t) ∧ (PortsTried s → PortsTried t)

/-- STATUS, READ TIME, READ IDENTITY, READ SETTINGS and READ FAULTS answer OK with what they are to show as it stands
when they are taken, and change nothing (R165, R174, R179, R186, R188; the layouts where the manual leaves them open
are log 10's, and the widths of the serial and the revision log 8's). -/
def Obligations.PartReadingsAnswer : Prop :=
  (∀ (p : Port) (tag : Byte) (s : State), s.takes p (.status p tag) →
    exec (.status p tag) s = .next (s.answered p 0x24 tag .ok ((s.popFrame p).statusBytes p))) ∧
  (∀ (p : Port) (tag : Byte) (s : State), s.takes p (.readTime p tag) →
    exec (.readTime p tag) s =
      .next (s.answered p 0x1A tag .ok
        (be 4 (s.clock.millis / 1000) ++ be 2 (s.clock.millis % 1000) ++ [if s.clock.isSet then 0 else 1] ++
          be 2 s.fPlan ++
          (if s.mains.l1.present then [1, 0] else if s.mains.l2.present then [1, 1]
            else if s.mains.l3.present then [1, 2] else [0, 0]) ++
          [if s.excursion then 1 else 0] ++ s.mains.l1.bytes ++ s.mains.l2.bytes ++ s.mains.l3.bytes))) ∧
  (∀ (p : Port) (tag : Byte) (s : State), s.takes p (.readIdentity p tag) →
    exec (.readIdentity p tag) s =
      .next (s.answered p 0x1E tag .ok
        (be16 s.identity.code ++ be32 s.identity.serial ++ [s.identity.revision]))) ∧
  (∀ (p : Port) (tag : Byte) (s : State), s.takes p (.readSettings p tag) →
    exec (.readSettings p tag) s =
      .next (s.answered p 0x1F tag .ok
        (s.settings.bytes ++
          [storeStateByte s.store.state, flagByte s.store.heldDone.isSome, flagByte s.store.settingsValid,
            flagByte s.store.rosterValid]))) ∧
  ∀ (p : Port) (tag : Byte) (s : State), s.takes p (.readFaults p tag) →
    exec (.readFaults p tag) s =
      .next (s.answered p 0x20 tag .ok
        (optionalBytes 8 faultRecordBytes s.faults.record ++ s.faults.counters.map (BitVec.ofNat 8) ++
          be 2 s.faults.generation))

/-- Work in flight with the entries of a port parted from it, so that it goes on for no entry (R77). -/
def partedFrom (s : State) (p : Port) (w : Work) : Work :=
  match w with
  | .flood f => .flood { f with entry := f.entry.filter (fun h => !s.ownedBy p h) }
  | .exchange x =>
      .exchange { x with
        owner := match x.owner with
          | .confirm e => .confirm (e.filter (fun h => !s.ownedBy p h))
          | .ping => .ping
          | .registration => .registration }
  | .probe r => .probe r

/-- RESET PORT is taken whatever the out-queue holds (R168). At its port the FIFO and the held-notice list are
emptied, both counters are 0, a transfer under way is marked so that its completion removes nothing, and the out-queue
holds the reply and after it at most the LINE STATE notice (R175). The port's entries leave the calendar and its
retirement queue, its QUEUED and HELD pings leave their queues, its read cursor is 0, no STORE DONE and no survey
notice is held for it, and it is not in the hold set, which lets a DRAINING or HELD line run once both ports have left
it (R52). The channels give up its parts, one in the gap of such a part becomes IDLE, and their work in flight goes on
for no entry (R77). The other port loses nothing, and roster, groups, discovery, levels, masks, clock, Fault Record
and settings stay (R176). -/
def Obligations.ResetPortClearsThePort : Prop :=
  ∀ (p : Port) (tag : Byte) (s : State),
    ((s.port p).fifo = [] ∨ s.headReading p = some (.command (.resetPort p tag))) →
    ∃ t, exec (.resetPort p tag) s = .next t ∧
      (t.port p).fifo = [] ∧ (t.port p).held = [] ∧ (t.port p).overflow = 0 ∧ (t.port p).drops = 0 ∧
      (t.port p).transfer = (s.port p).transfer.map (fun x => { x with cut := true }) ∧
      (t.port p).outq =
        .reply 0x25 tag .ok [] :: (if t.line = s.line ∧ t.hold = s.hold then [] else [lineNotice t.line t.hold]) ∧
      t.calendar = s.calendar.filter (fun e => e.origin != p) ∧ t.retirement = s.retirement.set p [] ∧
      (∀ ph, t.pingQueue ph =
        ((s.pingQueue ph).filter (fun r => r.origin != p || r.state == .inFlight)).map
          (fun r => if r.origin == p then { r with dropped := true } else r)) ∧
      t.readCursors = s.readCursors.set p 0 ∧
      t.store = { s.store with heldDone := s.store.heldDone.filter (fun d => d.origin != p) } ∧
      (∀ ph, t.survey ph = { s.survey ph with held := (s.survey ph).held.filter (fun x => x.1 != p) }) ∧
      t.hold = s.hold.set p false ∧
      t.line = (if t.hold = ⟨false, false⟩ ∧ (s.line = .draining ∨ s.line = .held) then .running else s.line) ∧
      (∀ ph,
        let c := s.chan ph
        let gapOfIts : Prop := c.gapLeft.isSome = true ∧ ∃ h, c.openPart = some h ∧ s.ownedBy p h = true
        t.chan ph =
          { c with
            work := c.work.map (partedFrom s p)
            openPart := c.openPart.filter (fun h => !s.ownedBy p h)
            suspendedPart := c.suspendedPart.filter (fun h => !s.ownedBy p h)
            state := if gapOfIts then .idle else c.state
            gapLeft := if gapOfIts then none else c.gapLeft }) ∧
      (∀ q ≠ p, (t.port q).fifo = (s.port q).fifo ∧ (t.port q).held = (s.port q).held ∧
        (s.port q).outq <+: (t.port q).outq) ∧
      { t with
        ports := s.ports, calendar := s.calendar, retirement := s.retirement, pings := s.pings,
        readCursors := s.readCursors, store := s.store, surveys := s.surveys, hold := s.hold, line := s.line,
        channels := s.channels } = s

/-! ## Start-up -/

/-- POWER_ON and PIN_RESET leave every block that is not loaded from the store at its start-up value: the line STOPPED
with an empty hold set and every channel OFFLINE and empty (R49, R76), the calendar, the ping queues, the FIFOs,
discovery, the surveys and the phases empty, the test masks 0, the clock UNSET at 0, the planning frequency at the
nominal frequency loaded, the read cursors 0, the store IDLE with no save and no held STORE DONE, every level
controller in ACQUIRE at level 40 brought within its range (R138); and the identity area as it was. A fresh survey's
tag and target are the model's 0 (log 35). -/
def Obligations.StartUpLeavesEveryBlockFresh : Prop :=
  ∀ (c : Instr) (a b : Bool) (s : State), (c = .powerOn a b ∨ c = .pinReset a b) →
    ∃ t, exec c s = .next t ∧
      t.line = .stopped ∧ t.hold = ⟨false, false⟩ ∧ (∀ ph, t.chan ph = Channel.fresh) ∧
      t.calendar = [] ∧ t.lastHandle = 0 ∧ t.retirement = ⟨[], []⟩ ∧ (∀ ph, t.pingQueue ph = []) ∧
      (∀ p, (t.port p).fifo = [] ∧ (t.port p).held = [] ∧ (t.port p).overflow = 0 ∧ (t.port p).drops = 0 ∧
        (t.port p).transfer = none) ∧
      (∀ ph, t.disc ph = Discovery.fresh) ∧ (∀ ph, t.survey ph = Survey.fresh) ∧
      (∀ ph, t.phaseRec ph = PhaseRec.fresh) ∧ t.testMasks = ⟨0, 0, 0⟩ ∧ t.clock = ⟨false, 0⟩ ∧
      t.excursion = false ∧ t.fPlan = t.settings.nominal ∧ t.readCursors = ⟨0, 0⟩ ∧
      (t.store.state = .idle ∧ t.store.save = none ∧ t.store.heldDone = none) ∧ t.identity = s.identity ∧
      (∀ ph, (t.settings.levels.get ph).low ≤ (t.settings.levels.get ph).high →
        t.levelRec ph =
          LevelRec.fresh (max (t.settings.levels.get ph).low (min (t.settings.levels.get ph).high 40)))

/-- POWER_ON and PIN_RESET load the store (R185). A valid settings image gives every setting, its next-start layout
and quotas coming into force; without one every setting takes its factory value. A valid roster image gives the units
below the capacity of the layout now in force, each at its index with every field, but that those with a route through
a dropped unit lose it and are LOST (R103, R116), and the 64 sequence counters; without one the roster is empty and
every counter 0. An image that is missing, or has decayed, is reported as not valid (section 11.4; the operands say
which have decayed: log 9). With both images valid a PIN_RESET that drops no unit leaves the Fault Record as it was,
one that drops any counts ROSTER TRUNCATED, and a POWER_ON that drops none leaves it empty with every counter and the
generation 0 (R187); after a POWER_ON over two invalid images STORE CHECK of the settings fills the record without a
time, and its counter and the generation are 2. -/
def Obligations.StartUpLoadsTheStoreAndPostsItsFaults : Prop :=
  (∀ (c : Instr) (a b : Bool) (s : State), (c = .powerOn a b ∨ c = .pinReset a b) → ∃ t, exec c s = .next t ∧
    (∀ v, a = false → s.store.settingsImage = some v →
      t.settings = { v with layout := v.nextLayout, quota := v.nextQuota } ∧ t.store.settingsValid = true) ∧
    (a = true ∨ s.store.settingsImage = none →
      t.settings = Settings.factory ∧ t.store.settingsValid = false ∧ t.store.settingsImage = none) ∧
    (∀ v, b = false → s.store.rosterImage = some v →
      let capacity := Config.rosterCapacity t.settings.layout
      (rosterLawful v.units →
        t.roster =
          (v.units.filter (fun x => x.1 < capacity)).map (fun x =>
            if ∃ i ∈ x.2.route, capacity ≤ i then (x.1, { x.2 with route := [], state := .lost }) else x)) ∧
        (∀ g < 64, (t.group g).sequence = v.counters.getD g 0 ∧ (t.group g).fieldPending = []) ∧
        t.store.rosterValid = true) ∧
    (b = true ∨ s.store.rosterImage = none →
      t.roster = [] ∧ (∀ g < 64, (t.group g).sequence = 0 ∧ (t.group g).fieldPending = []) ∧
        t.store.rosterValid = false ∧ t.store.rosterImage = none)) ∧
  (∀ (s : State) (v : Settings) (w : RosterImage),
    s.store.settingsImage = some v → s.store.rosterImage = some w →
    let kept : Prop := ∀ x ∈ w.units, x.1 < Config.rosterCapacity v.nextLayout
    (∃ t, exec (.pinReset false false) s = .next t ∧ (kept → t.faults = s.faults) ∧
      (¬ kept →
        t.faults.counters = s.faults.counters.set 3 (saturatingSucc 255 (s.faults.counters.getD 3 0)) ∧
          t.faults.generation = wrappingSucc 65535 s.faults.generation)) ∧
      (kept → ∃ t, exec (.powerOn false false) s = .next t ∧
        t.faults = { record := none, counters := List.replicate 8 0, generation := 0 })) ∧
    ∀ s : State, ∃ t, exec (.powerOn true true) s = .next t ∧
      t.faults = { record := some (.storeCheck .settings, none), counters := [0, 2, 0, 0, 0, 0, 0, 0], generation := 2 }

/-! ## The line -/

/-- RUN LINE (R49): of a line that is not STOPPED, BAD STATE; without a system code, NO IDENTITY; otherwise OK, and
the line becomes RUNNING with an empty hold set, HELD with any other. RELEASE LINE (R52), every row of its table: of a
port not in the hold set, NOT HOLDING; otherwise the port leaves the hold set, a DRAINING or HELD line with an empty
hold set becomes RUNNING, and any other line state stays. LINE STATE of the result is offered to both ports after the
reply (R53), and nothing else changes. -/
def Obligations.RunLineAndReleaseLineLetTheLineGo : Prop :=
  (∀ (p : Port) (tag : Byte) (s : State), s.takes p (.runLine p tag) →
    (s.line ≠ .stopped → exec (.runLine p tag) s = .next (s.answered p 0x05 tag .badState [])) ∧
      (s.line = .stopped → s.identity.code = 0xFFFF →
        exec (.runLine p tag) s = .next (s.answered p 0x05 tag .noIdentity [])) ∧
      (s.line = .stopped → s.identity.code ≠ 0xFFFF →
        let line : LineState := if s.hold = ⟨false, false⟩ then .running else .held
        exec (.runLine p tag) s =
          .next (State.offerBoth { s.answered p 0x05 tag .ok [] with line } (lineNotice line s.hold)))) ∧
  ∀ (p : Port) (tag : Byte) (s : State), s.takes p (.releaseLine p tag) →
    (s.hold.get p = false → exec (.releaseLine p tag) s = .next (s.answered p 0x07 tag .notHolding [])) ∧
      (s.hold.get p = true →
        let hold := s.hold.set p false
        let line : LineState :=
          if hold = ⟨false, false⟩ ∧ (s.line = .draining ∨ s.line = .held) then .running else s.line
        exec (.releaseLine p tag) s =
          .next (State.offerBoth { s.answered p 0x07 tag .ok [] with hold, line } (lineNotice line hold)))

/-- HOLD LINE (R50), every row of its table: the port is in the hold set after it; a RUNNING line becomes DRAINING if
some channel is SENDING other than in a gap, or LISTENING, and HELD if none is; any other line state stays; a channel
between two repeats becomes IDLE and keeps its open part when the line stops running. A port already in the hold set
changes nothing. But for the ports, the hold set, the line state and the channels, all is as before. -/
def Obligations.HoldLineHoldsTheLine : Prop :=
  ∀ (p : Port) (tag : Byte) (s : State), ChannelsCoherent s → s.takes p (.holdLine p tag) →
    (s.hold.get p = true → exec (.holdLine p tag) s = .next (s.answered p 0x06 tag .ok [])) ∧
      (s.hold.get p = false →
        ∃ t, exec (.holdLine p tag) s = .next t ∧ t.hold = s.hold.set p true ∧
          (s.line ≠ .running → t.line = s.line ∧ t.channels = s.channels) ∧
          (s.line = .running →
            ((∃ ph, (s.chan ph).work.isSome = true) → t.line = .draining) ∧
              ((∀ ph, (s.chan ph).work = none) → t.line = .held) ∧
              ∀ ph, t.chan ph =
                if (s.chan ph).gapLeft.isSome then { s.chan ph with state := .idle, gapLeft := none } else s.chan ph) ∧
          replyThenNotices (s.port p).outq (t.port p).outq (.reply 0x06 tag .ok []) ∧
          { t with ports := s.ports, hold := s.hold, line := s.line, channels := s.channels } = s)

/-- No command but POWER_ON and PIN_RESET returns the line to STOPPED (R49), and none but these two takes a channel
out of HALTED (R56). -/
def Obligations.OnlyStartUpStopsTheLineOrEndsAHalt : Prop :=
  ∀ (c : Instr) (s t : State), (∀ a b, c ≠ .powerOn a b ∧ c ≠ .pinReset a b) → exec c s = .next t →
    (s.line ≠ .stopped → t.line ≠ .stopped) ∧
      (ChannelsCoherent s → ∀ ph, (s.chan ph).state = .halted → (t.chan ph).state = .halted)

/-- Every step keeps the line and the channels in agreement: work only on a SENDING or LISTENING channel, a gap only
on a RUNNING line, OFFLINE only on an ABSENT phase, a DRAINING line only while a channel works, and a STOPPED or HELD
line only while none does (R51, R55, R56). -/
def Obligations.ChannelsStayCoherent : Prop :=
  ∀ (s t : State), ChannelsCoherent s → step s = .next t → ChannelsCoherent t

/-! ## Settings and store -/

/-- Outside a STOPPED line and a line both ports hold HELD, APPLY PROFILE, SET PARAMETER, SET GROUP PERMIT and SET
QUOTA are refused NOT JOINT and change nothing (R54). -/
def Obligations.JointCommandsNeedTheJointHold : Prop :=
  ∀ (p : Port) (tag : Byte) (s : State),
    s.line ≠ .stopped → ¬ (s.line = .held ∧ s.hold = ⟨true, true⟩) →
    (∀ profile, s.takes p (.applyProfile p tag profile) →
      exec (.applyProfile p tag profile) s = .next (s.answered p 0x08 tag .notJoint [])) ∧
    (∀ a, s.takes p (.setParameter p tag a) →
      exec (.setParameter p tag a) s = .next (s.answered p 0x09 tag .notJoint [])) ∧
    (∀ g q, s.takes p (.setGroupPermit p tag g q) →
      exec (.setGroupPermit p tag g q) s = .next (s.answered p 0x0A tag .notJoint [])) ∧
    ∀ layout qa qb, s.takes p (.setQuota p tag layout qa qb) →
      exec (.setQuota p tag layout qa qb) s = .next (s.answered p 0x0B tag .notJoint [])

/-- The columns of the table of R180: routine repeats, urgent repeats, poll retries, guard, lead, gap, reply
tolerance, degrade limit, lost limit, probe period. -/
def profileColumn : Profile → List Nat
  | .smallQuiet => [2, 3, 1, 1000, 300, 1, 1, 2, 5, 600]
  | .smallNoisy => [3, 4, 2, 2000, 600, 2, 2, 3, 8, 900]
  | .mediumQuiet => [2, 3, 1, 1500, 600, 1, 1, 2, 5, 900]
  | .mediumNoisy => [3, 4, 2, 2500, 900, 2, 2, 3, 8, 1200]
  | .largeQuiet => [2, 3, 1, 2000, 900, 2, 2, 2, 6, 1800]
  | .largeNoisy => [4, 5, 2, 3000, 1200, 2, 3, 3, 10, 1800]

/-- The ten profile parameters of the settings, in the order of R180. -/
def profileParameters (v : Settings) : List Nat :=
  [v.routineRepeats, v.urgentRepeats, v.pollRetries, v.guardMs, v.leadS, v.gap, v.tolerance, v.degradeLimit,
    v.lostLimit, v.probePeriod]

/-- APPLY PROFILE taken as a joint command (R54, R180): a name that is none of the six is refused BAD PARAMETER;
otherwise the ten parameters take the profile's column, the profile field names it without MODIFIED, every other
setting stays, every level controller returns to ACQUIRE with an empty window and LEVEL LIMIT clear at the level it
had (R143), and every waiting plan is that of the new settings (R42). Identity, store, roster, groups, channels, clock
and faults stay. -/
def Obligations.ApplyProfileWritesTheColumn : Prop :=
  ∀ (p : Port) (tag profile : Byte) (s : State), s.takes p (.applyProfile p tag profile) →
    s.line = .stopped ∨ (s.line = .held ∧ s.hold = ⟨true, true⟩) →
    (6 ≤ profile.toNat →
      exec (.applyProfile p tag profile) s = .next (s.answered p 0x08 tag .badParameter [])) ∧
    (profile.toNat < 6 →
      ∃ t, exec (.applyProfile p tag profile) s = .next t ∧
        profileByte t.settings.profile = profile ∧ t.settings.modified = false ∧
        profileParameters t.settings = profileColumn t.settings.profile ∧
        { s.settings with
          profile := t.settings.profile, modified := false, routineRepeats := t.settings.routineRepeats,
          urgentRepeats := t.settings.urgentRepeats, pollRetries := t.settings.pollRetries,
          guardMs := t.settings.guardMs, leadS := t.settings.leadS, gap := t.settings.gap,
          tolerance := t.settings.tolerance, degradeLimit := t.settings.degradeLimit,
          lostLimit := t.settings.lostLimit, probePeriod := t.settings.probePeriod } = t.settings ∧
        (∀ ph, t.levelRec ph =
          { s.levelRec ph with state := .acquire, windowCount := 0, windowMin := none, levelLimit := false }) ∧
        PlansCurrent t ∧
        (∃ more, (t.port p).outq = (s.port p).outq ++ .reply 0x08 tag .ok [] :: more) ∧
        { t with
          ports := s.ports, settings := s.settings, levels := s.levels, calendar := s.calendar,
          retirement := s.retirement } = s)

/-- The least and the greatest value of a parameter of one range, by its number (R179, R195). -/
def parameterRange : Nat → Option (Nat × Nat)
  | 0x00 => some (1, 8)
  | 0x01 => some (1, 8)
  | 0x02 => some (0, 10000)
  | 0x03 => some (60, 3600)
  | 0x04 => some (1, 4)
  | 0x05 => some (1, 3)
  | 0x06 => some (0, 3)
  | 0x07 => some (1, 15)
  | 0x09 => some (60, 7200)
  | _ => none

/-- The settings' values by the parameter numbers of R195, for the parameters that name no channel. -/
def parameterValue (v : Settings) : Nat → Option Nat
  | 0x00 => some v.routineRepeats
  | 0x01 => some v.urgentRepeats
  | 0x02 => some v.guardMs
  | 0x03 => some v.leadS
  | 0x04 => some v.gap
  | 0x05 => some v.tolerance
  | 0x06 => some v.pollRetries
  | 0x07 => some v.degradeLimit
  | 0x08 => some v.lostLimit
  | 0x09 => some v.probePeriod
  | 0x0D => some v.nominal
  | _ => none

/-- SET PARAMETER taken as a joint command (R54, R181): another number than 00h to 0Dh, and a level parameter without
a channel 1 to 3, are refused BAD PARAMETER. Otherwise the value is brought into range and written, the reply carries
it in two bytes, and the line of the table of R181 for the parameter holds: a value held within its range; the lost
limit raised above a new degrade limit; the lost limit held above the degrade limit; the level maximum not below the
minimum; the nominal frequency 5000 below 5500 and 6000 from there on. A level setting also resets its channel's
controller and brings the level within the range (R143), the other channels' level settings and controllers staying; a
plan parameter makes every waiting plan that of the new settings (R42). The settings that the line does not name stay.
-/
def Obligations.SetParameterWritesWithinRange : Prop :=
  ∀ (p : Port) (tag : Byte) (a : ParameterArgs) (s : State), s.takes p (.setParameter p tag a) →
    s.line = .stopped ∨ (s.line = .held ∧ s.hold = ⟨true, true⟩) →
    let k := a.parameter.toNat
    let v := a.value.toNat
    let leveled : Prop := k = 0x0A ∨ k = 0x0B ∨ k = 0x0C
    (0x0D < k ∨ (leveled ∧ (a.channel.toNat = 0 ∨ 3 < a.channel.toNat)) →
      exec (.setParameter p tag a) s = .next (s.answered p 0x09 tag .badParameter [])) ∧
    (k ≤ 0x0D → (leveled → 1 ≤ a.channel.toNat ∧ a.channel.toNat ≤ 3) →
      ∃ (t : State) (w : Nat), exec (.setParameter p tag a) s = .next t ∧
        (∃ more, (t.port p).outq = (s.port p).outq ++ .reply 0x09 tag .ok (be 2 w) :: more) ∧
        (∀ lo hi, parameterRange k = some (lo, hi) →
          w = max lo (min hi v) ∧ parameterValue t.settings k = some w ∧
            t.settings.lostLimit = (if k = 0x07 then max s.settings.lostLimit (w + 1) else s.settings.lostLimit)) ∧
        (k = 0x08 →
          t.settings.lostLimit = w ∧
            (s.settings.degradeLimit ≤ 30 → w = max (s.settings.degradeLimit + 1) (min 31 v))) ∧
        (k = 0x0D → w = (if v < 5500 then 5000 else 6000) ∧ t.settings.nominal = w) ∧
        (∀ ph, phaseOfChannel a.channel = some ph →
          (k = 0x0A → w = min 63 v ∧
            t.settings.levels.get ph =
              { s.settings.levels.get ph with low := w, high := max (s.settings.levels.get ph).high w }) ∧
          (k = 0x0B → w = max (min 63 v) (s.settings.levels.get ph).low ∧
            t.settings.levels.get ph = { s.settings.levels.get ph with high := w }) ∧
          (k = 0x0C → w = min 255 v ∧
            t.settings.levels.get ph = { s.settings.levels.get ph with target := w }) ∧
          (leveled →
            t.levelRec ph =
              { s.levelRec ph with
                state := .acquire, windowCount := 0, windowMin := none, levelLimit := false
                level :=
                  if k = 0x0C then (s.levelRec ph).level
                  else
                    max (t.settings.levels.get ph).low (min (t.settings.levels.get ph).high (s.levelRec ph).level) } ∧
            ∀ q ≠ ph, t.levelRec q = s.levelRec q ∧ t.settings.levels.get q = s.settings.levels.get q)) ∧
        (k ≤ 0x04 → PlansCurrent t) ∧
        t.settings.modified = (s.settings.modified || decide (k ≤ 0x09)) ∧
        (∀ j, j ≠ k → j ≠ 0x08 → parameterValue t.settings j = parameterValue s.settings j) ∧
        (k ≠ 0x07 → k ≠ 0x08 → t.settings.lostLimit = s.settings.lostLimit) ∧
        (¬ leveled → t.settings.levels = s.settings.levels ∧ t.levels = s.levels) ∧
        { t.settings with
          modified := s.settings.modified, routineRepeats := s.settings.routineRepeats,
          urgentRepeats := s.settings.urgentRepeats, pollRetries := s.settings.pollRetries,
          guardMs := s.settings.guardMs, leadS := s.settings.leadS, gap := s.settings.gap,
          tolerance := s.settings.tolerance, degradeLimit := s.settings.degradeLimit,
          lostLimit := s.settings.lostLimit, probePeriod := s.settings.probePeriod,
          levels := s.settings.levels, nominal := s.settings.nominal } = s.settings ∧
        { t with
          ports := s.ports, settings := s.settings, levels := s.levels, calendar := s.calendar,
          retirement := s.retirement } = s)

/-- SET GROUP PERMIT and SET QUOTA taken as joint commands (R54, R182). A group above 63, or a permit byte that names
none of the four, is refused BAD PARAMETER; otherwise the group's permit is written and in force, and nothing else
changes. A layout other than 0, 1 or 2 is refused BAD PARAMETER, and with the store not IDLE or a STORE DONE held SET
QUOTA is refused BUSY; otherwise the layout and the quotas, those above 192 lowered to it, are written to the
next-start fields, and a save of all the settings starts, the values in force staying. -/
def Obligations.PermitAndQuotaAreWritten : Prop :=
  ∀ (p : Port) (tag : Byte) (s : State), s.line = .stopped ∨ (s.line = .held ∧ s.hold = ⟨true, true⟩) →
    (∀ (group permit : Byte), s.takes p (.setGroupPermit p tag group permit) →
      (63 < group.toNat ∨ 3 < permit.toNat →
        exec (.setGroupPermit p tag group permit) s = .next (s.answered p 0x0A tag .badParameter [])) ∧
      (group.toNat ≤ 63 → ∀ q, permitByte q = permit →
        exec (.setGroupPermit p tag group permit) s =
          .next { s.answered p 0x0A tag .ok [] with
            settings := { s.settings with permits := s.settings.permits.set group.toNat q } })) ∧
    ∀ (layout qa qb : Byte), s.takes p (.setQuota p tag layout qa qb) →
      (2 < layout.toNat →
        exec (.setQuota p tag layout qa qb) s = .next (s.answered p 0x0B tag .badParameter [])) ∧
      (layout.toNat ≤ 2 → (s.store.state ≠ .idle ∨ s.store.heldDone.isSome = true) →
        exec (.setQuota p tag layout qa qb) s = .next (s.answered p 0x0B tag .busy [])) ∧
      (layout.toNat ≤ 2 → s.store.state = .idle → s.store.heldDone = none →
        let settings :=
          { s.settings with nextLayout := layout.toNat, nextQuota := ⟨min qa.toNat 192, min qb.toNat 192⟩ }
        exec (.setQuota p tag layout qa qb) s =
          .next { s.answered p 0x0B tag .ok
              [layout, BitVec.ofNat 8 (min qa.toNat 192), BitVec.ofNat 8 (min qb.toNat 192)] with
            settings
            store := { s.store with
              state := .erasing, save := some ⟨.settings settings, p, tag⟩, settingsImage := none } })

/-- At every step the settings, and those the store can bring back, stay within the ranges of R179, the lost limit
above the degrade limit and a level maximum not below its minimum; every channel's transmit level stays within that
channel's level minimum and maximum (R138); and the planning frequency within 4500 to 6500 cHz (R160). -/
def Obligations.SettingsLevelsAndPlanFrequencyStayInRange : Prop :=
  ∀ (s t : State), step s = .next t →
    (SettingsInRange s → SettingsInRange t) ∧ (LevelsInRange s → LevelsInRange t) ∧
      (PlanFrequencyInRange s → PlanFrequencyInRange t)

/-- The system code once written never changes, and no step, start-ups among them, changes the serial or the revision.
WRITE SYSTEM CODE: FFFFh is refused BAD PARAMETER, a part that has its code LOCKED; otherwise the code is written and
in force, and nothing else changes (R186). -/
def Obligations.SystemCodeIsWrittenOnceAndPermanent : Prop :=
  (∀ (s t : State), step s = .next t →
    (s.identity.code ≠ 0xFFFF → t.identity.code = s.identity.code) ∧
      t.identity.serial = s.identity.serial ∧ t.identity.revision = s.identity.revision) ∧
  ∀ (p : Port) (tag : Byte) (code : Word16) (s : State), s.takes p (.writeSystemCode p tag code) →
    (code = 0xFFFF →
      exec (.writeSystemCode p tag code) s = .next (s.answered p 0x1D tag .badParameter [])) ∧
      (code ≠ 0xFFFF → s.identity.code ≠ 0xFFFF →
        exec (.writeSystemCode p tag code) s = .next (s.answered p 0x1D tag .locked [])) ∧
      (code ≠ 0xFFFF → s.identity.code = 0xFFFF →
        exec (.writeSystemCode p tag code) s =
          .next { s.answered p 0x1D tag .ok [] with identity := { s.identity with code := code } })

/-- SAVE SETTINGS and SAVE ROSTER (R183): with the store not IDLE or a STORE DONE held, BUSY; otherwise the snapshot
of the whole settings, or of every unit with the 64 sequence counters, is taken, the store becomes ERASING, the image
of the area is invalid, the reply to SAVE ROSTER carries the number of units, and nothing else changes. -/
def Obligations.SavesTakeTheirSnapshot : Prop :=
  ∀ (p : Port) (tag : Byte) (s : State),
    (s.takes p (.saveSettings p tag) →
      (s.store.state ≠ .idle ∨ s.store.heldDone.isSome = true →
        exec (.saveSettings p tag) s = .next (s.answered p 0x1B tag .busy [])) ∧
      (s.store.state = .idle → s.store.heldDone = none →
        exec (.saveSettings p tag) s =
          .next { s.answered p 0x1B tag .ok [] with
            store := { s.store with
              state := .erasing, save := some ⟨.settings s.settings, p, tag⟩, settingsImage := none } })) ∧
    (s.takes p (.saveRoster p tag) →
      (s.store.state ≠ .idle ∨ s.store.heldDone.isSome = true →
        exec (.saveRoster p tag) s = .next (s.answered p 0x1C tag .busy [])) ∧
      (s.store.state = .idle → s.store.heldDone = none →
        exec (.saveRoster p tag) s =
          .next { s.answered p 0x1C tag .ok (be 2 s.roster.length) with
            store := { s.store with
              state := .erasing
              save := some ⟨.roster { units := s.roster, counters := s.groups.map (·.sequence) }, p, tag⟩
              rosterImage := none } }))

/-- The stages of a save (R183, R184). At the end of the erasure an ERASING store becomes WRITING and nothing else
changes. At the end of the write the store is IDLE without a save; a read-back that matched makes the image the
snapshot and valid, one that failed leaves it invalid and posts fault STORE WRITE (its FAULT in the bytes of logs 10
and 26); and then STORE DONE, with the result OK or FAILED, goes to the end of the origin's out-queue, or is held
where that has no room or other notices are held already. Events taken while the save runs do not reach the snapshot:
the image is the snapshot itself. -/
def Obligations.SaveRunsItsStages : Prop :=
  (∀ s : State, s.store.state = .erasing →
    exec .eraseEnd s = .next { s with store := { s.store with state := .writing } }) ∧
  ∀ (matched : Bool) (s : State) (v : Save), s.store.state = .writing → s.store.save = some v →
    let posted := if matched then s else s.post (.storeWrite v.snapshot.image)
    let r := posted.port v.origin
    let room : Prop := r.held = [] ∧ r.outq.length < 16 ∧ noticeCount r.outq < 15
    ∃ t, exec (.writeEnd matched) s = .next t ∧
      t.store.state = .idle ∧ t.store.save = none ∧
      (∀ x, v.snapshot = .settings x →
        t.store.settingsImage = (if matched then some x else none) ∧ t.store.settingsValid = matched ∧
          t.store.rosterImage = s.store.rosterImage ∧ t.store.rosterValid = s.store.rosterValid) ∧
      (∀ x, v.snapshot = .roster x →
        t.store.rosterImage = (if matched then some x else none) ∧ t.store.rosterValid = matched ∧
          t.store.settingsImage = s.store.settingsImage ∧ t.store.settingsValid = s.store.settingsValid) ∧
      (room →
        t.store.heldDone = none ∧
          t.ports = posted.ports.set v.origin
            { r with
              outq := r.outq ++
                [.notice .storeDone [v.tag, imageByte v.snapshot.image, if matched then 0 else 1]] }) ∧
      (¬ room →
        t.store.heldDone = some ⟨v.origin, v.tag, v.snapshot.image, matched⟩ ∧
          t.ports = posted.ports.set v.origin { r with held := r.held ++ [.storeDone] }) ∧
      (matched = true → t.faults = s.faults) ∧
      (matched = false → t.faults = posted.faults ∧
        t.faults.counters = s.faults.counters.set 2 (saturatingSucc 255 (s.faults.counters.getD 2 0)) ∧
          t.faults.generation = wrappingSucc 65535 s.faults.generation) ∧
      { t with ports := s.ports, store := s.store, faults := s.faults } = s

/-! ## The calendar -/

/-- The ranges of test 2 of R10. -/
def submitInRange (a : SubmitArgs) (now : Nat) : Prop :=
  let kind := a.action.toNat / 16
  let argument := a.action.toNat % 16
  a.group.toNat ≤ 63 ∧
    ((kind = 1 ∧ 1 ≤ argument ∧ argument ≤ 8) ∨
      ((kind = 2 ∨ kind = 3 ∨ (kind = 4 ∧ 1 ≤ a.duration.toNat)) ∧ 1 ≤ argument ∧ argument ≤ 2)) ∧
    a.cls.toNat ≤ 1 ∧ a.activation.toNat * 1000 ≤ now + 604800000

/-- Test 4 of R10, the expiry clamped to the activation (R11). -/
def submitLate (a : SubmitArgs) (now : Nat) : Prop :=
  a.activation.toNat * 1000 ≤ now ∧ ∀ x, a.expiry = some x → max x.toNat a.activation.toNat * 1000 ≤ now

/-- Test 5 of R10. -/
def submitConflicts (s : State) (a : SubmitArgs) : Prop :=
  ∃ e ∈ s.calendar, e.group = a.group.toNat ∧ e.activation = a.activation.toNat

/-- The live count of R3. -/
def entriesOf (s : State) (p : Port) : Nat := (s.calendar.filter (fun e => e.origin = p)).length

/-- From a state in which its parts or its confirmation have just ended, an entry's outcome is decided (R23): its
OUTCOME, carrying the record (R24), is queued and it has left the calendar (R26), or else it is RETIRING, the last of
its origin's retirement queue (R25), and its OUTCOME is held (R172). -/
def retires (u t : State) (e : Entry) : Prop :=
  let r := u.port e.origin
  ∃ o, outcomeByTable e o ∧
    if r.held = [] ∧ r.outq.length < 16 ∧ noticeCount r.outq < 15 then
      t.entry? e.handle = none ∧ (t.port e.origin).outq = r.outq ++ [.notice .outcome (outcomeRecord e o)]
    else
      t.entry? e.handle = some { e with outcome := some o, record := some (outcomeRecord e o) } ∧
        t.retirement.get e.origin = u.retirement.get e.origin ++ [e.handle] ∧
        (t.port e.origin).held = r.held ++ [.outcome e.handle]

/-- On an event that ends several things an entry's outcome was decided: its OUTCOME is in the out-queue and it has
left the calendar, or it is RETIRING and its OUTCOME is held. -/
def hasRetired (t : State) (e : Entry) : Prop :=
  ∃ o, outcomeByTable e o ∧
    ((t.entry? e.handle = none ∧ .notice .outcome (outcomeRecord e o) ∈ (t.port e.origin).outq) ∨
      (t.entry? e.handle = some { e with outcome := some o, record := some (outcomeRecord e o) } ∧
        e.handle ∈ t.retirement.get e.origin ∧ .outcome e.handle ∈ (t.port e.origin).held))

/-- A phase record as the early end of its confirmation leaves it: the members ahead and the current unit are counted
not reached (R73, R74), and the cursor is at the end with no current unit (log 47). -/
def endedEarly (s : State) (group : Nat) (ph : Phase) (r : PhaseProgress) : PhaseProgress :=
  let ahead := s.roster.filter (fun x => r.cursor ≤ x.1 ∧ x.2.phase = ph ∧ (group = 0 ∨ group ∈ x.2.groups))
  { r with
    notReached := r.notReached + ahead.length + (if r.current = none then 0 else 1)
    current := none
    cursor := max r.cursor s.rosterCapacity }

/-- SUBMIT is refused by the first test of R10 that fails, in the order of its table, and a refused SUBMIT changes
nothing but the queues of its port: CLOCK UNSET, BAD PARAMETER, NOT PERMITTED, TOO LATE, CONFLICT, QUOTA, FULL. -/
def Obligations.SubmitIsTestedInOrder : Prop :=
  ∀ (p : Port) (tag : Byte) (a : SubmitArgs) (s : State), s.takes p (.submit p tag a) →
    let now := s.clock.millis
    let refused (code : ReplyCode) : Prop := exec (.submit p tag a) s = .next (s.answered p 0x01 tag code [])
    let permitted : Prop := (s.permit a.group.toNat).admits p = true
    (s.clock.isSet = false → refused .clockUnset) ∧
    (s.clock.isSet = true → ¬ submitInRange a now → refused .badParameter) ∧
    (s.clock.isSet = true → submitInRange a now → ¬ permitted → refused .notPermitted) ∧
    (s.clock.isSet = true → submitInRange a now → permitted → submitLate a now → refused .tooLate) ∧
    (s.clock.isSet = true → submitInRange a now → permitted → ¬ submitLate a now → submitConflicts s a →
      refused .conflict) ∧
    (s.clock.isSet = true → submitInRange a now → permitted → ¬ submitLate a now → ¬ submitConflicts s a →
      s.settings.quota.get p ≤ entriesOf s p → refused .quota) ∧
    (s.clock.isSet = true → submitInRange a now → permitted → ¬ submitLate a now → ¬ submitConflicts s a →
      entriesOf s p < s.settings.quota.get p → Config.calendarCapacity s.settings.layout ≤ s.calendar.length →
      refused .full)

/-- A SUBMIT that passes every test of R10 is admitted as R11 states. Its handle is not in use and is the one after
the last assigned, 0 passed over, where that is free (R2). Its entry stands after the entries of the same or an
earlier activation and before the others (R1), which stay as they are; it holds the command, the expiry clamped to the
activation, no sequence and no confirmation. Each part holds its phase's plan, with nothing sent and no start time:
WAITING while its ES lies ahead, else READY where it is needed and FINISHED NOT NEEDED where it is not. The reply
carries the handle, the least of the three LS and the late-admission flag, set if a needed part has its LS before now
(01h, log 10); after it PART FINISHED is offered for each part finished, in the order of the phases (R7). That is all
unless every part is FINISHED, as for a group without members whose ES has come: then the outcome is COMPLETE (R9,
R23), and OUTCOME is queued next, in the layout of log 10, the entry having left the calendar, or the entry is
RETIRING in its place (R25, R26). -/
def Obligations.SubmitAdmits : Prop :=
  ∀ (p : Port) (tag : Byte) (a : SubmitArgs) (s : State), s.takes p (.submit p tag a) →
    s.clock.isSet = true → submitInRange a s.clock.millis → (s.permit a.group.toNat).admits p = true →
    ¬ submitLate a s.clock.millis → ¬ submitConflicts s a → entriesOf s p < s.settings.quota.get p →
    s.calendar.length < Config.calendarCapacity s.settings.layout →
    ∃ (t : State) (e : Entry) (before after : List Entry),
      exec (.submit p tag a) s = .next t ∧
      (1 ≤ e.handle ∧ e.handle ≤ 65535 ∧ (∀ x ∈ s.calendar, x.handle ≠ e.handle) ∧
        (let next := if s.lastHandle < 65535 then s.lastHandle + 1 else 1
         (∀ x ∈ s.calendar, x.handle ≠ next) → e.handle = next)) ∧
      s.calendar = before ++ after ∧
      (∀ x ∈ before, x.activation ≤ e.activation) ∧ (∀ x ∈ after.head?, e.activation < x.activation) ∧
      (e.origin = p ∧ e.tag = tag ∧ e.group = a.group.toNat ∧ e.activation = a.activation.toNat ∧
        readAction a.action a.duration = some e.action ∧ classByte e.cls = a.cls ∧ e.confirm = a.confirm ∧
        e.expiry = a.expiry.map (fun x => max x.toNat a.activation.toNat)) ∧
      (e.sequence = none ∧ e.outcome = none ∧ e.record = none ∧ e.confirmation = none ∧ e.timeStepped = false ∧
        e.cancelled = false ∧ e.cutShort = false) ∧
      (∀ ph,
        let x := s.plan e.group e.cls e.activation ph
        let needed := decide (0 < (s.figures e.group ph).members)
        e.parts.get ph =
          { state := if s.clock.millis < x.es then .waiting else if needed then .ready else .finished
            finish := if s.clock.millis < x.es ∨ needed = true then none else some .notNeeded
            depth := x.depth, mode := x.mode, planned := x.planned, ls := x.ls, es := x.es, sent := 0, start := none
            finishNeeded := false }) ∧
      (e.lateAdmission = true ↔
        ∃ ph, 0 < (s.figures e.group ph).members ∧ (e.parts.get ph).ls < s.clock.millis) ∧
      let replied :=
        { s.answered p 0x01 tag .ok
            (be 2 e.handle ++ be 6 (min e.parts.l1.ls (min e.parts.l2.ls e.parts.l3.ls)) ++
              [flagByte e.lateAdmission]) with
          calendar := before ++ e :: after, lastHandle := e.handle }
      let note (v : State) (ph : Phase) : State :=
        if (e.parts.get ph).state = .finished then
          v.offer p (.notice .partFinished (be 2 e.handle ++ [tag, phaseByte ph, finishByte .notNeeded, 0]))
        else v
      let noted := note (note (note replied .L1) .L2) .L3
      let allFinished : Prop := ∀ ph, (e.parts.get ph).state = .finished
      (¬ allFinished → t = noted) ∧
        (allFinished →
          retires noted t e ∧ (∀ o, outcomeByTable e o → o = .complete) ∧
          (t.calendar = s.calendar ∨ ∃ x, x.handle = e.handle ∧ t.calendar = before ++ x :: after) ∧
          { t with ports := s.ports, calendar := noted.calendar, retirement := s.retirement } =
            { noted with ports := s.ports })

/-- The entry's part on a phase as an accepted CANCEL leaves it (R20, R21): one with a flood in flight goes on, one
that has not started finishes MISSED or NOT NEEDED, and any other started part finishes with its repeats sent, MISSED
where none was sent (R66) or where it has no start time (log 34); whether the part is needed then is kept for R23 (log
14). -/
def partCancelled (s : State) (e : Entry) (ph : Phase) : Part :=
  let p := e.parts.get ph
  let finished (f : Finish) : Part :=
    { p with
      state := .finished, finish := some f, finishNeeded := decide (0 < (s.figures e.group ph).members) }
  let unstarted := finished (if 0 < (s.figures e.group ph).members then .missed else .notNeeded)
  let started := finished (if p.sent = 0 then .missed else if p.start.any (· ≤ p.ls) then .onTime
    else if p.start.isSome then .late else .missed)
  match p.state with
  | .waiting => unstarted
  | .ready => unstarted
  | .sending => if s.floodOf e.handle ph then p else started
  | .suspended => started
  | .finished => p

/-- CANCEL (R19 to R22). Without such an entry, NO ENTRY; of the other port's, NOT OWNER; of a RETIRING one, FINISHED;
of one already cancelled, OK, and the entry is not changed. Otherwise it is accepted, in a calendar that holds each
handle once. Of an entry not yet CONFIRMING each part becomes what R20 and R21 make of it, and the channels give up
the parts finished; while a flood of it is in flight it stays, cancelled, in the calendar, and else its outcome is
CANCELLED, or it has left the calendar with its OUTCOME after the reply. Of a CONFIRMING entry with an exchange in
flight only the cancelled flag is set; without one its outcome is CANCELLED with its counts as they stand. No other
entry changes, nor anything but the ports, the calendar, the retirement queues and the channels (the finish of a
started part without a start time is log 34's, and that an entry that was CONFIRMING keeps its progress while RETIRING
log 41's; OUTCOME has 01h as the presence byte of a sequence and of a start time, log 10). -/
def Obligations.CancelWithdrawsTheEntry : Prop :=
  ∀ (p : Port) (tag : Byte) (handle : Word16) (s : State), s.takes p (.cancel p tag handle) →
    let h := handle.toNat
    let c : Instr := .cancel p tag handle
    let answer (code : ReplyCode) : Prop := exec c s = .next (s.answered p 0x02 tag code [])
    (s.entry? h = none → answer .noEntry) ∧
    ∀ e, s.entry? h = some e →
      (e.origin ≠ p → answer .notOwner) ∧
      (e.origin = p → e.outcome.isSome = true → answer .finished) ∧
      (e.origin = p → e.outcome = none → e.cancelled = true → answer .ok) ∧
      (e.origin = p → e.outcome = none → e.cancelled = false →
        ∃ t, exec c s = .next t ∧
          replyThenNotices (s.port p).outq (t.port p).outq (.reply 0x02 tag .ok []) ∧
          t.calendar.filter (fun x => x.handle ≠ h) = s.calendar.filter (fun x => x.handle ≠ h) ∧
          { t with
            ports := s.ports, calendar := s.calendar, retirement := s.retirement, channels := s.channels } = s ∧
          let goesOn : Prop :=
            if e.confirmation.isSome then ∃ ph, s.exchangeOf h ph = true
            else ∃ ph, (e.parts.get ph).state = .sending ∧ s.floodOf h ph = true
          let parts : Tri Part :=
            if e.confirmation.isSome then e.parts
            else ⟨partCancelled s e .L1, partCancelled s e .L2, partCancelled s e .L3⟩
          (s.calendar.map (·.handle)).Nodup → (e.confirmation.isSome = true → e.allFinished = true) →
            (∀ ph, t.chan ph =
              if e.confirmation = none ∧ (e.parts.get ph).state = .sending ∧ s.floodOf h ph = false ∨
                  e.confirmation = none ∧ (e.parts.get ph).state = .suspended then
                (s.chan ph).giveUp h
              else s.chan ph) ∧
            (goesOn → t.entry? h = some { e with cancelled := true, parts }) ∧
            (¬ goesOn →
              retires (s.answered p 0x02 tag .ok []) t { e with cancelled := true, parts }))

/-- For each group, at most one calendar entry is in SENDING or CONFIRMING, at every step (R72), the calendar being
coherent with its parts and with the channels, which every step keeps too. -/
def Obligations.GroupLockIsHeldByOneEntry : Prop :=
  ∀ (s t : State), LocksHeldByOne s → step s = .next t → LocksHeldByOne t

/-- At every step the calendar stands in order of activation, within the capacity of the layout, each port within its
quota, and with no two entries of one group and activation (R1, R3, R10); and the lists of work stay within their
bounds: at most 4 activations, ascending, in a field-pending list (R62, R113), 8 ping records in a queue (R90), 8
filters on a split stack (R117, R123), and 4 registration records (R126), with a place for a record in flight, and no
more of them than the windows read of a probe in progress. -/
def Obligations.CalendarAndWorkListsStayBounded : Prop :=
  ∀ (s t : State), step s = .next t →
    (CalendarBounded s → CalendarBounded t) ∧ (WorkBounded s → WorkBounded t)

/-- READ ENTRY, LIST ENTRIES, READ UNIT, READ NEXT, FIND UNIT, READ GROUP, READ LEVEL, READ DISCOVERY and READ SURVEY
(R28, R29, R108, R109, R111, R129, R145, R192) refuse what their rules refuse, and otherwise answer OK with what they
are to show as it stands when they are taken; but for READ NEXT, which moves its port's cursor, they change nothing
(the layouts where the manual leaves them open are log 10's, the end flag of READ NEXT log 17's). -/
def Obligations.TableReadingsAnswer : Prop :=
  (∀ (p : Port) (tag : Byte) (handle : Word16) (s : State), s.takes p (.readEntry p tag handle) →
    exec (.readEntry p tag handle) s =
      .next (match s.entry? handle.toNat with
        | none => s.answered p 0x03 tag .noEntry []
        | some e => s.answered p 0x03 tag .ok e.bytes)) ∧
  (∀ (p : Port) (tag position : Byte) (s : State), s.takes p (.listEntries p tag position) →
    let page := (s.calendar.drop position.toNat).take 8
    exec (.listEntries p tag position) s =
      .next (s.answered p 0x04 tag .ok
        (byteOf s.calendar.length :: byteOf page.length :: page.flatMap Entry.summary))) ∧
  (∀ (p : Port) (tag : Byte) (index : Word16) (s : State), s.takes p (.readUnit p tag index) →
    exec (.readUnit p tag index) s =
      .next (if s.rosterCapacity ≤ index.toNat then s.answered p 0x0F tag .badParameter []
        else s.answered p 0x0F tag .ok (unitReply s.roster (s.unit? index.toNat)))) ∧
  (∀ (p : Port) (tag : Byte) (restart : Bool) (s : State), s.takes p (.readNext p tag restart) →
    let cursor := if restart then 0 else s.readCursors.get p
    let found := (s.roster.filter (fun x => decide (cursor ≤ x.1))).take 4
    ∃ next, exec (.readNext p tag restart) s =
        .next { s.answered p 0x10 tag .ok
            (be 2 s.roster.length ++ byteOf found.length :: found.flatMap (indexedUnit s.roster) ++
              [if s.rosterCapacity ≤ next then 1 else 0]) with
          readCursors := s.readCursors.set p next } ∧
      (found.length < 4 → next = s.rosterCapacity) ∧
      (∀ x, found.length = 4 → found.getLast? = some x → next = x.1 + 1)) ∧
  (∀ (p : Port) (tag : Byte) (address : Address) (s : State), s.takes p (.findUnit p tag address) →
    exec (.findUnit p tag address) s =
      .next (if address = 0 ∨ address = 0xFFFFFFFF then s.answered p 0x11 tag .badParameter []
        else match s.roster.find? (fun x => decide (x.2.address = address)) with
          | none => s.answered p 0x11 tag .noEntry []
          | some x => s.answered p 0x11 tag .ok (be 2 x.1 ++ unitReply s.roster (some x.2)))) ∧
  (∀ (p : Port) (tag group : Byte) (s : State), s.takes p (.readGroup p tag group) →
    exec (.readGroup p tag group) s =
      .next (if 63 < group.toNat then s.answered p 0x13 tag .badParameter []
        else s.answered p 0x13 tag .ok (s.groupBytes group.toNat))) ∧
  (∀ (p : Port) (tag channel : Byte) (s : State), s.takes p (.readLevel p tag channel) →
    exec (.readLevel p tag channel) s =
      .next (match phaseOfChannel channel with
        | none => s.answered p 0x17 tag .badParameter []
        | some ph => s.answered p 0x17 tag .ok ((s.levelRec ph).bytes (s.settings.levels.get ph)))) ∧
  (∀ (p : Port) (tag : Byte) (s : State), s.takes p (.readDiscovery p tag) →
    exec (.readDiscovery p tag) s =
      .next (s.answered p 0x16 tag .ok
        ((s.disc .L1).bytes s.elapsed ++ (s.disc .L2).bytes s.elapsed ++ (s.disc .L3).bytes s.elapsed))) ∧
  ∀ (p : Port) (tag channel : Byte) (s : State), s.takes p (.readSurvey p tag channel) →
    exec (.readSurvey p tag channel) s =
      .next (match phaseOfChannel channel with
        | none => s.answered p 0x23 tag .badParameter []
        | some ph => s.answered p 0x23 tag .ok (s.survey ph).bytes)

/-! ## The roster -/

/-- The places a route parameter names (R195). -/
def routePlaces (a : RouteArg) : List Nat := [a.hop1.toNat, a.hop2.toNat, a.hop3.toNat].take a.count.toNat

/-- The test of R102 for a route parameter, on a phase, for a unit that has this index already or has none. -/
def routePasses (r : Roster) (ph : Phase) (own : Option Nat) (a : RouteArg) : Prop :=
  a.count.toNat = 0 ∨
    (a.count.toNat ≤ 3 ∧
      ∃ front last v, routePlaces a = front ++ [last] ∧ unitAt r last = some v ∧ v.relayCapable = true ∧ v.phase = ph ∧
        v.route = front ∧ ∀ i, own = some i → i ∉ routePlaces a)

/-- The groups a groups-list parameter names (R195). -/
def groupPlaces (a : GroupsArg) : List Nat := [a.g1.toNat, a.g2.toNat, a.g3.toNat, a.g4.toNat].take a.count.toNat

/-- The limits of R105 on a groups list. -/
def groupsPass (a : GroupsArg) : Prop :=
  a.count.toNat ≤ 4 ∧ (∀ g ∈ groupPlaces a, 1 ≤ g ∧ g ≤ 63) ∧ (groupPlaces a).Nodup

/-- ADD UNIT is refused by the first test of R105 that fails, BAD PARAMETER, DUPLICATE, BAD ROUTE, FULL, changing
nothing else; otherwise the unit is recorded at the lowest free index with what the command gives it, ACTIVE, in
ROBUST, with no estimate, silence 0, never heard and not pinned; the reply carries the index and only notices follow
it. No other unit changes, nor any counter or field-pending list of a group, nor anything but the ports, the roster,
the groups' figures and, where plans move, the calendar. -/
def Obligations.AddUnitRecordsAtTheLowestFreeIndex : Prop :=
  ∀ (p : Port) (tag : Byte) (a : AddUnitArgs) (s : State), RosterLawful s → s.takes p (.addUnit p tag a) →
    let c : Instr := .addUnit p tag a
    let refused (code : ReplyCode) : Prop := exec c s = .next (s.answered p 0x0C tag code [])
    let valid : Prop := a.address ≠ 0 ∧ a.address ≠ 0xFFFFFFFF ∧ a.phase.toNat ≤ 2 ∧ groupsPass a.groups
    let known : Prop := ∃ x ∈ s.roster, x.2.address = a.address
    let routed (ph : Phase) : Prop := routePasses s.roster ph none a.route
    (¬ valid → refused .badParameter) ∧
    (valid → known → refused .duplicate) ∧
    ∀ ph, phaseByte ph = a.phase →
      (valid → ¬ known → ¬ routed ph → refused .badRoute) ∧
      (valid → ¬ known → routed ph → (∀ i < s.rosterCapacity, (s.unit? i).isSome = true) → refused .full) ∧
      (∀ i, valid → ¬ known → routed ph → i < s.rosterCapacity → s.unit? i = none →
        (∀ j < i, (s.unit? j).isSome = true) →
        ∃ t, exec c s = .next t ∧
          t.unit? i = some
            { address := a.address, phase := ph, groups := groupPlaces a.groups, relayCapable := a.relayCapable,
              route := routePlaces a.route, state := .active, pinned := false, margin := 0, samples := 0,
              mode := .robust, silence := 0, lastHeard := none } ∧
          (∀ j ≠ i, t.unit? j = s.unit? j) ∧
          replyThenNotices (s.port p).outq (t.port p).outq (.reply 0x0C tag .ok (be 2 i)) ∧
          t.groups.map (fun g => (g.sequence, g.fieldPending)) = s.groups.map (fun g => (g.sequence, g.fieldPending)) ∧
          { t with
            ports := s.ports, roster := s.roster, groups := s.groups, calendar := s.calendar,
            retirement := s.retirement } = s)

/-- A unit once the relay at an index has been withdrawn (R103): a dependent loses its route and is LOST. -/
def withdrawnFrom (i : Nat) (u : UnitRec) : UnitRec := if i ∈ u.route then { u with route := [], state := .lost } else u

/-- The UNIT LOST notices of the reachable units a withdrawn relay takes with it, with the cause route, in ascending
order of index (R101, R103, R196). -/
def lostNotices (r : Roster) (i : Nat) : List Item :=
  (r.filter (fun x => x.1 ≠ i ∧ i ∈ x.2.route ∧ x.2.state ≠ .lost)).map (fun x =>
    .notice .unitLost (be 2 x.1 ++ be32 x.2.address ++ [phaseByte x.2.phase, 1]))

/-- The port's out-queue went on with its reply, where it is the sender's, and then these notices, where all found
room. -/
def repliedThen (s t : State) (p : Port) (reply : Item) (notices : List Item) : Prop :=
  ∀ q, let first := if q = p then [reply] else []
    (s.port q).outq.length + first.length + notices.length ≤ 16 →
    noticeCount (s.port q).outq + notices.length ≤ 15 →
      ∃ more, (t.port q).outq = (s.port q).outq ++ first ++ notices ++ more

/-- EDIT UNIT and RETIRE UNIT. EDIT UNIT is refused by the first test of R106 that fails, BAD PARAMETER, NO ENTRY, BAD
ROUTE; otherwise every given field is written, the unit's state staying, and where its route has changed or its
relay-capable flag is cleared, its dependents, and no other unit, lose their routes and are LOST (R103). RETIRE UNIT
is refused BAD PARAMETER or NO ENTRY; otherwise the index is free, its dependents lose their routes, and the reply
carries the address (R107). For every unit that was reachable and is LOST by it UNIT LOST follows the reply (R101),
before any other notice of the event (log 45), queued where all of them find room. -/
def Obligations.EditsAndRetirementsReachDependents : Prop :=
  (∀ (p : Port) (tag : Byte) (a : EditUnitArgs) (s : State), RosterLawful s → s.takes p (.editUnit p tag a) →
    let c : Instr := .editUnit p tag a
    let i := a.index.toNat
    let refused (code : ReplyCode) : Prop := exec c s = .next (s.answered p 0x0D tag code [])
    let valid : Prop := i < s.rosterCapacity ∧ ∀ g, a.groups = some g → groupsPass g
    (¬ valid → refused .badParameter) ∧
    (valid → s.unit? i = none → refused .noEntry) ∧
    ∀ u, s.unit? i = some u →
      let routed : Prop := ∀ r, a.route = some r → routePasses s.roster u.phase (some i) r
      (valid → ¬ routed → refused .badRoute) ∧
      (valid → routed →
        let v : UnitRec :=
          { u with
            route := (a.route.map routePlaces).getD u.route, groups := (a.groups.map groupPlaces).getD u.groups,
            pinned := a.pinned.getD u.pinned, relayCapable := a.relayCapable.getD u.relayCapable }
        let withdrawn : Prop := v.route ≠ u.route ∨ (u.relayCapable = true ∧ v.relayCapable = false)
        ∃ t, exec c s = .next t ∧ t.unit? i = some v ∧
          (withdrawn → (∀ j ≠ i, t.unit? j = (s.unit? j).map (withdrawnFrom i)) ∧
            repliedThen s t p (.reply 0x0D tag .ok []) (lostNotices s.roster i)) ∧
          (¬ withdrawn → ∀ j ≠ i, t.unit? j = s.unit? j) ∧
          replyThenNotices (s.port p).outq (t.port p).outq (.reply 0x0D tag .ok []) ∧
          { t with
            ports := s.ports, roster := s.roster, groups := s.groups, calendar := s.calendar,
            retirement := s.retirement } = s)) ∧
  ∀ (p : Port) (tag : Byte) (index : Word16) (s : State), RosterLawful s → s.takes p (.retireUnit p tag index) →
    let c : Instr := .retireUnit p tag index
    let i := index.toNat
    (s.rosterCapacity ≤ i → exec c s = .next (s.answered p 0x0E tag .badParameter [])) ∧
    (i < s.rosterCapacity → s.unit? i = none → exec c s = .next (s.answered p 0x0E tag .noEntry [])) ∧
    ∀ u, i < s.rosterCapacity → s.unit? i = some u →
      ∃ t, exec c s = .next t ∧ t.unit? i = none ∧
        (∀ j ≠ i, t.unit? j = (s.unit? j).map (withdrawnFrom i)) ∧
        repliedThen s t p (.reply 0x0E tag .ok (be32 u.address)) (lostNotices s.roster i) ∧
        replyThenNotices (s.port p).outq (t.port p).outq (.reply 0x0E tag .ok (be32 u.address)) ∧
        { t with
          ports := s.ports, roster := s.roster, groups := s.groups, calendar := s.calendar,
          retirement := s.retirement } = s

/-- PING UNIT is refused by the first test of R90 that fails, BAD PARAMETER, NO ENTRY, BUSY; otherwise the reply
carries the channel of the unit's phase and a record joins the end of that channel's queue, QUEUED, with the unit's
address, and nothing else changes. On a HALTED channel the oldest QUEUED record, its own where no other is, is SILENT
at once (R94): where the list of its port is empty and the out-queue has room, PING RESULT of the oldest record HELD
for that port follows the reply and that record has left the queue; else the record is HELD in its place and its
notice is last of the list (R172). A PING RESULT that is SILENT carries nothing after the result, and the others are
in the layout of log 10 too. -/
def Obligations.PingUnitQueuesARecord : Prop :=
  ∀ (p : Port) (tag : Byte) (index : Word16) (register : Bool) (s : State),
    s.takes p (.pingUnit p tag index register) →
    let c : Instr := .pingUnit p tag index register
    let i := index.toNat
    let refused (code : ReplyCode) : Prop := exec c s = .next (s.answered p 0x12 tag code [])
    (s.rosterCapacity ≤ i → refused .badParameter) ∧
    (i < s.rosterCapacity → s.unit? i = none → refused .noEntry) ∧
    ∀ u, i < s.rosterCapacity → s.unit? i = some u →
      let q := s.pingQueue u.phase
      let r : PingRec :=
        { origin := p, tag, index := i, address := u.address, register, state := .queued, dropped := false }
      let t := s.answered p 0x12 tag .ok [channelByte u.phase]
      (8 ≤ q.length → refused .busy) ∧
      (q.length < 8 → (s.chan u.phase).state ≠ .halted →
        exec c s = .next { t with pings := s.pings.set u.phase (q ++ [r]) }) ∧
      (q.length < 8 → (s.chan u.phase).state = .halted → (∀ x ∈ q, x.state ≠ .queued ∧ isHeldFor p x = false) →
        exec c s =
          .next (if (t.port p).held = [] ∧ (t.port p).outq.length < 16 ∧ noticeCount (t.port p).outq < 15 then
            t.pushItem p (.notice .pingResult ([tag, channelByte u.phase] ++ be 2 i ++ be32 u.address ++ [1]))
          else
            State.modPort { t with pings := s.pings.set u.phase (q ++ [{ r with state := .held .silent }]) } p
              (fun x => { x with held := x.held ++ [.ping u.phase] }))) ∧
      ∀ front z back, q.length < 8 → (s.chan u.phase).state = .halted → q ++ [r] = front ++ z :: back →
        (∀ x ∈ front, x.state ≠ .queued) → z.state = .queued →
        let marked := front ++ { z with state := .held .silent } :: back
        let o := z.origin
        let room : Prop := (t.port o).held = [] ∧ (t.port o).outq.length < 16 ∧ noticeCount (t.port o).outq < 15
        (¬ room →
          exec c s =
            .next (State.modPort { t with pings := s.pings.set u.phase marked } o
              (fun x => { x with held := x.held ++ [.ping u.phase] }))) ∧
          ∀ before w result after, room → marked = before ++ w :: after →
            (∀ x ∈ before, isHeldFor o x = false) → w.origin = o → w.state = .held result →
            exec c s =
              .next { t.pushItem o (pingNotice u.phase w result) with
                pings := s.pings.set u.phase (before ++ after) }

/-- Every step keeps the roster's law: indices and addresses held once, addresses valid, every index below the
capacity, and every route within R102; and so do the images of the store (R96, R97, R102, R103, R185). -/
def Obligations.RosterStaysLawful : Prop :=
  ∀ (s t : State), RosterLawful s → step s = .next t → RosterLawful t

/-- At every step the derived figures of all 64 groups are those of the roster as it then stands (R114, R115), and in
a calendar that holds each handle once, as it goes on to do (R2), every WAITING and READY part holds the plan of the
figures, the settings and the planning frequency as they then stand (R14, R40 to R42). -/
def Obligations.FiguresAndPlansStayCurrent : Prop :=
  ∀ (s t : State), FiguresCurrent s → step s = .next t →
    FiguresCurrent t ∧
      ((s.calendar.map (·.handle)).Nodup → PlansCurrent s → (t.calendar.map (·.handle)).Nodup ∧ PlansCurrent t)

/-! ## Discovery -/

/-- START DISCOVERY and STOP DISCOVERY act on all three channels and are answered OK (R118): START turns a channel
that is OFF to PROBING from DIRECT with the filter of length 0 on its stack; STOP turns a PROBING channel OFF, its
origin absent, its stack empty and its probe in flight marked stopped, and a RESTING one OFF with its rest end absent;
no other channel changes. At its rest end a RESTING channel begins a cycle as START begins one (R128), and before it
nothing happens. -/
def Obligations.DiscoveryStartsStopsAndRests : Prop :=
  (∀ (p : Port) (tag : Byte) (s : State), s.takes p (.startDiscovery p tag) →
    ∃ t, exec (.startDiscovery p tag) s = .next t ∧
      (∀ ph, t.disc ph =
        if (s.disc ph).state = .off then
          { s.disc ph with state := .probing, origin := some .direct, stack := [⟨0, 0⟩], restEnd := none }
        else s.disc ph) ∧
      { t with discovery := s.discovery } = s.answered p 0x14 tag .ok []) ∧
  (∀ (p : Port) (tag : Byte) (s : State), s.takes p (.stopDiscovery p tag) →
    ∃ t, exec (.stopDiscovery p tag) s = .next t ∧
      (∀ ph, t.disc ph =
        if (s.disc ph).state = .probing then
          { s.disc ph with
            state := .off, origin := none, stack := []
            probe := (s.disc ph).probe.map (fun x => { x with stopped := true }) }
        else if (s.disc ph).state = .resting then { s.disc ph with state := .off, restEnd := none }
        else s.disc ph) ∧
      { t with discovery := s.discovery } = s.answered p 0x15 tag .ok []) ∧
  ∀ (ph : Phase) (s : State),
    let ended : Prop := (s.disc ph).state = .resting ∧ ∃ x, (s.disc ph).restEnd = some x ∧ x ≤ s.elapsed
    (ended →
      ∃ t, exec (.restEnd ph) s = .next t ∧
        t.disc ph =
          { s.disc ph with state := .probing, origin := some .direct, stack := [⟨0, 0⟩], restEnd := none } ∧
        (∀ q ≠ ph, t.disc q = s.disc q) ∧ { t with discovery := s.discovery } = s) ∧
    (¬ ended → exec (.restEnd ph) s = .next s)

/-- A discovery record once its probe's last window has been read: no probe is in flight, and where the channel is
PROBING and its stack is empty, the origin advances to the lowest index above it that is ACTIVE, relay-capable, on the
phase and with a route of at most 2, with the filter of length 0 (R119), or the cycle ends and the channel rests
(R128). -/
def probeEnded (t : State) (ph : Phase) (d : Discovery) : Discovery :=
  let first := match d.origin with
    | some (.relay i _) => i + 1
    | _ => 0
  let serves (x : Nat × UnitRec) : Bool :=
    decide (first ≤ x.1 ∧ x.2.state = .active ∧ x.2.relayCapable = true ∧ x.2.phase = ph ∧ x.2.route.length ≤ 2)
  if d.state = .probing ∧ d.stack = [] then
    match t.roster.find? serves with
    | some x => { d with probe := none, origin := some (.relay x.1 x.2.address), stack := [⟨0, 0⟩] }
    | none =>
        { d with
          probe := none, state := .resting, origin := none
          restEnd := some (t.elapsed + t.settings.probePeriod * 1000) }
  else { d with probe := none }

/-- The end of a probe's reply window (R123 to R125), from what was heard in it, one frame or several. The channel goes
on to its next window; at the last, with a line not RUNNING and no halt pending, the probe ends and the channel is
IDLE. A frame is taken that is a PROBE REPLY and began in the window (R121). Every window is one of three. EMPTY, which
is nothing heard but frames in transit, or replies taken of which each has an address that is invalid or disagrees
with the filter or the window (with something else heard or not, log 18): nothing else changes. COLLISION, which is no
reply taken and something heard that is not in transit (log 18): of a stopped probe, nothing; of a filter that can be
split, with a place on the stack, the filter extended by the window is pushed; else split overflow rises. GOOD, by the
first reply taken that agrees, whatever else was heard (log 18 where several are taken). From an address the roster
does not hold: the unit is recorded at the lowest free index with its first sample, last heard the second its reply
ended in (log 29), joins the registration list, and UNIT FOUND goes to each port with room, before any other notice of
the event (log 45), with a set relay-capable flag as 01h (log 10); with no free index the roster stays and fault ROSTER
FULL is posted with the channel and the address, filling an absent record, raising its counter and the generation by
one, and at the last window of a channel with a halt pending CHANNEL HALT is posted after it (R59). From an address it
holds: that unit is ACTIVE, silent 0 times, has taken the sample, keeps its last heard while the clock is UNSET (log
48), and joins the list; pinned, or on a route through itself, it keeps its route and phase, and otherwise takes those
of the probe, or loses its route and is LOST where they break the law (R127). -/
def Obligations.ProbeWindowsRecordWhatAnswers : Prop :=
  ∀ (ph : Phase) (heard : List WindowFrame) (s : State) (r : ProbeRun) (q : ProbeInFlight),
    RosterLawful s → (s.chan ph).work = some (.probe r) → (s.disc ph).probe = some q →
    (s.chan ph).state = .listening → r.next ≤ 3 → windowEnd r.outSpan r.window r.gap r.next ≤ r.slots →
    let c : Instr := .probeWindowEnd ph heard
    let code := s.identity.code
    let d := s.disc ph
    let taken (f : WindowFrame) (x : ProbeReplyReading) : Prop :=
      2 + f.frame.bytes.length + f.slots ≤ r.window ∧ readProbeReply code f.frame.bytes = some x
    let good (x : ProbeReplyReading) : Prop :=
      x.address ≠ 0 ∧ x.address ≠ 0xFFFFFFFF ∧ (x.address ^^^ q.filter.value) >>> (32 - q.filter.length) = 0 ∧
        (if q.filter.length = 32 then r.next = 0
          else ((x.address >>> (30 - q.filter.length)) &&& 3).toNat = r.next)
    let goesOn (t : State) (d : Discovery) : Prop :=
      (r.next < 3 →
        t.disc ph = d ∧ t.chan ph = { s.chan ph with work := some (.probe { r with next := r.next + 1 }) }) ∧
      (r.next = 3 → (s.chan ph).haltPending = false → s.line ≠ .running →
        t.disc ph = probeEnded t ph d ∧
          t.chan ph = { s.chan ph with state := .idle, work := none, gapLeft := none, quiet := true })
    let unmoved (t : State) (d : Discovery) : Prop := goesOn t d ∧ t.roster = s.roster
    ((∀ f ∈ heard, ∀ x, taken f x → ¬ good x) →
      ((∃ f ∈ heard, ∃ x, taken f x) ∨ ∀ f ∈ heard, inTransit code f.frame.bytes = true) →
      ∃ t, exec c s = .next t ∧ unmoved t d ∧ (r.next < 3 → { t with channels := s.channels } = s)) ∧
    ((∀ f ∈ heard, ∀ x, ¬ taken f x) → (∃ f ∈ heard, inTransit code f.frame.bytes = false) →
      ∃ t, exec c s = .next t ∧
        (r.next < 3 → { t with channels := s.channels, discovery := s.discovery } = s) ∧
        unmoved t
          (if q.stopped then d
          else if q.filter.length < 32 ∧ d.stack.length < 8 then
            { d with
              stack :=
                { length := q.filter.length + 2
                  value := q.filter.value ||| (BitVec.ofNat 32 r.next <<< (30 - q.filter.length)) } :: d.stack }
          else { d with splitOverflow := saturatingSucc 65535 d.splitOverflow })) ∧
    ∀ (front back : List WindowFrame) (f : WindowFrame) (x : ProbeReplyReading), heard = front ++ f :: back →
      (∀ y ∈ front, ∀ z, taken y z → ¬ good z) → taken f x → good x →
      let sample := min x.downlink (if q.route = [] then marginOf f.frame.uplink else x.hopUp)
      let second := if s.clock.isSet then some ((s.clock.millis - f.ago) / 1000) else none
      let listed (i : Nat) : Discovery := { d with registration := d.registration ++ [(i, x.address)] }
      (∀ i, (∀ y ∈ s.roster, y.2.address ≠ x.address) → i < s.rosterCapacity → s.unit? i = none →
        (∀ j < i, (s.unit? j).isSome = true) →
        ∃ t u, exec c s = .next t ∧ goesOn t (listed i) ∧ t.unit? i = some u ∧ (∀ j ≠ i, t.unit? j = s.unit? j) ∧
          (u.address = x.address ∧ u.phase = ph ∧ u.groups = x.groups ∧ u.relayCapable = x.relayCapable ∧
            u.pinned = false ∧ u.silence = 0 ∧ u.margin = sample ∧ u.samples = 1 ∧ u.lastHeard = second ∧
            u.mode = (if sample < 56 then .robust else if sample < 96 then .normal else .fast)) ∧
          (if routeLawful s.roster ph none q.route then u.route = q.route ∧ u.state = .active
            else u.route = [] ∧ u.state = .lost) ∧
          ∀ p : Port, (s.port p).outq.length < 16 → noticeCount (s.port p).outq < 15 →
            ∃ more, (t.port p).outq = (s.port p).outq ++
              .notice .unitFound (be 2 i ++ be32 u.address ++
                [phaseByte u.phase, BitVec.ofNat 8 u.route.length, flagByte u.relayCapable] ++
                groupListBytes u.groups) :: more) ∧
      ((∀ y ∈ s.roster, y.2.address ≠ x.address) → (∀ i < s.rosterCapacity, (s.unit? i).isSome = true) →
        let counters := s.faults.counters.set 4 (saturatingSucc 255 (s.faults.counters.getD 4 0))
        let generation := wrappingSucc 65535 s.faults.generation
        ∃ t, exec c s = .next t ∧ unmoved t d ∧
          t.faults.record = s.faults.record.or (some (.rosterFull ph x.address, s.faultTime)) ∧
          (r.next < 3 ∨ (s.chan ph).haltPending = false →
            t.faults.counters = counters ∧ t.faults.generation = generation) ∧
          (r.next = 3 → (s.chan ph).haltPending = true →
            t.faults.counters = counters.set 7 (saturatingSucc 255 (counters.getD 7 0)) ∧
              t.faults.generation = wrappingSucc 65535 generation)) ∧
      ∀ i u, s.unit? i = some u → u.address = x.address →
        ∃ t v, exec c s = .next t ∧ goesOn t (listed i) ∧ t.unit? i = some v ∧
          v.address = u.address ∧ v.groups = u.groups ∧ v.relayCapable = u.relayCapable ∧ v.pinned = u.pinned ∧
          v.silence = 0 ∧ v.margin = (u.takeSample false sample).margin ∧
          v.samples = (u.takeSample false sample).samples ∧ v.mode = (u.takeSample false sample).mode ∧
          v.lastHeard = second.or u.lastHeard ∧
          (u.pinned = true ∨ i ∈ q.route → v.state = .active ∧ v.route = u.route ∧ v.phase = u.phase) ∧
          (u.pinned = false → i ∉ q.route → v.phase = ph ∧
            (if routeLawful s.roster ph (some i) q.route then v.state = .active ∧ v.route = q.route
              else v.state = .lost ∧ v.route = [])) ∧
          ∀ j ≠ i, t.unit? j =
            if v.route = u.route ∧ v.phase = u.phase then s.unit? j else (s.unit? j).map (withdrawnFrom i)

/-! ## Mains timing and the calendar clock -/

/-- SET TIME (R164, R18, R113). A millisecond count above 999 is refused BAD PARAMETER. Otherwise the clock is SET at
the value given, and the reply, with notices alone after it, carries the value and the state before, SET as 0 (log
10). Every entry that has a sequence is time-stepped; no entry whose cut-off the new second has reached holds a part
that has not started or is SUSPENDED (the cut-off flag is log 12's); the field-pending items the new second has
reached leave. f_plan, the excursion, the sequences and all else but the calendar and what its cut-offs give back to
the ports and channels stay. -/
def Obligations.SetTimeStepsTheClock : Prop :=
  ∀ (p : Port) (tag : Byte) (seconds : Word32) (millis : Word16) (s : State),
    (s.calendar.map (·.handle)).Nodup → s.takes p (.setTime p tag seconds millis) →
    let c : Instr := .setTime p tag seconds millis
    (999 < millis.toNat → exec c s = .next (s.answered p 0x19 tag .badParameter [])) ∧
    (millis.toNat ≤ 999 →
      ∃ t, exec c s = .next t ∧
        t.clock = { isSet := true, millis := seconds.toNat * 1000 + millis.toNat } ∧
        replyThenNotices (s.port p).outq (t.port p).outq
          (.reply 0x19 tag .ok
            (be 4 (s.clock.millis / 1000) ++ be 2 (s.clock.millis % 1000) ++ [if s.clock.isSet then 0 else 1])) ∧
        (∀ e ∈ t.calendar, e.sequence.isSome = true → e.timeStepped = true) ∧
        (∀ e ∈ t.calendar, e.cutOff ≤ seconds.toNat → e.cutOffReached = true ∧
          ∀ ph, (e.parts.get ph).state = .sending ∨ (e.parts.get ph).state = .finished) ∧
        t.groups = s.groups.map (fun g =>
          { g with fieldPending := g.fieldPending.filter (fun x => decide (seconds.toNat < x)) }) ∧
        { t with
          ports := s.ports, clock := s.clock, calendar := s.calendar, retirement := s.retirement, groups := s.groups,
          channels := s.channels } = s)

/-- ZERO_CROSSING on a phase (R156, R157), `d` µs after its last accepted crossing. The first is accepted without an
interval; one below 7,000 µs changes nothing. While the phase is ABSENT, an in-range one joins the history and the
run, and the eighth in a row declares the phase PRESENT; a long one empties both. While it is PRESENT, and the
crossing comes within 40 ms, the record takes it, an in-range interval joining a history of at most 16; the channel
counts it, its work and its gap being one slot on (shown where the channel starts no work at the crossing). -/
def Obligations.ZeroCrossingsAreJudgedByTheirInterval : Prop :=
  ∀ (ph : Phase) (micros : Nat) (noise : Int) (bufferBad : Bool) (s : State),
    let c : Instr := .zeroCrossing ph micros noise bufferBad
    let instant := s.elapsed * 1000 + micros
    let r := s.phaseRec ph
    let stamp : Crossing := { instant, stamp := s.clock.millis }
    let record (x : PhaseRec) : State := { s with mains := s.mains.set ph x }
    (r.lastCrossing = none → exec c s = .next (record { r with lastCrossing := some stamp })) ∧
    ∀ last, r.lastCrossing = some last →
      let d := instant - last.instant
      let history := (if 16 ≤ r.history.length then r.history.tail else r.history) ++ [d]
      (d < 7000 → exec c s = .next s) ∧
      (r.present = false → 7000 ≤ d → d ≤ 12000 → r.run + 1 ≠ 8 →
        exec c s = .next (record { r with lastCrossing := some stamp, run := r.run + 1, history })) ∧
      (r.present = false → 7000 ≤ d → d ≤ 12000 → r.run + 1 = 8 →
        ∃ t, exec c s = .next t ∧
          t.phaseRec ph = { present := true, lastCrossing := some stamp, run := 8, history } ∧
          ((s.chan ph).state = .halted → (t.chan ph).state = .halted) ∧
          ((s.chan ph).state ≠ .halted → s.line ≠ .running → (t.chan ph).state = .idle)) ∧
      (r.present = false → 12000 < d →
        exec c s = .next (record { r with lastCrossing := some stamp, run := 0, history := [] })) ∧
      (r.present = true → 7000 ≤ d → d ≤ 40000 →
        ∃ t, exec c s = .next t ∧
          t.phaseRec ph = { r with lastCrossing := some stamp, history := if d ≤ 12000 then history else r.history } ∧
          (s.line ≠ .running ∨ (s.chan ph).state ≠ .idle →
            t.chan ph =
              { s.chan ph with
                crossings := (s.chan ph).crossings + 1, work := (s.chan ph).work.map Work.endSlot
                gapLeft := (s.chan ph).gapLeft.map (· - 1), bufferBad
                quiet := (s.chan ph).state = .idle ∨ (s.chan ph).state = .halted } ∧
            { t with mains := s.mains, channels := s.channels, ports := s.ports, surveys := s.surveys } = s))

/-- PHASE_LOSS (R158, R57) takes effect once 40 ms have passed since the last crossing of a PRESENT phase, and not
before. The phase record is that of start-up and PHASE LOSS is counted; a HALTED channel stays as it is but for its
quiet slot, and another is OFFLINE without work and without a gap. A flood whose entry is neither cancelled nor at its
cut-off (log 12's flag) leaves the calendar and the open part as they were; a ping in flight is QUEUED again, a
registering ping is first of its list, a probe's filter is back on its stack unless it is stopped or the stack is
full. The suspended part and the roster stay. Shown for a channel with no halt pending. -/
def Obligations.PhaseLossAbandonsTheWork : Prop :=
  ∀ (ph : Phase) (s : State),
    let r := s.phaseRec ph
    let lost : Prop := r.present = true ∧ ∃ c, r.lastCrossing = some c ∧ c.instant + 40000 ≤ s.elapsed * 1000
    (¬ lost → exec (.phaseLoss ph) s = .next s) ∧
    (lost → (s.chan ph).haltPending = false →
      ∃ t, exec (.phaseLoss ph) s = .next t ∧
        t.phaseRec ph = { present := false, lastCrossing := none, run := 0, history := [] } ∧
        t.faults.counters = s.faults.counters.set 5 (saturatingSucc 255 (s.faults.counters.getD 5 0)) ∧
        t.faults.generation = wrappingSucc 65535 s.faults.generation ∧
        ((s.chan ph).state = .halted → t.chan ph = { s.chan ph with absentSinceFlood := true, quiet := false }) ∧
        ((s.chan ph).state ≠ .halted →
          t.chan ph =
              { s.chan ph with
                state := .offline, work := none, gapLeft := none, absentSinceFlood := true, quiet := false
                openPart := (t.chan ph).openPart } ∧
          (∀ f h e, (s.chan ph).work = some (.flood f) → f.entry = some h → s.entry? h = some e →
            e.cutOffReached = false → e.cancelled = false →
            t.calendar = s.calendar ∧ (t.chan ph).openPart = (s.chan ph).openPart) ∧
          (∀ x front z back, (s.chan ph).work = some (.exchange x) → x.owner = .ping →
            s.pingQueue ph = front ++ z :: back → (∀ y ∈ front, y.state ≠ .inFlight) → z.state = .inFlight →
            z.dropped = false → t.pingQueue ph = front ++ { z with state := .queued } :: back) ∧
          (∀ x, (s.chan ph).work = some (.exchange x) → x.owner = .registration →
            t.disc ph = { s.disc ph with registration := (x.index, x.address) :: (s.disc ph).registration }) ∧
          (∀ x q, (s.chan ph).work = some (.probe x) → (s.disc ph).probe = some q →
            q.stopped = false → (s.disc ph).stack.length < 8 →
            t.disc ph = { s.disc ph with probe := none, stack := q.filter :: (s.disc ph).stack })) ∧
        { t with
          ports := s.ports, mains := s.mains, channels := s.channels, faults := s.faults, calendar := s.calendar,
          retirement := s.retirement, pings := s.pings, discovery := s.discovery, line := s.line } = s)

/-- SECOND_BOUNDARY (R160, R161, R163, R113, R16). Once the clock has reached its last second it changes nothing.
Otherwise the clock stands at the start of the next second, the rest of the present one having passed (log 2). f_plan
is the measured frequency of the lowest-numbered PRESENT phase, held within 4500 to 6500 cHz, and the nominal setting
without one; the excursion flag is set exactly where that frequency is out of range, and FREQUENCY RANGE is counted
exactly when the flag becomes set. Every WAITING and READY part holds the plan of the frequency the boundary set
(R40); no entry whose cut-off the new second is holds a part that has not started or is SUSPENDED (the cut-off flag is
log 12's); the field-pending items of the new second leave. -/
def Obligations.SecondBoundaryRefreshesAndCutsOff : Prop :=
  ∀ s : State, (s.calendar.map (·.handle)).Nodup →
    let second := s.clock.millis / 1000 + 1
    let measured (r : PhaseRec) : Nat :=
      let total := r.history.foldl (· + ·) 0
      (2 * (r.history.length * 50000000) + total) / (2 * total)
    let reference : Option Nat :=
      if s.mains.l1.present then some (measured s.mains.l1) else if s.mains.l2.present then some (measured s.mains.l2)
      else if s.mains.l3.present then some (measured s.mains.l3) else none
    let out : Bool := reference.any (fun f => decide (f < 4500 ∨ 6500 < f))
    (4294967295 < second → exec .secondBoundary s = .next s) ∧
    (second ≤ 4294967295 →
      ∃ t, exec .secondBoundary s = .next t ∧
        t.clock = { isSet := s.clock.isSet, millis := second * 1000 } ∧
        t.fPlan = (match reference with
          | some f => max 4500 (min 6500 f)
          | none => s.settings.nominal) ∧
        t.excursion = out ∧
        (if out = true ∧ s.excursion = false then
          t.faults.counters = s.faults.counters.set 6 (saturatingSucc 255 (s.faults.counters.getD 6 0))
        else t.faults = s.faults) ∧
        PlansCurrent t ∧
        (∀ e ∈ t.calendar, e.cutOff = second → e.cutOffReached = true ∧
          ∀ ph, (e.parts.get ph).state = .sending ∨ (e.parts.get ph).state = .finished) ∧
        t.groups = s.groups.map (fun g =>
          { g with fieldPending := g.fieldPending.filter (fun x => decide (x ≠ second)) }) ∧
        { t with
          elapsed := s.elapsed, clock := s.clock, fPlan := s.fPlan, excursion := s.excursion, faults := s.faults,
          ports := s.ports, calendar := s.calendar, retirement := s.retirement, groups := s.groups,
          channels := s.channels } = s)

/-- ES_REACHED (R15): a WAITING part whose ES the clock has reached becomes READY where it is needed, and where it is
not, FINISHED NOT NEEDED, PART FINISHED being offered to the origin of an entry that is not cancelled. If it was the
last part, the entry is CONFIRMING where it confirms and a repeat was sent, if that leaves anything to confirm, and
else its outcome is decided (R9, R23). LS_REACHED (R74): once the clock has reached the LS of an entry's READY part,
every other CONFIRMING entry of the group that is neither cancelled nor cut short already (log 13) takes the cut-short
flag. With an exchange of it in flight it stays so; without one the members not yet reached are counted on each phase
and its outcome is decided. No other entry changes, nor anything but the ports, the calendar and the retirement
queues. Neither event does anything before its instant. (Outcomes follow R23's table as log 14 reads it. An entry that
retires keeps its progress, log 41, and its records without a current unit the fields of the last, log 42; a record
ended early has its cursor at the end and no current unit, log 47; OUTCOME has 01h as the presence byte of a sequence
and of a start time, log 10.) -/
def Obligations.EarliestAndLatestStartsAreReached : Prop :=
  (∀ (h : Nat) (ph : Phase) (s : State) (e : Entry), s.entry? h = some e → (e.parts.get ph).state = .waiting →
    let c : Instr := .esReached h ph
    let last : Prop := ∀ q ≠ ph, (e.parts.get q).state = .finished
    let finished : Part := { e.parts.get ph with state := .finished, finish := some .notNeeded, finishNeeded := false }
    let notNeeded : Prop := (e.parts.get ph).es ≤ s.clock.millis ∧ (s.figures e.group ph).members = 0
    let u := s.modPart h ph (fun _ => finished)
    let noted :=
      if e.cancelled then u
      else u.offer e.origin
        (.notice .partFinished (be 2 h ++ [e.tag, phaseByte ph, finishByte .notNeeded, byteOf (e.parts.get ph).sent]))
    (s.clock.millis < (e.parts.get ph).es → exec c s = .next s) ∧
    ((e.parts.get ph).es ≤ s.clock.millis → 0 < (s.figures e.group ph).members →
      exec c s = .next (s.modPart h ph (fun x => { x with state := .ready }))) ∧
    (notNeeded → ¬ last → (s.calendar.map (·.handle)).Nodup → exec c s = .next noted) ∧
    (notNeeded → last → (s.calendar.map (·.handle)).Nodup → e.outcome = none → e.confirmation = none →
      let ended : Entry := { e with parts := e.parts.set ph finished }
      ∃ t, exec c s = .next t ∧ { t with ports := s.ports, calendar := s.calendar, retirement := s.retirement } = s ∧
        (e.confirm = true → e.cancelled = false → (∃ q, 0 < (e.parts.get q).sent) →
          t.entry? h = none ∨ ∃ x, t.entry? h = some x ∧ x.parts = ended.parts ∧ x.confirmation.isSome = true) ∧
        (e.confirm = false ∨ e.cancelled = true ∨ (∀ q, (e.parts.get q).sent = 0) → retires noted t ended))) ∧
  ∀ (h : Nat) (ph : Phase) (s : State) (e : Entry), s.entry? h = some e → (e.parts.get ph).state = .ready →
    (s.clock.millis < (e.parts.get ph).ls → exec (.lsReached h ph) s = .next s) ∧
    ((e.parts.get ph).ls ≤ s.clock.millis → (s.calendar.map (·.handle)).Nodup →
      ∃ t, exec (.lsReached h ph) s = .next t ∧
        { t with ports := s.ports, calendar := s.calendar, retirement := s.retirement } = s ∧
        ∀ x ∈ s.calendar,
          let reached : Prop :=
            x.handle ≠ h ∧ x.group = e.group ∧ x.confirming = true ∧ x.cancelled = false ∧ x.confirmStopped = false
          let cut : Entry := { x with cutShort := true, confirmStopped := true }
          (¬ reached → t.entry? x.handle = some x) ∧
          (reached → (∃ k, s.exchangeOf x.handle k = true) → t.entry? x.handle = some cut) ∧
          ∀ p, reached → (∀ k, s.exchangeOf x.handle k = false) → x.confirmation = some p →
            hasRetired t
              { cut with
                confirmation := some
                  { p with
                    records := ⟨endedEarly s x.group .L1 p.records.l1, endedEarly s x.group .L2 p.records.l2,
                      endedEarly s x.group .L3 p.records.l3⟩ } })

/-! ## The channels -/

/-- The three conditions of R62 for a READY part of an entry at a crossing: the group lock, the field-pending limit
and the cut-off. -/
def startable (s : State) (e : Entry) (now : Nat) : Prop :=
  (∀ o ∈ s.calendar, o.handle ≠ e.handle → o.group = e.group → o.state ≠ .sending ∧ o.state ≠ .confirming) ∧
    ((s.group e.group).fieldPending.length < 4 ∨ e.state = .sending) ∧ now < e.cutOff * 1000

/-- The entries of the calendar whose READY part of a phase stands in an arbitration class and can start (R61, R62): 1
URGENT and 2 ROUTINE with LS at or before now, 3 URGENT and 4 ROUTINE with now between ES and LS. -/
def inClass (s : State) (ph : Phase) (now k : Nat) (e : Entry) : Prop :=
  let p := e.parts.get ph
  e ∈ s.calendar ∧ p.state = .ready ∧ startable s e now ∧
    ((k = 1 ∧ e.cls = .urgent ∧ p.ls ≤ now) ∨ (k = 2 ∧ e.cls = .routine ∧ p.ls ≤ now) ∨
      (k = 3 ∧ e.cls = .urgent ∧ p.es ≤ now ∧ now < p.ls) ∨ (k = 4 ∧ e.cls = .routine ∧ p.es ≤ now ∧ now < p.ls))

/-- The arbiter chooses the first class of R61 with work able to start by R62: a READY part of the lowest class that
has one, the earliest LS of its class; the suspended part after class 1 alone and before every other part; a
confirmation exchange only where no part could start; a ping only where none of these could; discovery work last; and
nothing only where there is none of these. -/
def Obligations.ArbiterChoosesByClass : Prop :=
  ∀ (s : State) (ph : Phase),
    let now := s.crossingNow ph
    let cls (k : Nat) (e : Entry) : Prop := inClass s ph now k e
    let resumes (h : Nat) : Prop :=
      (s.chan ph).suspendedPart = some h ∧ ∃ e, s.entry? h = some e ∧ now < e.cutOff * 1000
    let confirms (e : Entry) : Prop :=
      e ∈ s.calendar ∧ e.confirming = true ∧ e.confirmLive = true ∧ e.hasConfirmWork ph = true
    let noPart : Prop := (∀ k e, ¬ cls k e) ∧ ∀ h, ¬ resumes h
    let noPing : Prop := ∀ r ∈ s.pingQueue ph, r.state ≠ .queued
    (∀ h, s.choose ph = some (.part h) →
      ∃ k e, e.handle = h ∧ cls k e ∧ (∀ j < k, ∀ x, ¬ cls j x) ∧ ((∃ g, resumes g) → k = 1) ∧
        ∀ x, cls k x → (e.parts.get ph).ls ≤ (x.parts.get ph).ls) ∧
    (∀ h, s.choose ph = some (.resume h) → resumes h ∧ ∀ x, ¬ cls 1 x) ∧
    (∀ h, s.choose ph = some (.confirm h) → noPart ∧ ∃ e, e.handle = h ∧ confirms e) ∧
    (s.choose ph = some .ping → noPart ∧ (∀ e, ¬ confirms e) ∧ ¬ noPing) ∧
    (s.choose ph = some .registration → noPart ∧ (∀ e, ¬ confirms e) ∧ noPing ∧ (s.disc ph).registration ≠ []) ∧
    (s.choose ph = some .probe → noPart ∧ (∀ e, ¬ confirms e) ∧ noPing ∧ (s.disc ph).registration = [] ∧
      (s.disc ph).state = .probing ∧ (s.disc ph).stack ≠ []) ∧
    (s.choose ph = none → noPart ∧ (∀ e, ¬ confirms e) ∧ noPing ∧ (s.disc ph).registration = [] ∧
      ((s.disc ph).state = .probing → (s.disc ph).stack = []))

/-- FLOOD_END (R67, R59, R66, R77): before the flood has run its span nothing happens. At its end repeats sent rises
and last flood end is the present crossing, and the tests of R67 follow in their order (whether the cut-off has been
reached is log 12's flag, and the finish of a part without a start time log 34's). Repeats all sent, or the entry
cancelled or at its cut-off: the part is FINISHED, ON TIME or LATE by its start, and the open part absent. Otherwise,
halt pending: the channel is HALTED and keeps the open part. Otherwise, a ROUTINE part on a RUNNING line with an
URGENT part due: the part is SUSPENDED and the channel starts the urgent work. Otherwise, a line not RUNNING: the
channel is IDLE and keeps the open part. Otherwise: the channel goes into a gap of g slots, and nothing else changes.
A flood of an entry a port reset removed updates no entry. -/
def Obligations.FloodEndFollowsItsTests : Prop :=
  ∀ (ph : Phase) (s : State) (f : Flood), (s.chan ph).work = some (.flood f) →
    let c := s.chan ph
    let ended : Channel := { c with work := none, lastFloodEnd := some c.crossings, absentSinceFlood := false }
    let freed : Channel := { ended with state := .idle, gapLeft := none, quiet := true }
    (f.slots < f.span → exec (.floodEnd ph) s = .next s) ∧
    (f.span ≤ f.slots → f.entry = none → c.haltPending = false → s.line ≠ .running →
      ∃ t, exec (.floodEnd ph) s = .next t ∧ t.calendar = s.calendar ∧ t.chan ph = freed) ∧
    ∀ h e, f.span ≤ f.slots → f.entry = some h → s.entry? h = some e → c.openPart = some h →
      (s.calendar.map (·.handle)).Nodup → (e.parts.get ph).state = .sending →
      let p := e.parts.get ph
      let counted : Part := { p with sent := p.sent + 1 }
      let finishing : Prop := counted.sent = p.planned ∨ e.cancelled = true ∨ e.cutOffReached = true
      let urgent : Prop := ∃ x, inClass s ph (s.crossingNow ph) 1 x
      ∃ t, exec (.floodEnd ph) s = .next t ∧
        (finishing →
          (t.entry? h = none ∨
            ∃ x, t.entry? h = some x ∧
              x.parts.get ph =
                { counted with
                  state := .finished
                  finishNeeded := decide (0 < (s.figures e.group ph).members)
                  finish := some (match p.start with
                    | some k => if k ≤ p.ls then .onTime else .late
                    | none => .missed) }) ∧
          (c.haltPending = true → (t.chan ph).state = .halted ∧ (t.chan ph).openPart = none) ∧
          (c.haltPending = false → s.line ≠ .running → t.chan ph = { freed with openPart := none })) ∧
        (¬ finishing → c.haltPending = true →
          (t.chan ph).state = .halted ∧ (t.chan ph).openPart = some h ∧
            ∃ x, t.entry? h = some x ∧ x.parts.get ph = counted) ∧
        (¬ finishing → c.haltPending = false → e.cls = .routine → s.line = .running → urgent →
          (t.chan ph).state = .sending ∧ (t.chan ph).suspendedPart = some h ∧
            ∃ x, t.entry? h = some x ∧ x.parts.get ph = { counted with state := .suspended }) ∧
        (¬ finishing → c.haltPending = false → s.line ≠ .running →
          t.chan ph = freed ∧ ∃ x, t.entry? h = some x ∧ x.parts.get ph = counted) ∧
        (¬ finishing → c.haltPending = false → s.line = .running → (e.cls = .urgent ∨ ¬ urgent) →
          t = (s.modChan ph (fun _ => { ended with state := .sending, gapLeft := some s.settings.gap })).modPart h ph
            (fun _ => counted))

/-- The channel starts a frame: it is SENDING, its level reaches the amplifier (R142), and a failed check of its
buffer sets halt pending (R59). -/
def sends (u : State) (ph : Phase) (w : Work) : State :=
  (u.modChan ph (fun c =>
    { c with
      state := .sending, work := some w, gapLeft := none, quiet := false
      haltPending := c.haltPending || c.bufferBad })).modLevel ph (fun l => { l with applied := l.level })

/-- The flood of the next repeat of an entry's part, its first slot beginning at a calendar millisecond: of the depth
and mode frozen in the part and the gap in force (R35, R65), its frame carrying the delay of this start (R44, R194).
-/
def floodFrom (s : State) (e : Entry) (ph : Phase) (sequence : Byte) (now : Nat) : Flood :=
  let p := e.parts.get ph
  let g := s.settings.gap
  let span := (p.depth + 1) * airtime 16 p.mode + p.depth * g
  let delay := delayField e.activation (now + slotMillis span s.fPlan)
  { entry := some e.handle, repeatIndex := p.sent + 1, span, slots := 0
    frame := lineFrame s.identity.code 1 g (BitVec.ofNat 32 e.group) p.depth []
      ([sequence, actionByte e.action, durationByte e.action, byteOf (p.sent + 1)] ++ be 2 delay) 0 }

/-- REPEAT_GAP_END and OUTBOUND_SPAN_END. While slots of the gap are left nothing happens. At its end, before the
cut-off, the next repeat starts: the channel is SENDING the flood of index one above the repeats sent, of the frozen
depth and mode and the gap in force, its frame carrying the delay of this start (R35, R44, R65, R194), the level
reaching the amplifier (R142), and nothing else changes. At or after the cut-off the part is FINISHED with its repeats
sent and the channel IDLE without it, not arbitrating before its next crossing (R67, R71; log 28). A channel SENDING
an exchange or a probe is LISTENING once the outbound span has run its slots, nothing else changing, and before that
nothing happens (R48, R56, R121). -/
def Obligations.GapsAndOutboundSpansEnd : Prop :=
  (∀ (ph : Phase) (s : State), (s.chan ph).gapLeft ≠ some 0 → exec (.repeatGapEnd ph) s = .next s) ∧
  (∀ (ph : Phase) (s : State) (h : Nat) (e : Entry),
    let c := s.chan ph
    let p := e.parts.get ph
    c.gapLeft = some 0 → c.openPart = some h → c.work = none → s.entry? h = some e → p.state = .sending →
    (s.crossingNow ph < e.cutOff * 1000 →
      exec (.repeatGapEnd ph) s =
        .next (sends s ph (.flood (floodFrom s e ph (e.sequence.getD 0) (s.crossingNow ph))))) ∧
    (e.cutOff * 1000 ≤ s.crossingNow ph → c.suspendedPart ≠ some h →
      ∃ t, exec (.repeatGapEnd ph) s = .next t ∧
        t.chan ph = { c with state := .idle, openPart := none, gapLeft := none, quiet := true } ∧
        (t.entry? h = none ∨
          ∃ x, t.entry? h = some x ∧ (x.parts.get ph).state = .finished ∧ (x.parts.get ph).sent = p.sent))) ∧
  ∀ (ph : Phase) (s : State) (w : Work), (s.chan ph).work = some w →
    let ended : Prop :=
      (s.chan ph).state = .sending ∧
        ((∃ x, w = .exchange x ∧ x.outSpan ≤ x.slots) ∨ ∃ r, w = .probe r ∧ r.outSpan ≤ r.slots)
    (ended → exec (.outboundSpanEnd ph) s = .next (s.modChan ph (fun c => { c with state := .listening }))) ∧
      (¬ ended → exec (.outboundSpanEnd ph) s = .next s)

/-- The channel of a PRESENT phase is IDLE on a RUNNING line, without work, and a crossing comes in its interval; no
survey samples the slot it ends. -/
def idleAt (s : State) (ph : Phase) (instant : Nat) : Prop :=
  (s.phaseRec ph).present = true ∧
    (∃ c, (s.phaseRec ph).lastCrossing = some c ∧ 7000 ≤ instant - c.instant ∧ instant - c.instant ≤ 40000) ∧
    s.line = .running ∧ (s.chan ph).state = .idle ∧ (s.chan ph).work = none ∧ (s.chan ph).gapLeft = none ∧
    (s.survey ph).state ≠ .running

/-- The state in which the channel then acts: the phase's record has taken the crossing, and the channel has counted
it (R156). -/
def crossed (s : State) (ph : Phase) (instant : Nat) (bufferBad : Bool) : State :=
  let r := s.phaseRec ph
  let d := match r.lastCrossing with
    | some c => instant - c.instant
    | none => 0
  let history := (if 16 ≤ r.history.length then r.history.tail else r.history) ++ [d]
  { s with
    mains := s.mains.set ph
      { r with
        lastCrossing := some { instant, stamp := s.clock.millis }
        history := if d ≤ 12000 then history else r.history }
    channels := s.channels.set ph { s.chan ph with crossings := (s.chan ph).crossings + 1, bufferBad } }

/-- The READY part of an entry starts now (R64, R65). With the entry's first part the group's counter rises and gives
the sequence, the activation joins the field-pending list in its place unless the clock has reached it (R113), and
STARTED is offered. The part is SENDING and the channel's open part, and its first repeat is on the channel. -/
def startsPart (u : State) (e : Entry) (ph : Phase) (now : Nat) : State :=
  let g := u.group e.group
  let q := e.sequence.getD (g.sequence + 1)
  let places := if e.activation * 1000 ≤ now then g.fieldPending
    else g.fieldPending.takeWhile (· ≤ e.activation) ++ e.activation :: g.fieldPending.dropWhile (· ≤ e.activation)
  let begun := if e.sequence.isSome then u
    else
      State.offer
        ((u.modGroup e.group (fun r => { r with sequence := q, fieldPending := places })).modEntry e.handle
          (fun x => { x with sequence := some q }))
        e.origin (.notice .started (be 2 e.handle ++ [e.tag, byteOf e.group, q]))
  let sending := begun.modPart e.handle ph (fun p => { p with state := .sending, start := some now })
  sends (sending.modChan ph (fun c => { c with openPart := some e.handle })) ph (.flood (floodFrom u e ph q now))

/-- ZERO_CROSSING at an IDLE channel of a RUNNING line, no handle standing twice in the calendar (R60, R64, R65, R68
to R71). Without an open part the arbiter's choice starts: a READY part as its first repeat, with STARTED carrying its
sequence as one byte (log 10), the suspended part as its next repeat, now the open part again; with nothing to choose
the channel stays IDLE. An open part waits until the gap has passed since the last flood end, unless none has ended
since the phase was last absent. Then at its cut-off it is FINISHED with its repeats sent and the channel IDLE without
it, not arbitrating before its next crossing (log 28); a ROUTINE one gives way to URGENT work due, is SUSPENDED, and
that work starts; any other sends its next repeat. Nothing else changes. -/
def Obligations.PartsStartAndResumeAtACrossing : Prop :=
  ∀ (ph : Phase) (micros : Nat) (noise : Int) (bufferBad : Bool) (s : State),
    let instant := s.elapsed * 1000 + micros
    let c : Instr := .zeroCrossing ph micros noise bufferBad
    let now := s.clock.millis
    let x := s.chan ph
    let u := crossed s ph instant bufferBad
    let repeats (v : State) (e : Entry) : State := sends v ph (.flood (floodFrom v e ph (e.sequence.getD 0) now))
    let waits := u.modChan ph (fun c => { c with quiet := true })
    idleAt s ph instant → (s.calendar.map (·.handle)).Nodup →
    (x.openPart = none →
      (∀ h e, u.choose ph = some (.part h) → s.entry? h = some e → exec c s = .next (startsPart u e ph now)) ∧
      (∀ h e, u.choose ph = some (.resume h) → s.entry? h = some e →
        exec c s =
          .next (repeats
            ((u.modPart h ph (fun p => { p with state := .sending })).modChan ph
              (fun c => { c with openPart := some h, suspendedPart := none })) e)) ∧
      (u.choose ph = none → exec c s = .next waits)) ∧
    ∀ h e, x.openPart = some h → s.entry? h = some e → (e.parts.get ph).state = .sending → x.suspendedPart ≠ some h →
      let gapOver : Prop :=
        ∀ k, x.lastFloodEnd = some k → x.absentSinceFlood = true ∨ k + s.settings.gap ≤ x.crossings + 1
      let urgent : Prop := ∃ y, inClass u ph now 1 y
      let aside := (u.modPart h ph (fun p => { p with state := .suspended })).modChan ph
        (fun c => { c with openPart := none, suspendedPart := some h })
      (¬ gapOver → exec c s = .next waits) ∧
      (gapOver → e.cutOff * 1000 ≤ now →
        ∃ t, exec c s = .next t ∧ t.chan ph = { waits.chan ph with openPart := none } ∧
          (t.entry? h = none ∨
            ∃ y, t.entry? h = some y ∧ (y.parts.get ph).state = .finished ∧
              (y.parts.get ph).sent = (e.parts.get ph).sent)) ∧
      (gapOver → now < e.cutOff * 1000 → e.cls = .routine → urgent →
        ∃ k y, aside.choose ph = some (.part k) ∧ aside.entry? k = some y ∧
          exec c s = .next (startsPart aside y ph now)) ∧
      (gapOver → now < e.cutOff * 1000 → (e.cls = .urgent ∨ ¬ urgent) → exec c s = .next (repeats u e))

/-- An exchange with the unit at an index that starts now (R47, R81, R92): on the unit's route and path mode as they
stand, with the outbound span of its frame, of `size` bytes over no relay, and the silence point after the reply's
span and the tolerance, and its frame of a kind with its contents (R34, R193, R194). -/
def exchangeWith (u : State) (ph : Phase) (owner : ExchangeOwner) (k : ExchangeFrame) (kind size : Nat)
    (contents : Nat → List Byte) (i : Nat) (v : UnitRec) : Work :=
  let hops := v.route.length
  let mode := pathMode u.roster v
  let g := u.settings.gap
  let span (bytes : Nat) : Nat := (hops + 1) * airtime (bytes + 4 * hops) mode + hops * g
  .exchange
    { owner, kind := k, index := i, address := v.address, hops, mode, outSpan := span size
      silence := span size + g + span 15 + u.settings.tolerance, slots := 0
      frame := lineFrame u.identity.code kind g v.address hops (routeAddresses u.roster v.route) (contents (span size))
        (u.testMasks.get ph) }

/-- A probe of a filter from an origin on a route starts now, the rest of the stack staying (R121, R194). -/
def probes (u : State) (ph : Phase) (origin : Origin) (f : ProbeFilter) (rest : List ProbeFilter) (route : List Nat) :
    State :=
  let hops := route.length
  let g := u.settings.gap
  let span (bytes : Nat) : Nat := (hops + 1) * airtime (bytes + 4 * hops) .robust + hops * g
  sends
    (u.modDisc ph (fun d => { d with stack := rest, probe := some { origin, filter := f, stopped := false, route } })) ph
    (.probe
      { hops, outSpan := span 15, window := span 17, gap := g, next := 0, slots := 0
        frame := lineFrame u.identity.code 6 g 0 hops (routeAddresses u.roster route)
          (byteOf f.length :: be32 f.value) 0 })

/-- ZERO_CROSSING at an IDLE channel of a RUNNING line without an open part, where the arbiter chooses an exchange or
a probe (R81, R92, R120, R121, R126). Confirmation: with the current unit at its index, in the group and on the phase,
not LOST, the POLL or the DIRECT that comes next starts; a unit that is LOST is counted unconfirmed and one that is
gone not reached, LOST or not (the model's choice for a unit that is both, log 49), in the progress that the entry
keeps even while RETIRING (log 41). A ping: the oldest QUEUED record is IN FLIGHT and its exchange starts while the
unit is at its index and on the phase; else it is NOT SENT, with nothing after the result (log 10). The oldest
registration record: it leaves the list and its registering ping starts. A probe: of the top filter, from the origin
while it serves; else the stack is emptied and the next origin is probed with the filter of length 0, or the channel
rests without one. -/
def Obligations.ExchangesAndProbesStartAtACrossing : Prop :=
  ∀ (ph : Phase) (micros : Nat) (noise : Int) (bufferBad : Bool) (s : State),
    let instant := s.elapsed * 1000 + micros
    let c : Instr := .zeroCrossing ph micros noise bufferBad
    let now := s.clock.millis
    let u := crossed s ph instant bufferBad
    let d := s.disc ph
    let there (i : Nat) (a : Address) (v : UnitRec) : Prop := s.unit? i = some v ∧ v.address = a ∧ v.phase = ph
    idleAt s ph instant → (s.chan ph).openPart = none →
    (∀ h e p i a, u.choose ph = some (.confirm h) → s.entry? h = some e → e.confirmation = some p →
      (p.records.get ph).current = some (i, a) →
      let r := p.records.get ph
      let member (v : UnitRec) : Prop := e.group = 0 ∨ e.group ∈ v.groups
      let sendsOne (k : ExchangeFrame) (kind size : Nat) (contents : Nat → List Byte) (v : UnitRec) : State :=
        sends u ph (exchangeWith u ph (.confirm (some h)) k kind size contents i v)
      (∀ v, there i a v → member v → v.state ≠ .lost →
        (r.nextFrame = .poll → exec c s = .next (sendsOne .poll 3 11 (fun _ => [byteOf e.group]) v)) ∧
          (r.nextFrame = .direct →
            exec c s =
              .next (sendsOne .direct 2 16
                (fun span =>
                  [byteOf e.group, e.sequence.getD 0, actionByte e.action, durationByte e.action] ++
                    be 2 (delayField e.activation (now + slotMillis span s.fPlan))) v))) ∧
      ((∀ v, there i a v → ¬ member v) →
        ∃ t, exec c s = .next t ∧
          (t.entry? h = none ∨ ∃ y, t.progress? h ph = some y ∧ r.notReached + 1 ≤ y.notReached)) ∧
      (∀ v, there i a v → member v → v.state = .lost →
        ∃ t, exec c s = .next t ∧
          (t.entry? h = none ∨ ∃ y, t.progress? h ph = some y ∧ r.unconfirmed + 1 ≤ y.unconfirmed))) ∧
    (∀ front r back, u.choose ph = some .ping → s.pingQueue ph = front ++ r :: back →
      (∀ y ∈ front, y.state ≠ .queued) → r.state = .queued →
      (∀ v, there r.index r.address v →
        exec c s =
          .next (sends { u with pings := s.pings.set ph (front ++ { r with state := .inFlight } :: back) } ph
            (exchangeWith u ph .ping .ping 4 11 (fun _ => [0]) r.index v))) ∧
        ((∀ v, ¬ there r.index r.address v) →
          ∃ t, exec c s = .next t ∧
            ({ r with state := .held .notSent } ∈ t.pingQueue ph ∨
              .notice .pingResult ([r.tag, channelByte ph] ++ be 2 r.index ++ be32 r.address ++ [2]) ∈
                (t.port r.origin).outq))) ∧
    (∀ i a rest v, u.choose ph = some .registration → d.registration = (i, a) :: rest → there i a v →
      exec c s =
        .next (sends (u.modDisc ph (fun d => { d with registration := rest })) ph
          (exchangeWith u ph .registration .ping 4 11 (fun _ => [0]) i v))) ∧
    ∀ f rest, u.choose ph = some .probe → d.stack = f :: rest →
      let serves (v : UnitRec) : Prop :=
        v.state = .active ∧ v.relayCapable = true ∧ v.phase = ph ∧ v.route.length ≤ 2
      (d.origin = some .direct → exec c s = .next (probes u ph .direct f rest [])) ∧
      (∀ i a v, d.origin = some (.relay i a) → s.unit? i = some v → v.address = a → serves v →
        exec c s = .next (probes u ph (.relay i a) f rest (v.route ++ [i]))) ∧
      ∀ i a, d.origin = some (.relay i a) → RosterLawful s →
        (∀ v, s.unit? i = some v → v.address = a → ¬ serves v) →
        let advanced : Discovery := { probeEnded s ph { d with stack := [] } with probe := d.probe }
        let w := u.modDisc ph (fun _ => advanced)
        (∀ j b v, advanced.origin = some (.relay j b) → s.unit? j = some v →
          exec c s = .next (probes w ph (.relay j b) ⟨0, 0⟩ [] (v.route ++ [j]))) ∧
          (advanced.origin = none → exec c s = .next (w.modChan ph (fun c => { c with quiet := true })))

/-- What the close of a window with minimum m makes of LEVEL LIMIT (R141): set where m is short of the band and the
raise of R140 would carry the level above the maximum, kept where it is short without that or above the band, cleared
in band. -/
def LevelLimitFollows (l : LevelRec) (v : LevelSettings) (m : Nat) (x : LevelRec) : Prop :=
  let tol : Int := if l.state = .acquire then 4 else 12
  let short : Prop := (m : Int) < v.target - tol
  let above : Prop := (v.target : Int) + tol < m
  let beyond : Prop := v.high < l.level + (v.target - m + 1) / 2
  (short → beyond → x.levelLimit = true) ∧ (short → ¬ beyond → x.levelLimit = l.levelLimit) ∧
    (above → x.levelLimit = l.levelLimit) ∧ (¬ short → ¬ above → x.levelLimit = false)

/-- REPLY_RECEIVED and SILENCE_POINT on a channel listening for an exchange (R48, R88, R89, R93). A frame that is no
REPLY taken, or is from another address, or ends after the silence point, changes nothing; one that ends at the
silence point is taken (section 2.8, log 23), and so is one that began before the channel was LISTENING (the model's
choice, log 50). A REPLY from the addressed unit, still at its index, makes it ACTIVE with silence 0, gives it the
sample, which is the first of a fresh estimate for a ping with the register flag, and sets last heard while the clock
is SET; of a direct unit the level controller takes the downlink margin into its
window, which its eighth sample closes (R139), and with it LEVEL LIMIT is set where the window falls short and the
raise would pass the level maximum, cleared where the window is in band, and else stays (R141). The silence point, not
before it, raises the unit's silence count, and makes it DEGRADED in ROBUST and LOST by the limits in force; of a unit
LOST by it UNIT LOST is offered to both ports, with the cause silence (R101), before any other notice of the event
(log 45). No other unit changes, nor any other controller; with a line not RUNNING and no halt pending the channel is
IDLE, and the record of a ping has left its queue with its PING RESULT queued, or is HELD in its place, answered or
SILENT (PING RESULT in the layout of log 10). -/
def Obligations.RepliesAndSilencesEndTheExchange : Prop :=
  ∀ (ph : Phase) (s : State) (x : Exchange),
    (s.chan ph).work = some (.exchange x) → (s.chan ph).state = .listening →
    let quietly : Prop := (s.chan ph).haltPending = false ∧ s.line ≠ .running
    let idle (t : State) : Prop :=
      quietly → t.chan ph = { s.chan ph with state := .idle, work := none, gapLeft := none, quiet := true }
    let roster (v : UnitRec) : Roster := s.roster.map (fun y => if y.1 = x.index then (y.1, v) else y)
    let levels (t : State) (v : LevelRec) : Prop :=
      (∀ k ≠ ph, t.levelRec k = s.levelRec k) ∧ { t.levelRec ph with applied := (s.levelRec ph).applied } = v
    let pinged (t : State) (result : PingResult) : Prop :=
      ∀ front z back, x.owner = .ping → quietly → s.pingQueue ph = front ++ z :: back →
        (∀ y ∈ front, y.state ≠ .inFlight ∧ isHeldFor z.origin y = false) → z.state = .inFlight → z.dropped = false →
        (t.pingQueue ph = front ++ back ∧ pingNotice ph z result ∈ (t.port z.origin).outq) ∨
          t.pingQueue ph = front ++ { z with state := .held result } :: back
    (∀ heard : HeardFrame,
      (∀ r, readReply s.identity.code heard.bytes = some r → r.address ≠ x.address ∨ x.silence < x.slots) →
      exec (.replyReceived ph heard) s = .next s) ∧
    (∀ (heard : HeardFrame) (r : ReplyReading) (u : UnitRec),
      readReply s.identity.code heard.bytes = some r → r.address = x.address → x.slots ≤ x.silence →
      s.unit? x.index = some u → u.address = x.address →
      let sample := min r.downlink (if x.hops = 0 then marginOf heard.uplink else r.hopUp)
      let seed := decide (x.owner = .ping) && (inFlightPing (s.pingQueue ph)).any (·.register)
      let l := s.levelRec ph
      let least := match l.windowMin with
        | some m => min m r.downlink
        | none => r.downlink
      ∃ t, exec (.replyReceived ph heard) s = .next t ∧ idle t ∧
        t.roster = roster
          { u.takeSample seed sample with
            state := .active, silence := 0
            lastHeard := if s.clock.isSet then some (s.clock.millis / 1000) else u.lastHeard } ∧
        levels t
          (if x.hops ≠ 0 then l
          else if l.windowCount + 1 = 8 then l.close (s.settings.levels.get ph) least
          else { l with windowCount := l.windowCount + 1, windowMin := some least }) ∧
        (x.hops = 0 → l.windowCount + 1 = 8 → LevelLimitFollows l (s.settings.levels.get ph) least (t.levelRec ph)) ∧
        pinged t (.answered (marginOf heard.uplink) r.downlink r.hopUp r.sequence x.hops x.mode)) ∧
    (x.slots < x.silence → exec (.silencePoint ph) s = .next s) ∧
    ∀ u : UnitRec, x.silence ≤ x.slots → s.unit? x.index = some u → u.address = x.address →
      let n := if u.silence < 255 then u.silence + 1 else u.silence
      let degraded : Prop := u.state = .active ∧ s.settings.degradeLimit ≤ n
      let lost : Prop := u.state ≠ .lost ∧ s.settings.lostLimit ≤ n
      ∃ t v, exec (.silencePoint ph) s = .next t ∧ idle t ∧ t.roster = roster v ∧
        v = { u with silence := n, mode := v.mode, state := v.state } ∧
        (degraded → v.mode = .robust) ∧ (¬ degraded → v.mode = u.mode) ∧
        (lost → v.state = .lost) ∧ (¬ lost → degraded → v.state = .degraded) ∧
        (¬ lost → ¬ degraded → v.state = u.state) ∧
        levels t (s.levelRec ph) ∧ pinged t .silent ∧
        (lost → RosterLawful s → ∀ q, (s.port q).outq.length < 16 → noticeCount (s.port q).outq < 15 →
          ∃ more, (t.port q).outq = (s.port q).outq ++
            .notice .unitLost (be 2 x.index ++ be32 u.address ++ [phaseByte u.phase, 0]) :: more)

/-- A confirmation's current unit and its counts. The cursor, with no current unit, passes over every index but those
of the group's members on the phase, counts the LOST ones not attempted, and stops past the first that is not LOST,
which becomes current and expected, or comes to the end (R79). A POLL's reply for the current unit, attempts made
rising first (R82 to R84), is read by the distance of its sequence from the entry's: 0 confirms, 1 to 127 confirms and
supersedes, and the current unit is decided. 128 to 255, or no sequence held, is stale: with the flag clear the flag
is set and a DIRECT comes next. A stale reply with the flag set, a POLL in silence, attempts made rising first, and
the end of a DIRECT have a POLL come next while attempts remain; with none left the unit is unconfirmed and listed,
while the list has fewer than 16 (R84, R85). A unit no longer at its index is not reached (R81, R86), and at the end
of its exchange a POLL raises attempts made first (R82) and a DIRECT leaves POLL as next frame (R84). No other phase's
record changes. The end of an exchange counts so, for an entry alone in its group, not cut short, on a line not
RUNNING without a halt pending. (A record without a current unit keeps the fields of the last, log 42; a RETIRING
entry keeps its progress, log 41; the roster takes the reply first, log 46; a reply is taken as logs 23 and 50 say.) -/
def Obligations.ConfirmationCountsItsResults : Prop :=
  (∀ (s : State) (group : Nat) (ph : Phase) (r : PhaseProgress), RosterLawful s → r.current = none →
    let lost (x : Nat × UnitRec) : Bool := decide (x.2.state = .lost)
    let ahead := s.roster.filter (fun x =>
      decide (r.cursor ≤ x.1 ∧ x.2.phase = ph ∧ (group = 0 ∨ group ∈ x.2.groups)))
    let passed := { r with notAttempted := r.notAttempted + (ahead.takeWhile lost).length }
    s.advanceCursor group ph r =
      match ahead.dropWhile lost with
      | x :: _ =>
          { passed with
            expected := r.expected + 1, current := some (x.1, x.2.address), attempts := 0, resendDone := false
            nextFrame := .poll, cursor := x.1 + 1 }
      | [] => { passed with cursor := max r.cursor s.rosterCapacity }) ∧
  (∀ (s : State) (h : Nat) (ph : Phase) (index : Nat) (e : Entry) (c : Confirmation) (q : Byte),
    s.entry? h = some e → e.confirmation = some c → e.sequence = some q → e.confirmLive = true →
    let r := c.records.get ph
    let budget := 1 + s.settings.pollRetries
    let moved (t : State) (r : PhaseProgress) : Prop :=
      (∀ k ≠ ph, t.progress? h k = some (c.records.get k)) ∧ t.progress? h ph = some r
    let decided (t : State) (r : PhaseProgress) : Prop :=
      moved t (s.advanceCursor e.group ph { r with current := none })
    let listed (t : State) : Prop :=
      ∀ y d, t.entry? h = some y → y.confirmation = some d →
        d.unconfirmedList =
          if c.unconfirmedList.length < 16 then c.unconfirmedList ++ [index] else c.unconfirmedList
    let polled := { r with attempts := r.attempts + 1 }
    let again (t : State) (r : PhaseProgress) : Prop :=
      (r.attempts < budget → moved t { r with nextFrame := .poll }) ∧
        (budget ≤ r.attempts → decided t { r with nextFrame := .poll, unconfirmed := r.unconfirmed + 1 } ∧ listed t)
    (∀ reply : Option Byte,
      let t := s.pollReplied h ph index reply
      let distance : Option Nat := reply.map (fun x => (x - q).toNat)
      (distance = some 0 → decided t { polled with confirmed := r.confirmed + 1 }) ∧
      (∀ d, distance = some d → 1 ≤ d → d ≤ 127 →
        decided t { polled with confirmed := r.confirmed + 1, superseded := r.superseded + 1 }) ∧
      ((∀ d, distance = some d → 128 ≤ d) →
        (r.resendDone = false → moved t { polled with resendDone := true, nextFrame := .direct }) ∧
          (r.resendDone = true → again t polled))) ∧
      again (s.pollSilent h ph index) polled ∧ again (s.directEnded h ph index) r ∧
      decided (s.decideNotReached h ph) { r with notReached := r.notReached + 1 } ∧
      decided (s.unitGone h ph .poll) { polled with notReached := r.notReached + 1 } ∧
      decided (s.unitGone h ph .direct) { r with nextFrame := .poll, notReached := r.notReached + 1 }) ∧
  ∀ (s : State) (ph : Phase) (x : Exchange) (h : Nat) (e : Entry),
    (s.chan ph).work = some (.exchange x) → (s.chan ph).state = .listening → x.owner = .confirm (some h) →
    s.entry? h = some e → e.confirming = true → e.confirmStopped = false →
    (∀ y ∈ s.calendar, y.handle ≠ h → y.group ≠ e.group) → s.line ≠ .running → (s.chan ph).haltPending = false →
    let counted (t : State) (reply : Option (Option Byte)) : State :=
      let u := { s with roster := t.roster }
      if s.holdsUnit x.index x.address = false then u.unitGone h ph x.kind
      else if x.kind = .direct then u.directEnded h ph x.index
      else match reply with
        | some q => u.pollReplied h ph x.index q
        | none => u.pollSilent h ph x.index
    let follows (t : State) (reply : Option (Option Byte)) : Prop :=
      t.entry? h = none ∨ t.progress? h ph = (counted t reply).progress? h ph
    (x.silence ≤ x.slots → ∃ t, exec (.silencePoint ph) s = .next t ∧ follows t none) ∧
      ∀ heard r, readReply s.identity.code heard.bytes = some r → r.address = x.address → x.slots ≤ x.silence →
        ∃ t, exec (.replyReceived ph heard) s = .next t ∧ follows t (some r.sequence)

/-- Every entry with an outcome has it by the table of R23, and holds the record R24 composed, in the layout of R197
with 01h as the presence byte of a sequence and of a start time (log 10), with no exchange of it in flight; every step
keeps this (log 14 for an entry without a needed part, and for one whose needed parts are MISSED beside an unneeded
part that sent). Entries whose outcomes one event decides join their origin's retirement queue in calendar order
(R25), shown for a port that holds notices already, where each is held. And a flood that ends the last part of an
entry without confirmation, or of a cancelled one, on a line not RUNNING without a halt pending, decides its outcome
(whether the cut-off has been reached is log 12's flag, and that a part without a start time finishes MISSED log
34's): after PART FINISHED, and LINE STATE where the line drains, OUTCOME is queued and the entry has left the
calendar, or it is RETIRING and its OUTCOME is held (R26, R66, R67). That OUTCOME comes last, after LINE STATE, is the
choice of logs 27 and 45, and that a RETIRING entry keeps the progress its record was composed from is log 41's. -/
def Obligations.OutcomesFollowTheTableAndJoinInOrder : Prop :=
  (∀ (s t : State), OutcomesRecorded s → step s = .next t → OutcomesRecorded t) ∧
  (∀ (c : Instr) (s t : State) (p : Port), (s.calendar.map (·.handle)).Nodup → (s.port p).held ≠ [] →
    (match c with
     | .powerOn .. | .pinReset .. | .commandTransfer .. | .fetchTransfer .. | .heldNoticeQueued .. | .resetPort .. =>
         False
     | _ => True) →
    exec c s = .next t →
    let newly := t.calendar.filter (fun e =>
      decide (e.origin = p) && e.outcome.isSome &&
        s.calendar.all (fun x => decide (x.handle ≠ e.handle) || x.outcome.isNone))
    t.retirement.get p = s.retirement.get p ++ newly.map (·.handle)) ∧
  ∀ (ph : Phase) (s : State) (f : Flood) (h : Nat) (e : Entry),
    let c := s.chan ph
    let p := e.parts.get ph
    c.work = some (.flood f) → f.span ≤ f.slots → f.entry = some h → s.entry? h = some e → c.openPart = some h →
    (s.calendar.map (·.handle)).Nodup → p.state = .sending → (∀ k ≠ ph, (e.parts.get k).state = .finished) →
    e.outcome = none → e.confirmation = none → (e.confirm = false ∨ e.cancelled = true) →
    (p.sent + 1 = p.planned ∨ e.cancelled = true ∨ e.cutOffReached = true) → c.haltPending = false →
    s.line ≠ .running →
    let finish : Finish := match p.start with
      | some k => if k ≤ p.ls then .onTime else .late
      | none => .missed
    let ended : Entry :=
      { e with
        parts := e.parts.set ph
          { p with
            sent := p.sent + 1, state := .finished, finish := some finish
            finishNeeded := decide (0 < (s.figures e.group ph).members) } }
    let noted :=
      if e.cancelled then s
      else s.offer e.origin
        (.notice .partFinished (be 2 h ++ [e.tag, phaseByte ph, finishByte finish, byteOf (p.sent + 1)]))
    let drained := decide (s.line = .draining) &&
      [Phase.L1, Phase.L2, Phase.L3].all (fun k => decide (k = ph) || !(s.chan k).busy)
    ∃ t, exec (.floodEnd ph) s = .next t ∧
      retires (if drained then noted.offerBoth (lineNotice .held s.hold) else noted) t ended

/-- The channel has HALTED on an event (R59): it is HALTED without work, gap or pending halt, and CHANNEL HALT is
counted; no ping of it is QUEUED, and each that was is SILENT, its PING RESULT queued or the record HELD (R75, R94);
no registration record is left (R127); and no CONFIRMING entry that goes on has work on its phase (R73). -/
def haltedOn (s t : State) (ph : Phase) : Prop :=
  ((t.chan ph).state = .halted ∧ (t.chan ph).work = none ∧ (t.chan ph).gapLeft = none ∧
    (t.chan ph).haltPending = false) ∧
  t.faults.counters.getD 7 0 = saturatingSucc 255 (s.faults.counters.getD 7 0) ∧
  (∀ r ∈ t.pingQueue ph, r.state ≠ .queued) ∧
  (∀ r ∈ s.pingQueue ph, r.state = .queued →
    { r with state := .held .silent } ∈ t.pingQueue ph ∨
      .notice .pingResult ([r.tag, channelByte ph] ++ be 2 r.index ++ be32 r.address ++ [1]) ∈
        (t.port r.origin).outq) ∧
  (t.disc ph).registration = [] ∧
  ∀ e ∈ t.calendar, e.confirming = true → e.confirmLive = true → e.hasConfirmWork ph = false

/-- A halt that is pending takes effect when the work on the channel ends (R59): at the end of a flood, the silence
point or the reply of an exchange, the last window of a probe, or the loss of the phase. At the end of a flood and at
the loss of the phase, each CONFIRMING entry that goes on and has work on the phase takes the cut-short flag, and the
members not yet reached there are counted (R73): it stays CONFIRMING while another phase of it has work or an exchange
in flight, and else its outcome is decided by R23's table as log 14 reads it, the entry keeping its progress while
RETIRING (log 41) and each record without a current unit the fields of the last (log 42), with the cursor at the end
where it was ended early (log 47); OUTCOME has 01h as the presence byte of a sequence and of a start time (log 10). A
ping that was QUEUED is SILENT, with nothing after the result (log 10). A reply is taken as logs 23 and 50 say. -/
def Obligations.HaltsEndTheWorkOfTheChannel : Prop :=
  ∀ (ph : Phase) (s : State), s.faults.counters.length = 8 → (s.chan ph).haltPending = true →
    (∀ h e, s.floodOf h ph = true → s.entry? h = some e → (e.parts.get ph).state = .sending) →
    let confirmationsEnd (t : State) : Prop :=
      ∀ e p, e ∈ s.calendar → e.confirming = true → e.confirmLive = true → e.hasConfirmWork ph = true →
        e.confirmation = some p →
        let cut : Entry :=
          { e with
            cutShort := true
            confirmation := some
              { p with records := p.records.set ph (endedEarly s e.group ph (p.records.get ph)) } }
        let elsewhere : Prop := ∃ k ≠ ph, s.exchangeOf e.handle k = true ∨ e.hasConfirmWork k = true
        (elsewhere → t.entry? e.handle = some cut) ∧ (¬ elsewhere → hasRetired t cut)
    (∀ f, (s.chan ph).work = some (.flood f) → f.span ≤ f.slots → (s.calendar.map (·.handle)).Nodup →
      ∃ t, exec (.floodEnd ph) s = .next t ∧ haltedOn s t ph ∧ confirmationsEnd t) ∧
    (∀ x, (s.chan ph).work = some (.exchange x) → (s.chan ph).state = .listening →
      (x.silence ≤ x.slots → ∃ t, exec (.silencePoint ph) s = .next t ∧ haltedOn s t ph) ∧
        ∀ heard r, readReply s.identity.code heard.bytes = some r → r.address = x.address → x.slots ≤ x.silence →
          ∃ t, exec (.replyReceived ph heard) s = .next t ∧ haltedOn s t ph) ∧
    (∀ r q heard, (s.chan ph).work = some (.probe r) → (s.disc ph).probe = some q → (s.chan ph).state = .listening →
      r.next = 3 → windowEnd r.outSpan r.window r.gap 3 ≤ r.slots →
      ∃ t, exec (.probeWindowEnd ph heard) s = .next t ∧ haltedOn s t ph) ∧
    ((s.chan ph).state ≠ .halted → (s.phaseRec ph).present = true →
      (∃ c, (s.phaseRec ph).lastCrossing = some c ∧ c.instant + 40000 ≤ s.elapsed * 1000) →
      (s.calendar.map (·.handle)).Nodup →
      ∃ t, exec (.phaseLoss ph) s = .next t ∧ haltedOn s t ph ∧ confirmationsEnd t)

/-! ## Margins, levels and plans -/

/-- When a window of the level controller closes with minimum m, against target T and the tolerance of its state
(R140): short of T − tol the level rises by ceil((T − m) ÷ 2), held at the maximum; above T + tol it falls by 1, held
at the minimum; in band it stays, and ACQUIRE becomes MONITOR. The last window records m and the action. -/
def Obligations.LevelWindowsClose : Prop :=
  ∀ (l : LevelRec) (v : LevelSettings) (m : Nat),
    let tol : Int := if l.state = .acquire then 4 else 12
    let x := l.close v m
    let short : Prop := (m : Int) < v.target - tol
    let above : Prop := (v.target : Int) + tol < m
    (short → x.level = min v.high (l.level + (v.target - m + 1) / 2) ∧ x.state = l.state ∧
      x.lastWindow = some (m, .raised)) ∧
    (above → (x.level : Int) = max (v.low : Int) (l.level - 1) ∧ x.state = l.state ∧ x.lastWindow = some (m, .lowered)) ∧
    (¬ short → ¬ above → x.level = l.level ∧ x.state = .monitor ∧ x.lastWindow = some (m, .held))

/-- A sample that does not seed (R134): the estimate moves by floor((sample − estimate + 2) ÷ 4) and is within 0 to
255, and the samples count rises by one and stays at 255. Under a steady sample s the estimate settles, and then
stays, at a value from s − 1 to s + 2. -/
def Obligations.EstimateFollowsAndSettles : Prop :=
  (∀ (u : UnitRec) (sample : Nat), u.samples ≠ 0 → u.samples ≤ 255 → u.margin ≤ 255 → sample ≤ 255 →
    let v := u.takeSample false sample
    (v.margin : Int) = u.margin + Int.fdiv ((sample : Int) - u.margin + 2) 4 ∧ v.margin ≤ 255 ∧
      v.samples = min 255 (u.samples + 1)) ∧
  ∀ estimate sample : Nat, estimate ≤ 255 → sample ≤ 255 →
    ∃ settled rounds, sample ≤ settled + 1 ∧ settled ≤ sample + 2 ∧
      ∀ n, rounds ≤ n → (fun e => nextEstimate e sample)^[n] estimate = settled

/-- The plan of a phase part (R32, R34 to R38) and the delay field (R44, R45). The depth and the mode are the group's,
the repeats planned those of the class; A is 2 + ceil(16 ÷ bps), F is (d + 1) × A + d × g, B is R × F + (R − 1) × g,
and 0 without members; the time of N slots is the least of at least N × 50,000 ÷ f_plan ms; LS is activation × 1000 −
guard − ms(B) and ES is LS − lead × 1000, each floored at 0. A delay that is not clamped brings the units to the
activation instant or less than 100 ms after it, and is 0 for a flood that ends at or after it. -/
def Obligations.PlansAndDelaysFollowTheArithmetic : Prop :=
  (∀ (s : State) (group activation : Nat) (cls : EntryClass) (ph : Phase), 0 < s.fPlan →
    let x := s.plan group cls activation ph
    let figures := s.figures group ph
    let repeats := match cls with | .routine => s.settings.routineRepeats | .urgent => s.settings.urgentRepeats
    let a := match figures.mode with | .robust => 18 | .normal => 10 | .fast => 6
    let flood := (figures.depth + 1) * a + figures.depth * s.settings.gap
    let span := if figures.members = 0 then 0 else repeats * flood + (repeats - 1) * s.settings.gap
    x.depth = figures.depth ∧ x.mode = figures.mode ∧ x.planned = repeats ∧
      ∃ ms : Nat, span * 50000 ≤ ms * s.fPlan ∧ (∀ k : Nat, span * 50000 ≤ k * s.fPlan → ms ≤ k) ∧
        (x.ls : Int) = max 0 ((activation : Int) * 1000 - s.settings.guardMs - ms) ∧
        (x.es : Int) = max 0 ((x.ls : Int) - s.settings.leadS * 1000)) ∧
  ∀ activation endMs : Nat,
    let d := delayField activation endMs
    d ≤ 65535 ∧ (activation * 1000 ≤ endMs → d = 0) ∧
      (endMs < activation * 1000 → d < 65535 →
        activation * 1000 ≤ endMs + 100 * d ∧ endMs + 100 * d < activation * 1000 + 100)

/-! ## Commands of the channels and of the Fault Record -/

/-- A fault that is posted (R187) fills the first-fault record where it is absent, with its time or "clock unset",
raises its kind's counter, which stops at 255, and moves the generation on, from 65535 to 0; FAULT is offered to both
ports, with the kind, the time, the detail, the new generation and whether the fault filled the record, as 01h where
it did (log 10), the detail without padding (log 26); nothing else changes. CLEAR FAULTS (R188): a generation other
than the current one is refused STALE with the current one; otherwise the counters of the kinds in the set are 0, a
record of such a kind is absent, the others stay, the generation moves on, and the reply carries it. SET TEST MASK
(R155): a channel outside 1 to 3 is refused BAD PARAMETER; otherwise the mask is set, the reply carries the one
before, and nothing else changes. -/
def Obligations.FaultsArePostedAndClearedAndMasksSet : Prop :=
  (∀ (f : FaultReport) (s : State),
    let time := if s.clock.isSet then be 6 s.clock.millis else List.replicate 6 0xFF
    let generation := if s.faults.generation < 65535 then s.faults.generation + 1 else 0
    let count := s.faults.counters.getD f.kind 0
    let faults : FaultRec :=
      { record := s.faults.record.or (some (f, if s.clock.isSet then some s.clock.millis else none))
        counters := s.faults.counters.set f.kind (if count < 255 then count + 1 else count)
        generation }
    let filled := if s.faults.record = none then 1 else 0
    s.post f =
      State.offerBoth { s with faults }
        (.notice .fault ([BitVec.ofNat 8 f.kind] ++ time ++ f.detail ++ be 2 generation ++ [filled]))) ∧
  (∀ (p : Port) (tag : Byte) (generation : Word16) (kinds : Byte) (s : State),
    s.takes p (.clearFaults p tag generation kinds) →
    let f := s.faults
    let next := if f.generation < 65535 then f.generation + 1 else 0
    (generation.toNat ≠ f.generation →
      exec (.clearFaults p tag generation kinds) s = .next (s.answered p 0x21 tag .stale (be 2 f.generation))) ∧
    (generation.toNat = f.generation →
      ∃ t, exec (.clearFaults p tag generation kinds) s = .next t ∧ t.faults.generation = next ∧
        t.faults.record = (match f.record with
          | some (k, time) => if kinds.getLsbD k.kind then none else some (k, time)
          | none => none) ∧
        t.faults.counters.length = f.counters.length ∧
        (∀ k, t.faults.counters.getD k 0 = if kinds.getLsbD k then 0 else f.counters.getD k 0) ∧
        { t with faults := f } = s.answered p 0x21 tag .ok (be 2 next))) ∧
  ∀ (p : Port) (tag channel : Byte) (mask : Word16) (s : State), s.takes p (.setTestMask p tag channel mask) →
    (channel.toNat = 0 ∨ 3 < channel.toNat →
      exec (.setTestMask p tag channel mask) s = .next (s.answered p 0x18 tag .badParameter [])) ∧
    ∀ ph, channelByte ph = channel →
      exec (.setTestMask p tag channel mask) s =
        .next { s.answered p 0x18 tag .ok (be16 (s.testMasks.get ph)) with testMasks := s.testMasks.set ph mask }

/-- START SURVEY (R189, R191): a channel outside 1 to 3 is refused BAD PARAMETER, and one whose survey holds a notice
BUSY; otherwise the survey is RUNNING anew with a target of at least 1 and the reply carries it; a RUNNING survey's
starter is offered SURVEY ABANDONED, queued where it has room and held where it has not; nothing else changes.
Sampling (R190): at a crossing of a PRESENT phase in its interval a RUNNING survey samples the slot that ends if the
channel was IDLE or HALTED throughout it: the bin of the noise level, held within 0 to 255, divided by 16 counts one
more, to at most 65535, the highest bin is kept, and sampled rises; no other survey changes, nor does this one
otherwise. The sample that reaches the target makes it COMPLETE and offers its starter SURVEY DONE, queued where it
has room, and held where it has not, beside a SURVEY ABANDONED still held (R191, log 40). SURVEY DONE carries the
highest bin as one byte without a presence byte (log 10), and is the first notice of its crossing (log 45). -/
def Obligations.SurveysStartSampleAndComplete : Prop :=
  (∀ (p : Port) (tag channel : Byte) (slots : Word16) (s : State), s.takes p (.startSurvey p tag channel slots) →
    let c : Instr := .startSurvey p tag channel slots
    let target := max 1 slots.toNat
    (channel.toNat = 0 ∨ 3 < channel.toNat → exec c s = .next (s.answered p 0x22 tag .badParameter [])) ∧
    ∀ ph, channelByte ph = channel →
      let v := s.survey ph
      let begun : Survey :=
        { state := .running, starter := some p, tag, target, sampled := 0, bins := List.replicate 16 0, highest := none,
          held := [] }
      let t := s.answered p 0x22 tag .ok (be 2 target)
      (v.held ≠ [] → exec c s = .next (s.answered p 0x22 tag .busy [])) ∧
      (v.held = [] → v.state ≠ .running → exec c s = .next { t with surveys := s.surveys.set ph begun }) ∧
      ∀ q, v.held = [] → v.state = .running → v.starter = some q →
        let notice : Item := .notice .surveyAbandoned ([v.tag, channel] ++ be 2 v.sampled)
        exec c s =
          .next (if (t.port q).held = [] ∧ (t.port q).outq.length < 16 ∧ noticeCount (t.port q).outq < 15 then
            { t.pushItem q notice with surveys := s.surveys.set ph begun }
          else
            { t.modPort q (fun x => { x with held := x.held ++ [.survey ph] }) with
              surveys := s.surveys.set ph { begun with held := [(q, notice)] } })) ∧
  ∀ (ph : Phase) (micros : Nat) (noise : Int) (bufferBad : Bool) (s : State) (last : Crossing),
    let d := s.elapsed * 1000 + micros - last.instant
    (s.phaseRec ph).present = true → (s.phaseRec ph).lastCrossing = some last → 7000 ≤ d → d ≤ 40000 →
    let v := s.survey ph
    let x := s.chan ph
    let samples : Prop := v.state = .running ∧ x.quiet = true ∧ (x.state = .idle ∨ x.state = .halted)
    let bin := min 255 noise.toNat / 16
    let count := v.bins.getD bin 0
    let highest := match v.highest with
      | some b => max b bin
      | none => bin
    let w : Survey :=
      { v with
        bins := v.bins.set bin (if count < 65535 then count + 1 else count), sampled := v.sampled + 1
        highest := some highest }
    ∃ t, exec (.zeroCrossing ph micros noise bufferBad) s = .next t ∧ (∀ k ≠ ph, t.survey k = s.survey k) ∧
      (¬ samples → t.survey ph = v) ∧ (samples → v.sampled + 1 ≠ v.target → t.survey ph = w) ∧
      ∀ q, samples → v.sampled + 1 = v.target → v.starter = some q →
        let done : Item :=
          .notice .surveyDone ([v.tag, channelByte ph] ++ be 2 v.target ++ be 2 (v.sampled + 1) ++
            [BitVec.ofNat 8 highest])
        let r := s.port q
        let room : Prop := r.held = [] ∧ r.outq.length < 16 ∧ noticeCount r.outq < 15
        (room → (∀ y ∈ v.held, y.1 ≠ q) →
          t.survey ph = { w with state := .complete } ∧ ∃ more, (t.port q).outq = r.outq ++ done :: more) ∧
          (¬ room →
            t.survey ph = { w with state := .complete, held := v.held ++ [(q, done)] } ∧
              ∃ more, (t.port q).held = r.held ++ .survey ph :: more)

/-! ## Reset -/

/-- The block right after reset meets every invariant stated above. -/
def Obligations.ResetMeetsTheInvariants : Prop :=
  (QueuesBounded State.reset ∧ PortsTried State.reset) ∧
    (SettingsInRange State.reset ∧ LevelsInRange State.reset ∧ PlanFrequencyInRange State.reset) ∧
    ChannelsCoherent State.reset ∧ (RosterLawful State.reset ∧ FiguresCurrent State.reset ∧ PlansCurrent State.reset) ∧
    (LocksHeldByOne State.reset ∧ OutcomesRecorded State.reset) ∧
    (CalendarBounded State.reset ∧ WorkBounded State.reset)
end

