-- ==== Sys2Proof/Laws/State.lean ====
section
/-! SUPPORT. The small lemmas of State: reading back what was written to a port, a phase or a channel, and, for each
update of one block's record, that every other field of State is as before. -/

namespace Sys2Proof.Machine

variable {α : Type}

@[simp] theorem Tri.get_set_self (t : Tri α) (ph : Phase) (v : α) : (t.set ph v).get ph = v := by cases ph <;> rfl
theorem Tri.get_set_ne (t : Tri α) {ph q : Phase} (v : α) (h : q ≠ ph) : (t.set ph v).get q = t.get q := by
  cases ph <;> cases q <;> first | rfl | exact absurd rfl h
@[simp] theorem Tri.set_get (t : Tri α) (ph : Phase) : t.set ph (t.get ph) = t := by cases ph <;> rfl
@[simp] theorem Tri.set_set (t : Tri α) (ph : Phase) (v w : α) : (t.set ph v).set ph w = t.set ph w := by
  cases ph <;> rfl
theorem Tri.forall_get {P : α → Prop} (t : Tri α) : (∀ ph, P (t.get ph)) ↔ P t.l1 ∧ P t.l2 ∧ P t.l3 :=
  ⟨fun h => ⟨h .L1, h .L2, h .L3⟩, fun h ph => by cases ph; exacts [h.1, h.2.1, h.2.2]⟩

@[simp] theorem Duo.get_set_self (t : Duo α) (p : Port) (v : α) : (t.set p v).get p = v := by cases p <;> rfl
theorem Duo.get_set_ne (t : Duo α) {p q : Port} (v : α) (h : q ≠ p) : (t.set p v).get q = t.get q := by
  cases p <;> cases q <;> first | rfl | exact absurd rfl h
@[simp] theorem Duo.set_get (t : Duo α) (p : Port) : t.set p (t.get p) = t := by cases p <;> rfl
@[simp] theorem Duo.set_set (t : Duo α) (p : Port) (v w : α) : (t.set p v).set p w = t.set p w := by
  cases p <;> rfl

section
variable (s : State)

@[simp] theorem State.port_modPort_self (p : Port) (f : PortRec → PortRec) : (s.modPort p f).port p = f (s.port p) :=
  Duo.get_set_self _ _ _
theorem State.port_modPort_ne {p q : Port} (f : PortRec → PortRec) (h : q ≠ p) : (s.modPort p f).port q = s.port q :=
  Duo.get_set_ne _ _ h
@[simp] theorem State.chan_modChan_self (ph : Phase) (f : Channel → Channel) : (s.modChan ph f).chan ph = f (s.chan ph) :=
  Tri.get_set_self _ _ _
theorem State.chan_modChan_ne {ph q : Phase} (f : Channel → Channel) (h : q ≠ ph) : (s.modChan ph f).chan q = s.chan q :=
  Tri.get_set_ne _ _ h
@[simp] theorem State.disc_modDisc_self (ph : Phase) (f : Discovery → Discovery) : (s.modDisc ph f).disc ph = f (s.disc ph) :=
  Tri.get_set_self _ _ _
theorem State.disc_modDisc_ne {ph q : Phase} (f : Discovery → Discovery) (h : q ≠ ph) : (s.modDisc ph f).disc q = s.disc q :=
  Tri.get_set_ne _ _ h
@[simp] theorem State.levelRec_modLevel_self (ph : Phase) (f : LevelRec → LevelRec) : (s.modLevel ph f).levelRec ph = f (s.levelRec ph) :=
  Tri.get_set_self _ _ _
theorem State.levelRec_modLevel_ne {ph q : Phase} (f : LevelRec → LevelRec) (h : q ≠ ph) : (s.modLevel ph f).levelRec q = s.levelRec q :=
  Tri.get_set_ne _ _ h
@[simp] theorem State.survey_modSurvey_self (ph : Phase) (f : Survey → Survey) : (s.modSurvey ph f).survey ph = f (s.survey ph) :=
  Tri.get_set_self _ _ _
theorem State.survey_modSurvey_ne {ph q : Phase} (f : Survey → Survey) (h : q ≠ ph) : (s.modSurvey ph f).survey q = s.survey q :=
  Tri.get_set_ne _ _ h
@[simp] theorem State.pingQueue_modPings_self (ph : Phase) (f : List PingRec → List PingRec) : (s.modPings ph f).pingQueue ph = f (s.pingQueue ph) :=
  Tri.get_set_self _ _ _
theorem State.pingQueue_modPings_ne {ph q : Phase} (f : List PingRec → List PingRec) (h : q ≠ ph) : (s.modPings ph f).pingQueue q = s.pingQueue q :=
  Tri.get_set_ne _ _ h
@[simp] theorem State.phaseRec_setPhaseRec_self (ph : Phase) (r : PhaseRec) : (s.setPhaseRec ph r).phaseRec ph = r :=
  Tri.get_set_self _ _ _
theorem State.phaseRec_setPhaseRec_ne {ph q : Phase} (r : PhaseRec) (h : q ≠ ph) :
    (s.setPhaseRec ph r).phaseRec q = s.phaseRec q := Tri.get_set_ne _ _ h

/-! ### modPort -/

@[simp] theorem State.modPort_pending (p : Port) (f : PortRec → PortRec) :
    (s.modPort p f).pending = s.pending := rfl
@[simp] theorem State.modPort_elapsed (p : Port) (f : PortRec → PortRec) :
    (s.modPort p f).elapsed = s.elapsed := rfl
@[simp] theorem State.modPort_freeCount (p : Port) (f : PortRec → PortRec) :
    (s.modPort p f).freeCount = s.freeCount := rfl
@[simp] theorem State.modPort_clock (p : Port) (f : PortRec → PortRec) :
    (s.modPort p f).clock = s.clock := rfl
@[simp] theorem State.modPort_mains (p : Port) (f : PortRec → PortRec) :
    (s.modPort p f).mains = s.mains := rfl
@[simp] theorem State.modPort_fPlan (p : Port) (f : PortRec → PortRec) :
    (s.modPort p f).fPlan = s.fPlan := rfl
@[simp] theorem State.modPort_excursion (p : Port) (f : PortRec → PortRec) :
    (s.modPort p f).excursion = s.excursion := rfl
@[simp] theorem State.modPort_calendar (p : Port) (f : PortRec → PortRec) :
    (s.modPort p f).calendar = s.calendar := rfl
@[simp] theorem State.modPort_lastHandle (p : Port) (f : PortRec → PortRec) :
    (s.modPort p f).lastHandle = s.lastHandle := rfl
@[simp] theorem State.modPort_retirement (p : Port) (f : PortRec → PortRec) :
    (s.modPort p f).retirement = s.retirement := rfl
@[simp] theorem State.modPort_line (p : Port) (f : PortRec → PortRec) :
    (s.modPort p f).line = s.line := rfl
@[simp] theorem State.modPort_hold (p : Port) (f : PortRec → PortRec) :
    (s.modPort p f).hold = s.hold := rfl
@[simp] theorem State.modPort_channels (p : Port) (f : PortRec → PortRec) :
    (s.modPort p f).channels = s.channels := rfl
@[simp] theorem State.modPort_testMasks (p : Port) (f : PortRec → PortRec) :
    (s.modPort p f).testMasks = s.testMasks := rfl
@[simp] theorem State.modPort_pings (p : Port) (f : PortRec → PortRec) :
    (s.modPort p f).pings = s.pings := rfl
@[simp] theorem State.modPort_roster (p : Port) (f : PortRec → PortRec) :
    (s.modPort p f).roster = s.roster := rfl
@[simp] theorem State.modPort_readCursors (p : Port) (f : PortRec → PortRec) :
    (s.modPort p f).readCursors = s.readCursors := rfl
@[simp] theorem State.modPort_groups (p : Port) (f : PortRec → PortRec) :
    (s.modPort p f).groups = s.groups := rfl
@[simp] theorem State.modPort_discovery (p : Port) (f : PortRec → PortRec) :
    (s.modPort p f).discovery = s.discovery := rfl
@[simp] theorem State.modPort_levels (p : Port) (f : PortRec → PortRec) :
    (s.modPort p f).levels = s.levels := rfl
@[simp] theorem State.modPort_settings (p : Port) (f : PortRec → PortRec) :
    (s.modPort p f).settings = s.settings := rfl
@[simp] theorem State.modPort_store (p : Port) (f : PortRec → PortRec) :
    (s.modPort p f).store = s.store := rfl
@[simp] theorem State.modPort_identity (p : Port) (f : PortRec → PortRec) :
    (s.modPort p f).identity = s.identity := rfl
@[simp] theorem State.modPort_faults (p : Port) (f : PortRec → PortRec) :
    (s.modPort p f).faults = s.faults := rfl
@[simp] theorem State.modPort_surveys (p : Port) (f : PortRec → PortRec) :
    (s.modPort p f).surveys = s.surveys := rfl

/-! ### pushItem -/

@[simp] theorem State.pushItem_pending (p : Port) (i : Item) :
    (s.pushItem p i).pending = s.pending := rfl
@[simp] theorem State.pushItem_elapsed (p : Port) (i : Item) :
    (s.pushItem p i).elapsed = s.elapsed := rfl
@[simp] theorem State.pushItem_freeCount (p : Port) (i : Item) :
    (s.pushItem p i).freeCount = s.freeCount := rfl
@[simp] theorem State.pushItem_clock (p : Port) (i : Item) :
    (s.pushItem p i).clock = s.clock := rfl
@[simp] theorem State.pushItem_mains (p : Port) (i : Item) :
    (s.pushItem p i).mains = s.mains := rfl
@[simp] theorem State.pushItem_fPlan (p : Port) (i : Item) :
    (s.pushItem p i).fPlan = s.fPlan := rfl
@[simp] theorem State.pushItem_excursion (p : Port) (i : Item) :
    (s.pushItem p i).excursion = s.excursion := rfl
@[simp] theorem State.pushItem_calendar (p : Port) (i : Item) :
    (s.pushItem p i).calendar = s.calendar := rfl
@[simp] theorem State.pushItem_lastHandle (p : Port) (i : Item) :
    (s.pushItem p i).lastHandle = s.lastHandle := rfl
@[simp] theorem State.pushItem_retirement (p : Port) (i : Item) :
    (s.pushItem p i).retirement = s.retirement := rfl
@[simp] theorem State.pushItem_line (p : Port) (i : Item) :
    (s.pushItem p i).line = s.line := rfl
@[simp] theorem State.pushItem_hold (p : Port) (i : Item) :
    (s.pushItem p i).hold = s.hold := rfl
@[simp] theorem State.pushItem_channels (p : Port) (i : Item) :
    (s.pushItem p i).channels = s.channels := rfl
@[simp] theorem State.pushItem_testMasks (p : Port) (i : Item) :
    (s.pushItem p i).testMasks = s.testMasks := rfl
@[simp] theorem State.pushItem_pings (p : Port) (i : Item) :
    (s.pushItem p i).pings = s.pings := rfl
@[simp] theorem State.pushItem_roster (p : Port) (i : Item) :
    (s.pushItem p i).roster = s.roster := rfl
@[simp] theorem State.pushItem_readCursors (p : Port) (i : Item) :
    (s.pushItem p i).readCursors = s.readCursors := rfl
@[simp] theorem State.pushItem_groups (p : Port) (i : Item) :
    (s.pushItem p i).groups = s.groups := rfl
@[simp] theorem State.pushItem_discovery (p : Port) (i : Item) :
    (s.pushItem p i).discovery = s.discovery := rfl
@[simp] theorem State.pushItem_levels (p : Port) (i : Item) :
    (s.pushItem p i).levels = s.levels := rfl
@[simp] theorem State.pushItem_settings (p : Port) (i : Item) :
    (s.pushItem p i).settings = s.settings := rfl
@[simp] theorem State.pushItem_store (p : Port) (i : Item) :
    (s.pushItem p i).store = s.store := rfl
@[simp] theorem State.pushItem_identity (p : Port) (i : Item) :
    (s.pushItem p i).identity = s.identity := rfl
@[simp] theorem State.pushItem_faults (p : Port) (i : Item) :
    (s.pushItem p i).faults = s.faults := rfl
@[simp] theorem State.pushItem_surveys (p : Port) (i : Item) :
    (s.pushItem p i).surveys = s.surveys := rfl

/-! ### popFrame -/

@[simp] theorem State.popFrame_pending (p : Port) :
    (s.popFrame p).pending = s.pending := rfl
@[simp] theorem State.popFrame_elapsed (p : Port) :
    (s.popFrame p).elapsed = s.elapsed := rfl
@[simp] theorem State.popFrame_freeCount (p : Port) :
    (s.popFrame p).freeCount = s.freeCount := rfl
@[simp] theorem State.popFrame_clock (p : Port) :
    (s.popFrame p).clock = s.clock := rfl
@[simp] theorem State.popFrame_mains (p : Port) :
    (s.popFrame p).mains = s.mains := rfl
@[simp] theorem State.popFrame_fPlan (p : Port) :
    (s.popFrame p).fPlan = s.fPlan := rfl
@[simp] theorem State.popFrame_excursion (p : Port) :
    (s.popFrame p).excursion = s.excursion := rfl
@[simp] theorem State.popFrame_calendar (p : Port) :
    (s.popFrame p).calendar = s.calendar := rfl
@[simp] theorem State.popFrame_lastHandle (p : Port) :
    (s.popFrame p).lastHandle = s.lastHandle := rfl
@[simp] theorem State.popFrame_retirement (p : Port) :
    (s.popFrame p).retirement = s.retirement := rfl
@[simp] theorem State.popFrame_line (p : Port) :
    (s.popFrame p).line = s.line := rfl
@[simp] theorem State.popFrame_hold (p : Port) :
    (s.popFrame p).hold = s.hold := rfl
@[simp] theorem State.popFrame_channels (p : Port) :
    (s.popFrame p).channels = s.channels := rfl
@[simp] theorem State.popFrame_testMasks (p : Port) :
    (s.popFrame p).testMasks = s.testMasks := rfl
@[simp] theorem State.popFrame_pings (p : Port) :
    (s.popFrame p).pings = s.pings := rfl
@[simp] theorem State.popFrame_roster (p : Port) :
    (s.popFrame p).roster = s.roster := rfl
@[simp] theorem State.popFrame_readCursors (p : Port) :
    (s.popFrame p).readCursors = s.readCursors := rfl
@[simp] theorem State.popFrame_groups (p : Port) :
    (s.popFrame p).groups = s.groups := rfl
@[simp] theorem State.popFrame_discovery (p : Port) :
    (s.popFrame p).discovery = s.discovery := rfl
@[simp] theorem State.popFrame_levels (p : Port) :
    (s.popFrame p).levels = s.levels := rfl
@[simp] theorem State.popFrame_settings (p : Port) :
    (s.popFrame p).settings = s.settings := rfl
@[simp] theorem State.popFrame_store (p : Port) :
    (s.popFrame p).store = s.store := rfl
@[simp] theorem State.popFrame_identity (p : Port) :
    (s.popFrame p).identity = s.identity := rfl
@[simp] theorem State.popFrame_faults (p : Port) :
    (s.popFrame p).faults = s.faults := rfl
@[simp] theorem State.popFrame_surveys (p : Port) :
    (s.popFrame p).surveys = s.surveys := rfl

/-! ### reply -/

@[simp] theorem State.reply_pending (p : Port) (code tag : Byte) (o : ReplyCode) (c : List Byte) :
    (s.reply p code tag o c).pending = s.pending := rfl
@[simp] theorem State.reply_elapsed (p : Port) (code tag : Byte) (o : ReplyCode) (c : List Byte) :
    (s.reply p code tag o c).elapsed = s.elapsed := rfl
@[simp] theorem State.reply_freeCount (p : Port) (code tag : Byte) (o : ReplyCode) (c : List Byte) :
    (s.reply p code tag o c).freeCount = s.freeCount := rfl
@[simp] theorem State.reply_clock (p : Port) (code tag : Byte) (o : ReplyCode) (c : List Byte) :
    (s.reply p code tag o c).clock = s.clock := rfl
@[simp] theorem State.reply_mains (p : Port) (code tag : Byte) (o : ReplyCode) (c : List Byte) :
    (s.reply p code tag o c).mains = s.mains := rfl
@[simp] theorem State.reply_fPlan (p : Port) (code tag : Byte) (o : ReplyCode) (c : List Byte) :
    (s.reply p code tag o c).fPlan = s.fPlan := rfl
@[simp] theorem State.reply_excursion (p : Port) (code tag : Byte) (o : ReplyCode) (c : List Byte) :
    (s.reply p code tag o c).excursion = s.excursion := rfl
@[simp] theorem State.reply_calendar (p : Port) (code tag : Byte) (o : ReplyCode) (c : List Byte) :
    (s.reply p code tag o c).calendar = s.calendar := rfl
@[simp] theorem State.reply_lastHandle (p : Port) (code tag : Byte) (o : ReplyCode) (c : List Byte) :
    (s.reply p code tag o c).lastHandle = s.lastHandle := rfl
@[simp] theorem State.reply_retirement (p : Port) (code tag : Byte) (o : ReplyCode) (c : List Byte) :
    (s.reply p code tag o c).retirement = s.retirement := rfl
@[simp] theorem State.reply_line (p : Port) (code tag : Byte) (o : ReplyCode) (c : List Byte) :
    (s.reply p code tag o c).line = s.line := rfl
@[simp] theorem State.reply_hold (p : Port) (code tag : Byte) (o : ReplyCode) (c : List Byte) :
    (s.reply p code tag o c).hold = s.hold := rfl
@[simp] theorem State.reply_channels (p : Port) (code tag : Byte) (o : ReplyCode) (c : List Byte) :
    (s.reply p code tag o c).channels = s.channels := rfl
@[simp] theorem State.reply_testMasks (p : Port) (code tag : Byte) (o : ReplyCode) (c : List Byte) :
    (s.reply p code tag o c).testMasks = s.testMasks := rfl
@[simp] theorem State.reply_pings (p : Port) (code tag : Byte) (o : ReplyCode) (c : List Byte) :
    (s.reply p code tag o c).pings = s.pings := rfl
@[simp] theorem State.reply_roster (p : Port) (code tag : Byte) (o : ReplyCode) (c : List Byte) :
    (s.reply p code tag o c).roster = s.roster := rfl
@[simp] theorem State.reply_readCursors (p : Port) (code tag : Byte) (o : ReplyCode) (c : List Byte) :
    (s.reply p code tag o c).readCursors = s.readCursors := rfl
@[simp] theorem State.reply_groups (p : Port) (code tag : Byte) (o : ReplyCode) (c : List Byte) :
    (s.reply p code tag o c).groups = s.groups := rfl
@[simp] theorem State.reply_discovery (p : Port) (code tag : Byte) (o : ReplyCode) (c : List Byte) :
    (s.reply p code tag o c).discovery = s.discovery := rfl
@[simp] theorem State.reply_levels (p : Port) (code tag : Byte) (o : ReplyCode) (c : List Byte) :
    (s.reply p code tag o c).levels = s.levels := rfl
@[simp] theorem State.reply_settings (p : Port) (code tag : Byte) (o : ReplyCode) (c : List Byte) :
    (s.reply p code tag o c).settings = s.settings := rfl
@[simp] theorem State.reply_store (p : Port) (code tag : Byte) (o : ReplyCode) (c : List Byte) :
    (s.reply p code tag o c).store = s.store := rfl
@[simp] theorem State.reply_identity (p : Port) (code tag : Byte) (o : ReplyCode) (c : List Byte) :
    (s.reply p code tag o c).identity = s.identity := rfl
@[simp] theorem State.reply_faults (p : Port) (code tag : Byte) (o : ReplyCode) (c : List Byte) :
    (s.reply p code tag o c).faults = s.faults := rfl
@[simp] theorem State.reply_surveys (p : Port) (code tag : Byte) (o : ReplyCode) (c : List Byte) :
    (s.reply p code tag o c).surveys = s.surveys := rfl

/-! ### modChan -/

@[simp] theorem State.modChan_pending (ph : Phase) (f : Channel → Channel) :
    (s.modChan ph f).pending = s.pending := rfl
@[simp] theorem State.modChan_elapsed (ph : Phase) (f : Channel → Channel) :
    (s.modChan ph f).elapsed = s.elapsed := rfl
@[simp] theorem State.modChan_freeCount (ph : Phase) (f : Channel → Channel) :
    (s.modChan ph f).freeCount = s.freeCount := rfl
@[simp] theorem State.modChan_clock (ph : Phase) (f : Channel → Channel) :
    (s.modChan ph f).clock = s.clock := rfl
@[simp] theorem State.modChan_mains (ph : Phase) (f : Channel → Channel) :
    (s.modChan ph f).mains = s.mains := rfl
@[simp] theorem State.modChan_fPlan (ph : Phase) (f : Channel → Channel) :
    (s.modChan ph f).fPlan = s.fPlan := rfl
@[simp] theorem State.modChan_excursion (ph : Phase) (f : Channel → Channel) :
    (s.modChan ph f).excursion = s.excursion := rfl
@[simp] theorem State.modChan_ports (ph : Phase) (f : Channel → Channel) :
    (s.modChan ph f).ports = s.ports := rfl
@[simp] theorem State.modChan_calendar (ph : Phase) (f : Channel → Channel) :
    (s.modChan ph f).calendar = s.calendar := rfl
@[simp] theorem State.modChan_lastHandle (ph : Phase) (f : Channel → Channel) :
    (s.modChan ph f).lastHandle = s.lastHandle := rfl
@[simp] theorem State.modChan_retirement (ph : Phase) (f : Channel → Channel) :
    (s.modChan ph f).retirement = s.retirement := rfl
@[simp] theorem State.modChan_line (ph : Phase) (f : Channel → Channel) :
    (s.modChan ph f).line = s.line := rfl
@[simp] theorem State.modChan_hold (ph : Phase) (f : Channel → Channel) :
    (s.modChan ph f).hold = s.hold := rfl
@[simp] theorem State.modChan_testMasks (ph : Phase) (f : Channel → Channel) :
    (s.modChan ph f).testMasks = s.testMasks := rfl
@[simp] theorem State.modChan_pings (ph : Phase) (f : Channel → Channel) :
    (s.modChan ph f).pings = s.pings := rfl
@[simp] theorem State.modChan_roster (ph : Phase) (f : Channel → Channel) :
    (s.modChan ph f).roster = s.roster := rfl
@[simp] theorem State.modChan_readCursors (ph : Phase) (f : Channel → Channel) :
    (s.modChan ph f).readCursors = s.readCursors := rfl
@[simp] theorem State.modChan_groups (ph : Phase) (f : Channel → Channel) :
    (s.modChan ph f).groups = s.groups := rfl
@[simp] theorem State.modChan_discovery (ph : Phase) (f : Channel → Channel) :
    (s.modChan ph f).discovery = s.discovery := rfl
@[simp] theorem State.modChan_levels (ph : Phase) (f : Channel → Channel) :
    (s.modChan ph f).levels = s.levels := rfl
@[simp] theorem State.modChan_settings (ph : Phase) (f : Channel → Channel) :
    (s.modChan ph f).settings = s.settings := rfl
@[simp] theorem State.modChan_store (ph : Phase) (f : Channel → Channel) :
    (s.modChan ph f).store = s.store := rfl
@[simp] theorem State.modChan_identity (ph : Phase) (f : Channel → Channel) :
    (s.modChan ph f).identity = s.identity := rfl
@[simp] theorem State.modChan_faults (ph : Phase) (f : Channel → Channel) :
    (s.modChan ph f).faults = s.faults := rfl
@[simp] theorem State.modChan_surveys (ph : Phase) (f : Channel → Channel) :
    (s.modChan ph f).surveys = s.surveys := rfl

/-! ### modDisc -/

@[simp] theorem State.modDisc_pending (ph : Phase) (f : Discovery → Discovery) :
    (s.modDisc ph f).pending = s.pending := rfl
@[simp] theorem State.modDisc_elapsed (ph : Phase) (f : Discovery → Discovery) :
    (s.modDisc ph f).elapsed = s.elapsed := rfl
@[simp] theorem State.modDisc_freeCount (ph : Phase) (f : Discovery → Discovery) :
    (s.modDisc ph f).freeCount = s.freeCount := rfl
@[simp] theorem State.modDisc_clock (ph : Phase) (f : Discovery → Discovery) :
    (s.modDisc ph f).clock = s.clock := rfl
@[simp] theorem State.modDisc_mains (ph : Phase) (f : Discovery → Discovery) :
    (s.modDisc ph f).mains = s.mains := rfl
@[simp] theorem State.modDisc_fPlan (ph : Phase) (f : Discovery → Discovery) :
    (s.modDisc ph f).fPlan = s.fPlan := rfl
@[simp] theorem State.modDisc_excursion (ph : Phase) (f : Discovery → Discovery) :
    (s.modDisc ph f).excursion = s.excursion := rfl
@[simp] theorem State.modDisc_ports (ph : Phase) (f : Discovery → Discovery) :
    (s.modDisc ph f).ports = s.ports := rfl
@[simp] theorem State.modDisc_calendar (ph : Phase) (f : Discovery → Discovery) :
    (s.modDisc ph f).calendar = s.calendar := rfl
@[simp] theorem State.modDisc_lastHandle (ph : Phase) (f : Discovery → Discovery) :
    (s.modDisc ph f).lastHandle = s.lastHandle := rfl
@[simp] theorem State.modDisc_retirement (ph : Phase) (f : Discovery → Discovery) :
    (s.modDisc ph f).retirement = s.retirement := rfl
@[simp] theorem State.modDisc_line (ph : Phase) (f : Discovery → Discovery) :
    (s.modDisc ph f).line = s.line := rfl
@[simp] theorem State.modDisc_hold (ph : Phase) (f : Discovery → Discovery) :
    (s.modDisc ph f).hold = s.hold := rfl
@[simp] theorem State.modDisc_channels (ph : Phase) (f : Discovery → Discovery) :
    (s.modDisc ph f).channels = s.channels := rfl
@[simp] theorem State.modDisc_testMasks (ph : Phase) (f : Discovery → Discovery) :
    (s.modDisc ph f).testMasks = s.testMasks := rfl
@[simp] theorem State.modDisc_pings (ph : Phase) (f : Discovery → Discovery) :
    (s.modDisc ph f).pings = s.pings := rfl
@[simp] theorem State.modDisc_roster (ph : Phase) (f : Discovery → Discovery) :
    (s.modDisc ph f).roster = s.roster := rfl
@[simp] theorem State.modDisc_readCursors (ph : Phase) (f : Discovery → Discovery) :
    (s.modDisc ph f).readCursors = s.readCursors := rfl
@[simp] theorem State.modDisc_groups (ph : Phase) (f : Discovery → Discovery) :
    (s.modDisc ph f).groups = s.groups := rfl
@[simp] theorem State.modDisc_levels (ph : Phase) (f : Discovery → Discovery) :
    (s.modDisc ph f).levels = s.levels := rfl
@[simp] theorem State.modDisc_settings (ph : Phase) (f : Discovery → Discovery) :
    (s.modDisc ph f).settings = s.settings := rfl
@[simp] theorem State.modDisc_store (ph : Phase) (f : Discovery → Discovery) :
    (s.modDisc ph f).store = s.store := rfl
@[simp] theorem State.modDisc_identity (ph : Phase) (f : Discovery → Discovery) :
    (s.modDisc ph f).identity = s.identity := rfl
@[simp] theorem State.modDisc_faults (ph : Phase) (f : Discovery → Discovery) :
    (s.modDisc ph f).faults = s.faults := rfl
@[simp] theorem State.modDisc_surveys (ph : Phase) (f : Discovery → Discovery) :
    (s.modDisc ph f).surveys = s.surveys := rfl

/-! ### modLevel -/

@[simp] theorem State.modLevel_pending (ph : Phase) (f : LevelRec → LevelRec) :
    (s.modLevel ph f).pending = s.pending := rfl
@[simp] theorem State.modLevel_elapsed (ph : Phase) (f : LevelRec → LevelRec) :
    (s.modLevel ph f).elapsed = s.elapsed := rfl
@[simp] theorem State.modLevel_freeCount (ph : Phase) (f : LevelRec → LevelRec) :
    (s.modLevel ph f).freeCount = s.freeCount := rfl
@[simp] theorem State.modLevel_clock (ph : Phase) (f : LevelRec → LevelRec) :
    (s.modLevel ph f).clock = s.clock := rfl
@[simp] theorem State.modLevel_mains (ph : Phase) (f : LevelRec → LevelRec) :
    (s.modLevel ph f).mains = s.mains := rfl
@[simp] theorem State.modLevel_fPlan (ph : Phase) (f : LevelRec → LevelRec) :
    (s.modLevel ph f).fPlan = s.fPlan := rfl
@[simp] theorem State.modLevel_excursion (ph : Phase) (f : LevelRec → LevelRec) :
    (s.modLevel ph f).excursion = s.excursion := rfl
@[simp] theorem State.modLevel_ports (ph : Phase) (f : LevelRec → LevelRec) :
    (s.modLevel ph f).ports = s.ports := rfl
@[simp] theorem State.modLevel_calendar (ph : Phase) (f : LevelRec → LevelRec) :
    (s.modLevel ph f).calendar = s.calendar := rfl
@[simp] theorem State.modLevel_lastHandle (ph : Phase) (f : LevelRec → LevelRec) :
    (s.modLevel ph f).lastHandle = s.lastHandle := rfl
@[simp] theorem State.modLevel_retirement (ph : Phase) (f : LevelRec → LevelRec) :
    (s.modLevel ph f).retirement = s.retirement := rfl
@[simp] theorem State.modLevel_line (ph : Phase) (f : LevelRec → LevelRec) :
    (s.modLevel ph f).line = s.line := rfl
@[simp] theorem State.modLevel_hold (ph : Phase) (f : LevelRec → LevelRec) :
    (s.modLevel ph f).hold = s.hold := rfl
@[simp] theorem State.modLevel_channels (ph : Phase) (f : LevelRec → LevelRec) :
    (s.modLevel ph f).channels = s.channels := rfl
@[simp] theorem State.modLevel_testMasks (ph : Phase) (f : LevelRec → LevelRec) :
    (s.modLevel ph f).testMasks = s.testMasks := rfl
@[simp] theorem State.modLevel_pings (ph : Phase) (f : LevelRec → LevelRec) :
    (s.modLevel ph f).pings = s.pings := rfl
@[simp] theorem State.modLevel_roster (ph : Phase) (f : LevelRec → LevelRec) :
    (s.modLevel ph f).roster = s.roster := rfl
@[simp] theorem State.modLevel_readCursors (ph : Phase) (f : LevelRec → LevelRec) :
    (s.modLevel ph f).readCursors = s.readCursors := rfl
@[simp] theorem State.modLevel_groups (ph : Phase) (f : LevelRec → LevelRec) :
    (s.modLevel ph f).groups = s.groups := rfl
@[simp] theorem State.modLevel_discovery (ph : Phase) (f : LevelRec → LevelRec) :
    (s.modLevel ph f).discovery = s.discovery := rfl
@[simp] theorem State.modLevel_settings (ph : Phase) (f : LevelRec → LevelRec) :
    (s.modLevel ph f).settings = s.settings := rfl
@[simp] theorem State.modLevel_store (ph : Phase) (f : LevelRec → LevelRec) :
    (s.modLevel ph f).store = s.store := rfl
@[simp] theorem State.modLevel_identity (ph : Phase) (f : LevelRec → LevelRec) :
    (s.modLevel ph f).identity = s.identity := rfl
@[simp] theorem State.modLevel_faults (ph : Phase) (f : LevelRec → LevelRec) :
    (s.modLevel ph f).faults = s.faults := rfl
@[simp] theorem State.modLevel_surveys (ph : Phase) (f : LevelRec → LevelRec) :
    (s.modLevel ph f).surveys = s.surveys := rfl

/-! ### modSurvey -/

@[simp] theorem State.modSurvey_pending (ph : Phase) (f : Survey → Survey) :
    (s.modSurvey ph f).pending = s.pending := rfl
@[simp] theorem State.modSurvey_elapsed (ph : Phase) (f : Survey → Survey) :
    (s.modSurvey ph f).elapsed = s.elapsed := rfl
@[simp] theorem State.modSurvey_freeCount (ph : Phase) (f : Survey → Survey) :
    (s.modSurvey ph f).freeCount = s.freeCount := rfl
@[simp] theorem State.modSurvey_clock (ph : Phase) (f : Survey → Survey) :
    (s.modSurvey ph f).clock = s.clock := rfl
@[simp] theorem State.modSurvey_mains (ph : Phase) (f : Survey → Survey) :
    (s.modSurvey ph f).mains = s.mains := rfl
@[simp] theorem State.modSurvey_fPlan (ph : Phase) (f : Survey → Survey) :
    (s.modSurvey ph f).fPlan = s.fPlan := rfl
@[simp] theorem State.modSurvey_excursion (ph : Phase) (f : Survey → Survey) :
    (s.modSurvey ph f).excursion = s.excursion := rfl
@[simp] theorem State.modSurvey_ports (ph : Phase) (f : Survey → Survey) :
    (s.modSurvey ph f).ports = s.ports := rfl
@[simp] theorem State.modSurvey_calendar (ph : Phase) (f : Survey → Survey) :
    (s.modSurvey ph f).calendar = s.calendar := rfl
@[simp] theorem State.modSurvey_lastHandle (ph : Phase) (f : Survey → Survey) :
    (s.modSurvey ph f).lastHandle = s.lastHandle := rfl
@[simp] theorem State.modSurvey_retirement (ph : Phase) (f : Survey → Survey) :
    (s.modSurvey ph f).retirement = s.retirement := rfl
@[simp] theorem State.modSurvey_line (ph : Phase) (f : Survey → Survey) :
    (s.modSurvey ph f).line = s.line := rfl
@[simp] theorem State.modSurvey_hold (ph : Phase) (f : Survey → Survey) :
    (s.modSurvey ph f).hold = s.hold := rfl
@[simp] theorem State.modSurvey_channels (ph : Phase) (f : Survey → Survey) :
    (s.modSurvey ph f).channels = s.channels := rfl
@[simp] theorem State.modSurvey_testMasks (ph : Phase) (f : Survey → Survey) :
    (s.modSurvey ph f).testMasks = s.testMasks := rfl
@[simp] theorem State.modSurvey_pings (ph : Phase) (f : Survey → Survey) :
    (s.modSurvey ph f).pings = s.pings := rfl
@[simp] theorem State.modSurvey_roster (ph : Phase) (f : Survey → Survey) :
    (s.modSurvey ph f).roster = s.roster := rfl
@[simp] theorem State.modSurvey_readCursors (ph : Phase) (f : Survey → Survey) :
    (s.modSurvey ph f).readCursors = s.readCursors := rfl
@[simp] theorem State.modSurvey_groups (ph : Phase) (f : Survey → Survey) :
    (s.modSurvey ph f).groups = s.groups := rfl
@[simp] theorem State.modSurvey_discovery (ph : Phase) (f : Survey → Survey) :
    (s.modSurvey ph f).discovery = s.discovery := rfl
@[simp] theorem State.modSurvey_levels (ph : Phase) (f : Survey → Survey) :
    (s.modSurvey ph f).levels = s.levels := rfl
@[simp] theorem State.modSurvey_settings (ph : Phase) (f : Survey → Survey) :
    (s.modSurvey ph f).settings = s.settings := rfl
@[simp] theorem State.modSurvey_store (ph : Phase) (f : Survey → Survey) :
    (s.modSurvey ph f).store = s.store := rfl
@[simp] theorem State.modSurvey_identity (ph : Phase) (f : Survey → Survey) :
    (s.modSurvey ph f).identity = s.identity := rfl
@[simp] theorem State.modSurvey_faults (ph : Phase) (f : Survey → Survey) :
    (s.modSurvey ph f).faults = s.faults := rfl

/-! ### modPings -/

@[simp] theorem State.modPings_pending (ph : Phase) (f : List PingRec → List PingRec) :
    (s.modPings ph f).pending = s.pending := rfl
@[simp] theorem State.modPings_elapsed (ph : Phase) (f : List PingRec → List PingRec) :
    (s.modPings ph f).elapsed = s.elapsed := rfl
@[simp] theorem State.modPings_freeCount (ph : Phase) (f : List PingRec → List PingRec) :
    (s.modPings ph f).freeCount = s.freeCount := rfl
@[simp] theorem State.modPings_clock (ph : Phase) (f : List PingRec → List PingRec) :
    (s.modPings ph f).clock = s.clock := rfl
@[simp] theorem State.modPings_mains (ph : Phase) (f : List PingRec → List PingRec) :
    (s.modPings ph f).mains = s.mains := rfl
@[simp] theorem State.modPings_fPlan (ph : Phase) (f : List PingRec → List PingRec) :
    (s.modPings ph f).fPlan = s.fPlan := rfl
@[simp] theorem State.modPings_excursion (ph : Phase) (f : List PingRec → List PingRec) :
    (s.modPings ph f).excursion = s.excursion := rfl
@[simp] theorem State.modPings_ports (ph : Phase) (f : List PingRec → List PingRec) :
    (s.modPings ph f).ports = s.ports := rfl
@[simp] theorem State.modPings_calendar (ph : Phase) (f : List PingRec → List PingRec) :
    (s.modPings ph f).calendar = s.calendar := rfl
@[simp] theorem State.modPings_lastHandle (ph : Phase) (f : List PingRec → List PingRec) :
    (s.modPings ph f).lastHandle = s.lastHandle := rfl
@[simp] theorem State.modPings_retirement (ph : Phase) (f : List PingRec → List PingRec) :
    (s.modPings ph f).retirement = s.retirement := rfl
@[simp] theorem State.modPings_line (ph : Phase) (f : List PingRec → List PingRec) :
    (s.modPings ph f).line = s.line := rfl
@[simp] theorem State.modPings_hold (ph : Phase) (f : List PingRec → List PingRec) :
    (s.modPings ph f).hold = s.hold := rfl
@[simp] theorem State.modPings_channels (ph : Phase) (f : List PingRec → List PingRec) :
    (s.modPings ph f).channels = s.channels := rfl
@[simp] theorem State.modPings_testMasks (ph : Phase) (f : List PingRec → List PingRec) :
    (s.modPings ph f).testMasks = s.testMasks := rfl
@[simp] theorem State.modPings_roster (ph : Phase) (f : List PingRec → List PingRec) :
    (s.modPings ph f).roster = s.roster := rfl
@[simp] theorem State.modPings_readCursors (ph : Phase) (f : List PingRec → List PingRec) :
    (s.modPings ph f).readCursors = s.readCursors := rfl
@[simp] theorem State.modPings_groups (ph : Phase) (f : List PingRec → List PingRec) :
    (s.modPings ph f).groups = s.groups := rfl
@[simp] theorem State.modPings_discovery (ph : Phase) (f : List PingRec → List PingRec) :
    (s.modPings ph f).discovery = s.discovery := rfl
@[simp] theorem State.modPings_levels (ph : Phase) (f : List PingRec → List PingRec) :
    (s.modPings ph f).levels = s.levels := rfl
@[simp] theorem State.modPings_settings (ph : Phase) (f : List PingRec → List PingRec) :
    (s.modPings ph f).settings = s.settings := rfl
@[simp] theorem State.modPings_store (ph : Phase) (f : List PingRec → List PingRec) :
    (s.modPings ph f).store = s.store := rfl
@[simp] theorem State.modPings_identity (ph : Phase) (f : List PingRec → List PingRec) :
    (s.modPings ph f).identity = s.identity := rfl
@[simp] theorem State.modPings_faults (ph : Phase) (f : List PingRec → List PingRec) :
    (s.modPings ph f).faults = s.faults := rfl
@[simp] theorem State.modPings_surveys (ph : Phase) (f : List PingRec → List PingRec) :
    (s.modPings ph f).surveys = s.surveys := rfl

/-! ### setPhaseRec -/

@[simp] theorem State.setPhaseRec_pending (ph : Phase) (r : PhaseRec) :
    (s.setPhaseRec ph r).pending = s.pending := rfl
@[simp] theorem State.setPhaseRec_elapsed (ph : Phase) (r : PhaseRec) :
    (s.setPhaseRec ph r).elapsed = s.elapsed := rfl
@[simp] theorem State.setPhaseRec_freeCount (ph : Phase) (r : PhaseRec) :
    (s.setPhaseRec ph r).freeCount = s.freeCount := rfl
@[simp] theorem State.setPhaseRec_clock (ph : Phase) (r : PhaseRec) :
    (s.setPhaseRec ph r).clock = s.clock := rfl
@[simp] theorem State.setPhaseRec_fPlan (ph : Phase) (r : PhaseRec) :
    (s.setPhaseRec ph r).fPlan = s.fPlan := rfl
@[simp] theorem State.setPhaseRec_excursion (ph : Phase) (r : PhaseRec) :
    (s.setPhaseRec ph r).excursion = s.excursion := rfl
@[simp] theorem State.setPhaseRec_ports (ph : Phase) (r : PhaseRec) :
    (s.setPhaseRec ph r).ports = s.ports := rfl
@[simp] theorem State.setPhaseRec_calendar (ph : Phase) (r : PhaseRec) :
    (s.setPhaseRec ph r).calendar = s.calendar := rfl
@[simp] theorem State.setPhaseRec_lastHandle (ph : Phase) (r : PhaseRec) :
    (s.setPhaseRec ph r).lastHandle = s.lastHandle := rfl
@[simp] theorem State.setPhaseRec_retirement (ph : Phase) (r : PhaseRec) :
    (s.setPhaseRec ph r).retirement = s.retirement := rfl
@[simp] theorem State.setPhaseRec_line (ph : Phase) (r : PhaseRec) :
    (s.setPhaseRec ph r).line = s.line := rfl
@[simp] theorem State.setPhaseRec_hold (ph : Phase) (r : PhaseRec) :
    (s.setPhaseRec ph r).hold = s.hold := rfl
@[simp] theorem State.setPhaseRec_channels (ph : Phase) (r : PhaseRec) :
    (s.setPhaseRec ph r).channels = s.channels := rfl
@[simp] theorem State.setPhaseRec_testMasks (ph : Phase) (r : PhaseRec) :
    (s.setPhaseRec ph r).testMasks = s.testMasks := rfl
@[simp] theorem State.setPhaseRec_pings (ph : Phase) (r : PhaseRec) :
    (s.setPhaseRec ph r).pings = s.pings := rfl
@[simp] theorem State.setPhaseRec_roster (ph : Phase) (r : PhaseRec) :
    (s.setPhaseRec ph r).roster = s.roster := rfl
@[simp] theorem State.setPhaseRec_readCursors (ph : Phase) (r : PhaseRec) :
    (s.setPhaseRec ph r).readCursors = s.readCursors := rfl
@[simp] theorem State.setPhaseRec_groups (ph : Phase) (r : PhaseRec) :
    (s.setPhaseRec ph r).groups = s.groups := rfl
@[simp] theorem State.setPhaseRec_discovery (ph : Phase) (r : PhaseRec) :
    (s.setPhaseRec ph r).discovery = s.discovery := rfl
@[simp] theorem State.setPhaseRec_levels (ph : Phase) (r : PhaseRec) :
    (s.setPhaseRec ph r).levels = s.levels := rfl
@[simp] theorem State.setPhaseRec_settings (ph : Phase) (r : PhaseRec) :
    (s.setPhaseRec ph r).settings = s.settings := rfl
@[simp] theorem State.setPhaseRec_store (ph : Phase) (r : PhaseRec) :
    (s.setPhaseRec ph r).store = s.store := rfl
@[simp] theorem State.setPhaseRec_identity (ph : Phase) (r : PhaseRec) :
    (s.setPhaseRec ph r).identity = s.identity := rfl
@[simp] theorem State.setPhaseRec_faults (ph : Phase) (r : PhaseRec) :
    (s.setPhaseRec ph r).faults = s.faults := rfl
@[simp] theorem State.setPhaseRec_surveys (ph : Phase) (r : PhaseRec) :
    (s.setPhaseRec ph r).surveys = s.surveys := rfl

/-! ### modEntry -/

@[simp] theorem State.modEntry_pending (h : Nat) (f : Entry → Entry) :
    (s.modEntry h f).pending = s.pending := rfl
@[simp] theorem State.modEntry_elapsed (h : Nat) (f : Entry → Entry) :
    (s.modEntry h f).elapsed = s.elapsed := rfl
@[simp] theorem State.modEntry_freeCount (h : Nat) (f : Entry → Entry) :
    (s.modEntry h f).freeCount = s.freeCount := rfl
@[simp] theorem State.modEntry_clock (h : Nat) (f : Entry → Entry) :
    (s.modEntry h f).clock = s.clock := rfl
@[simp] theorem State.modEntry_mains (h : Nat) (f : Entry → Entry) :
    (s.modEntry h f).mains = s.mains := rfl
@[simp] theorem State.modEntry_fPlan (h : Nat) (f : Entry → Entry) :
    (s.modEntry h f).fPlan = s.fPlan := rfl
@[simp] theorem State.modEntry_excursion (h : Nat) (f : Entry → Entry) :
    (s.modEntry h f).excursion = s.excursion := rfl
@[simp] theorem State.modEntry_ports (h : Nat) (f : Entry → Entry) :
    (s.modEntry h f).ports = s.ports := rfl
@[simp] theorem State.modEntry_lastHandle (h : Nat) (f : Entry → Entry) :
    (s.modEntry h f).lastHandle = s.lastHandle := rfl
@[simp] theorem State.modEntry_retirement (h : Nat) (f : Entry → Entry) :
    (s.modEntry h f).retirement = s.retirement := rfl
@[simp] theorem State.modEntry_line (h : Nat) (f : Entry → Entry) :
    (s.modEntry h f).line = s.line := rfl
@[simp] theorem State.modEntry_hold (h : Nat) (f : Entry → Entry) :
    (s.modEntry h f).hold = s.hold := rfl
@[simp] theorem State.modEntry_channels (h : Nat) (f : Entry → Entry) :
    (s.modEntry h f).channels = s.channels := rfl
@[simp] theorem State.modEntry_testMasks (h : Nat) (f : Entry → Entry) :
    (s.modEntry h f).testMasks = s.testMasks := rfl
@[simp] theorem State.modEntry_pings (h : Nat) (f : Entry → Entry) :
    (s.modEntry h f).pings = s.pings := rfl
@[simp] theorem State.modEntry_roster (h : Nat) (f : Entry → Entry) :
    (s.modEntry h f).roster = s.roster := rfl
@[simp] theorem State.modEntry_readCursors (h : Nat) (f : Entry → Entry) :
    (s.modEntry h f).readCursors = s.readCursors := rfl
@[simp] theorem State.modEntry_groups (h : Nat) (f : Entry → Entry) :
    (s.modEntry h f).groups = s.groups := rfl
@[simp] theorem State.modEntry_discovery (h : Nat) (f : Entry → Entry) :
    (s.modEntry h f).discovery = s.discovery := rfl
@[simp] theorem State.modEntry_levels (h : Nat) (f : Entry → Entry) :
    (s.modEntry h f).levels = s.levels := rfl
@[simp] theorem State.modEntry_settings (h : Nat) (f : Entry → Entry) :
    (s.modEntry h f).settings = s.settings := rfl
@[simp] theorem State.modEntry_store (h : Nat) (f : Entry → Entry) :
    (s.modEntry h f).store = s.store := rfl
@[simp] theorem State.modEntry_identity (h : Nat) (f : Entry → Entry) :
    (s.modEntry h f).identity = s.identity := rfl
@[simp] theorem State.modEntry_faults (h : Nat) (f : Entry → Entry) :
    (s.modEntry h f).faults = s.faults := rfl
@[simp] theorem State.modEntry_surveys (h : Nat) (f : Entry → Entry) :
    (s.modEntry h f).surveys = s.surveys := rfl

/-! ### modPart -/

@[simp] theorem State.modPart_pending (h : Nat) (ph : Phase) (f : Part → Part) :
    (s.modPart h ph f).pending = s.pending := rfl
@[simp] theorem State.modPart_elapsed (h : Nat) (ph : Phase) (f : Part → Part) :
    (s.modPart h ph f).elapsed = s.elapsed := rfl
@[simp] theorem State.modPart_freeCount (h : Nat) (ph : Phase) (f : Part → Part) :
    (s.modPart h ph f).freeCount = s.freeCount := rfl
@[simp] theorem State.modPart_clock (h : Nat) (ph : Phase) (f : Part → Part) :
    (s.modPart h ph f).clock = s.clock := rfl
@[simp] theorem State.modPart_mains (h : Nat) (ph : Phase) (f : Part → Part) :
    (s.modPart h ph f).mains = s.mains := rfl
@[simp] theorem State.modPart_fPlan (h : Nat) (ph : Phase) (f : Part → Part) :
    (s.modPart h ph f).fPlan = s.fPlan := rfl
@[simp] theorem State.modPart_excursion (h : Nat) (ph : Phase) (f : Part → Part) :
    (s.modPart h ph f).excursion = s.excursion := rfl
@[simp] theorem State.modPart_ports (h : Nat) (ph : Phase) (f : Part → Part) :
    (s.modPart h ph f).ports = s.ports := rfl
@[simp] theorem State.modPart_lastHandle (h : Nat) (ph : Phase) (f : Part → Part) :
    (s.modPart h ph f).lastHandle = s.lastHandle := rfl
@[simp] theorem State.modPart_retirement (h : Nat) (ph : Phase) (f : Part → Part) :
    (s.modPart h ph f).retirement = s.retirement := rfl
@[simp] theorem State.modPart_line (h : Nat) (ph : Phase) (f : Part → Part) :
    (s.modPart h ph f).line = s.line := rfl
@[simp] theorem State.modPart_hold (h : Nat) (ph : Phase) (f : Part → Part) :
    (s.modPart h ph f).hold = s.hold := rfl
@[simp] theorem State.modPart_channels (h : Nat) (ph : Phase) (f : Part → Part) :
    (s.modPart h ph f).channels = s.channels := rfl
@[simp] theorem State.modPart_testMasks (h : Nat) (ph : Phase) (f : Part → Part) :
    (s.modPart h ph f).testMasks = s.testMasks := rfl
@[simp] theorem State.modPart_pings (h : Nat) (ph : Phase) (f : Part → Part) :
    (s.modPart h ph f).pings = s.pings := rfl
@[simp] theorem State.modPart_roster (h : Nat) (ph : Phase) (f : Part → Part) :
    (s.modPart h ph f).roster = s.roster := rfl
@[simp] theorem State.modPart_readCursors (h : Nat) (ph : Phase) (f : Part → Part) :
    (s.modPart h ph f).readCursors = s.readCursors := rfl
@[simp] theorem State.modPart_groups (h : Nat) (ph : Phase) (f : Part → Part) :
    (s.modPart h ph f).groups = s.groups := rfl
@[simp] theorem State.modPart_discovery (h : Nat) (ph : Phase) (f : Part → Part) :
    (s.modPart h ph f).discovery = s.discovery := rfl
@[simp] theorem State.modPart_levels (h : Nat) (ph : Phase) (f : Part → Part) :
    (s.modPart h ph f).levels = s.levels := rfl
@[simp] theorem State.modPart_settings (h : Nat) (ph : Phase) (f : Part → Part) :
    (s.modPart h ph f).settings = s.settings := rfl
@[simp] theorem State.modPart_store (h : Nat) (ph : Phase) (f : Part → Part) :
    (s.modPart h ph f).store = s.store := rfl
@[simp] theorem State.modPart_identity (h : Nat) (ph : Phase) (f : Part → Part) :
    (s.modPart h ph f).identity = s.identity := rfl
@[simp] theorem State.modPart_faults (h : Nat) (ph : Phase) (f : Part → Part) :
    (s.modPart h ph f).faults = s.faults := rfl
@[simp] theorem State.modPart_surveys (h : Nat) (ph : Phase) (f : Part → Part) :
    (s.modPart h ph f).surveys = s.surveys := rfl

/-! ### modProgress -/

@[simp] theorem State.modProgress_pending (h : Nat) (ph : Phase) (f : PhaseProgress → PhaseProgress) :
    (s.modProgress h ph f).pending = s.pending := rfl
@[simp] theorem State.modProgress_elapsed (h : Nat) (ph : Phase) (f : PhaseProgress → PhaseProgress) :
    (s.modProgress h ph f).elapsed = s.elapsed := rfl
@[simp] theorem State.modProgress_freeCount (h : Nat) (ph : Phase) (f : PhaseProgress → PhaseProgress) :
    (s.modProgress h ph f).freeCount = s.freeCount := rfl
@[simp] theorem State.modProgress_clock (h : Nat) (ph : Phase) (f : PhaseProgress → PhaseProgress) :
    (s.modProgress h ph f).clock = s.clock := rfl
@[simp] theorem State.modProgress_mains (h : Nat) (ph : Phase) (f : PhaseProgress → PhaseProgress) :
    (s.modProgress h ph f).mains = s.mains := rfl
@[simp] theorem State.modProgress_fPlan (h : Nat) (ph : Phase) (f : PhaseProgress → PhaseProgress) :
    (s.modProgress h ph f).fPlan = s.fPlan := rfl
@[simp] theorem State.modProgress_excursion (h : Nat) (ph : Phase) (f : PhaseProgress → PhaseProgress) :
    (s.modProgress h ph f).excursion = s.excursion := rfl
@[simp] theorem State.modProgress_ports (h : Nat) (ph : Phase) (f : PhaseProgress → PhaseProgress) :
    (s.modProgress h ph f).ports = s.ports := rfl
@[simp] theorem State.modProgress_lastHandle (h : Nat) (ph : Phase) (f : PhaseProgress → PhaseProgress) :
    (s.modProgress h ph f).lastHandle = s.lastHandle := rfl
@[simp] theorem State.modProgress_retirement (h : Nat) (ph : Phase) (f : PhaseProgress → PhaseProgress) :
    (s.modProgress h ph f).retirement = s.retirement := rfl
@[simp] theorem State.modProgress_line (h : Nat) (ph : Phase) (f : PhaseProgress → PhaseProgress) :
    (s.modProgress h ph f).line = s.line := rfl
@[simp] theorem State.modProgress_hold (h : Nat) (ph : Phase) (f : PhaseProgress → PhaseProgress) :
    (s.modProgress h ph f).hold = s.hold := rfl
@[simp] theorem State.modProgress_channels (h : Nat) (ph : Phase) (f : PhaseProgress → PhaseProgress) :
    (s.modProgress h ph f).channels = s.channels := rfl
@[simp] theorem State.modProgress_testMasks (h : Nat) (ph : Phase) (f : PhaseProgress → PhaseProgress) :
    (s.modProgress h ph f).testMasks = s.testMasks := rfl
@[simp] theorem State.modProgress_pings (h : Nat) (ph : Phase) (f : PhaseProgress → PhaseProgress) :
    (s.modProgress h ph f).pings = s.pings := rfl
@[simp] theorem State.modProgress_roster (h : Nat) (ph : Phase) (f : PhaseProgress → PhaseProgress) :
    (s.modProgress h ph f).roster = s.roster := rfl
@[simp] theorem State.modProgress_readCursors (h : Nat) (ph : Phase) (f : PhaseProgress → PhaseProgress) :
    (s.modProgress h ph f).readCursors = s.readCursors := rfl
@[simp] theorem State.modProgress_groups (h : Nat) (ph : Phase) (f : PhaseProgress → PhaseProgress) :
    (s.modProgress h ph f).groups = s.groups := rfl
@[simp] theorem State.modProgress_discovery (h : Nat) (ph : Phase) (f : PhaseProgress → PhaseProgress) :
    (s.modProgress h ph f).discovery = s.discovery := rfl
@[simp] theorem State.modProgress_levels (h : Nat) (ph : Phase) (f : PhaseProgress → PhaseProgress) :
    (s.modProgress h ph f).levels = s.levels := rfl
@[simp] theorem State.modProgress_settings (h : Nat) (ph : Phase) (f : PhaseProgress → PhaseProgress) :
    (s.modProgress h ph f).settings = s.settings := rfl
@[simp] theorem State.modProgress_store (h : Nat) (ph : Phase) (f : PhaseProgress → PhaseProgress) :
    (s.modProgress h ph f).store = s.store := rfl
@[simp] theorem State.modProgress_identity (h : Nat) (ph : Phase) (f : PhaseProgress → PhaseProgress) :
    (s.modProgress h ph f).identity = s.identity := rfl
@[simp] theorem State.modProgress_faults (h : Nat) (ph : Phase) (f : PhaseProgress → PhaseProgress) :
    (s.modProgress h ph f).faults = s.faults := rfl
@[simp] theorem State.modProgress_surveys (h : Nat) (ph : Phase) (f : PhaseProgress → PhaseProgress) :
    (s.modProgress h ph f).surveys = s.surveys := rfl

/-! ### modUnit -/

@[simp] theorem State.modUnit_pending (i : Nat) (f : UnitRec → UnitRec) :
    (s.modUnit i f).pending = s.pending := rfl
@[simp] theorem State.modUnit_elapsed (i : Nat) (f : UnitRec → UnitRec) :
    (s.modUnit i f).elapsed = s.elapsed := rfl
@[simp] theorem State.modUnit_freeCount (i : Nat) (f : UnitRec → UnitRec) :
    (s.modUnit i f).freeCount = s.freeCount := rfl
@[simp] theorem State.modUnit_clock (i : Nat) (f : UnitRec → UnitRec) :
    (s.modUnit i f).clock = s.clock := rfl
@[simp] theorem State.modUnit_mains (i : Nat) (f : UnitRec → UnitRec) :
    (s.modUnit i f).mains = s.mains := rfl
@[simp] theorem State.modUnit_fPlan (i : Nat) (f : UnitRec → UnitRec) :
    (s.modUnit i f).fPlan = s.fPlan := rfl
@[simp] theorem State.modUnit_excursion (i : Nat) (f : UnitRec → UnitRec) :
    (s.modUnit i f).excursion = s.excursion := rfl
@[simp] theorem State.modUnit_ports (i : Nat) (f : UnitRec → UnitRec) :
    (s.modUnit i f).ports = s.ports := rfl
@[simp] theorem State.modUnit_calendar (i : Nat) (f : UnitRec → UnitRec) :
    (s.modUnit i f).calendar = s.calendar := rfl
@[simp] theorem State.modUnit_lastHandle (i : Nat) (f : UnitRec → UnitRec) :
    (s.modUnit i f).lastHandle = s.lastHandle := rfl
@[simp] theorem State.modUnit_retirement (i : Nat) (f : UnitRec → UnitRec) :
    (s.modUnit i f).retirement = s.retirement := rfl
@[simp] theorem State.modUnit_line (i : Nat) (f : UnitRec → UnitRec) :
    (s.modUnit i f).line = s.line := rfl
@[simp] theorem State.modUnit_hold (i : Nat) (f : UnitRec → UnitRec) :
    (s.modUnit i f).hold = s.hold := rfl
@[simp] theorem State.modUnit_channels (i : Nat) (f : UnitRec → UnitRec) :
    (s.modUnit i f).channels = s.channels := rfl
@[simp] theorem State.modUnit_testMasks (i : Nat) (f : UnitRec → UnitRec) :
    (s.modUnit i f).testMasks = s.testMasks := rfl
@[simp] theorem State.modUnit_pings (i : Nat) (f : UnitRec → UnitRec) :
    (s.modUnit i f).pings = s.pings := rfl
@[simp] theorem State.modUnit_readCursors (i : Nat) (f : UnitRec → UnitRec) :
    (s.modUnit i f).readCursors = s.readCursors := rfl
@[simp] theorem State.modUnit_groups (i : Nat) (f : UnitRec → UnitRec) :
    (s.modUnit i f).groups = s.groups := rfl
@[simp] theorem State.modUnit_discovery (i : Nat) (f : UnitRec → UnitRec) :
    (s.modUnit i f).discovery = s.discovery := rfl
@[simp] theorem State.modUnit_levels (i : Nat) (f : UnitRec → UnitRec) :
    (s.modUnit i f).levels = s.levels := rfl
@[simp] theorem State.modUnit_settings (i : Nat) (f : UnitRec → UnitRec) :
    (s.modUnit i f).settings = s.settings := rfl
@[simp] theorem State.modUnit_store (i : Nat) (f : UnitRec → UnitRec) :
    (s.modUnit i f).store = s.store := rfl
@[simp] theorem State.modUnit_identity (i : Nat) (f : UnitRec → UnitRec) :
    (s.modUnit i f).identity = s.identity := rfl
@[simp] theorem State.modUnit_faults (i : Nat) (f : UnitRec → UnitRec) :
    (s.modUnit i f).faults = s.faults := rfl
@[simp] theorem State.modUnit_surveys (i : Nat) (f : UnitRec → UnitRec) :
    (s.modUnit i f).surveys = s.surveys := rfl

/-! ### modGroup -/

@[simp] theorem State.modGroup_pending (g : Nat) (f : GroupRec → GroupRec) :
    (s.modGroup g f).pending = s.pending := rfl
@[simp] theorem State.modGroup_elapsed (g : Nat) (f : GroupRec → GroupRec) :
    (s.modGroup g f).elapsed = s.elapsed := rfl
@[simp] theorem State.modGroup_freeCount (g : Nat) (f : GroupRec → GroupRec) :
    (s.modGroup g f).freeCount = s.freeCount := rfl
@[simp] theorem State.modGroup_clock (g : Nat) (f : GroupRec → GroupRec) :
    (s.modGroup g f).clock = s.clock := rfl
@[simp] theorem State.modGroup_mains (g : Nat) (f : GroupRec → GroupRec) :
    (s.modGroup g f).mains = s.mains := rfl
@[simp] theorem State.modGroup_fPlan (g : Nat) (f : GroupRec → GroupRec) :
    (s.modGroup g f).fPlan = s.fPlan := rfl
@[simp] theorem State.modGroup_excursion (g : Nat) (f : GroupRec → GroupRec) :
    (s.modGroup g f).excursion = s.excursion := rfl
@[simp] theorem State.modGroup_ports (g : Nat) (f : GroupRec → GroupRec) :
    (s.modGroup g f).ports = s.ports := rfl
@[simp] theorem State.modGroup_calendar (g : Nat) (f : GroupRec → GroupRec) :
    (s.modGroup g f).calendar = s.calendar := rfl
@[simp] theorem State.modGroup_lastHandle (g : Nat) (f : GroupRec → GroupRec) :
    (s.modGroup g f).lastHandle = s.lastHandle := rfl
@[simp] theorem State.modGroup_retirement (g : Nat) (f : GroupRec → GroupRec) :
    (s.modGroup g f).retirement = s.retirement := rfl
@[simp] theorem State.modGroup_line (g : Nat) (f : GroupRec → GroupRec) :
    (s.modGroup g f).line = s.line := rfl
@[simp] theorem State.modGroup_hold (g : Nat) (f : GroupRec → GroupRec) :
    (s.modGroup g f).hold = s.hold := rfl
@[simp] theorem State.modGroup_channels (g : Nat) (f : GroupRec → GroupRec) :
    (s.modGroup g f).channels = s.channels := rfl
@[simp] theorem State.modGroup_testMasks (g : Nat) (f : GroupRec → GroupRec) :
    (s.modGroup g f).testMasks = s.testMasks := rfl
@[simp] theorem State.modGroup_pings (g : Nat) (f : GroupRec → GroupRec) :
    (s.modGroup g f).pings = s.pings := rfl
@[simp] theorem State.modGroup_roster (g : Nat) (f : GroupRec → GroupRec) :
    (s.modGroup g f).roster = s.roster := rfl
@[simp] theorem State.modGroup_readCursors (g : Nat) (f : GroupRec → GroupRec) :
    (s.modGroup g f).readCursors = s.readCursors := rfl
@[simp] theorem State.modGroup_discovery (g : Nat) (f : GroupRec → GroupRec) :
    (s.modGroup g f).discovery = s.discovery := rfl
@[simp] theorem State.modGroup_levels (g : Nat) (f : GroupRec → GroupRec) :
    (s.modGroup g f).levels = s.levels := rfl
@[simp] theorem State.modGroup_settings (g : Nat) (f : GroupRec → GroupRec) :
    (s.modGroup g f).settings = s.settings := rfl
@[simp] theorem State.modGroup_store (g : Nat) (f : GroupRec → GroupRec) :
    (s.modGroup g f).store = s.store := rfl
@[simp] theorem State.modGroup_identity (g : Nat) (f : GroupRec → GroupRec) :
    (s.modGroup g f).identity = s.identity := rfl
@[simp] theorem State.modGroup_faults (g : Nat) (f : GroupRec → GroupRec) :
    (s.modGroup g f).faults = s.faults := rfl
@[simp] theorem State.modGroup_surveys (g : Nat) (f : GroupRec → GroupRec) :
    (s.modGroup g f).surveys = s.surveys := rfl

/-! ### tick -/

@[simp] theorem State.tick_pending :
    s.tick.pending = s.pending := rfl
@[simp] theorem State.tick_freeCount :
    s.tick.freeCount = s.freeCount := rfl
@[simp] theorem State.tick_mains :
    s.tick.mains = s.mains := rfl
@[simp] theorem State.tick_fPlan :
    s.tick.fPlan = s.fPlan := rfl
@[simp] theorem State.tick_excursion :
    s.tick.excursion = s.excursion := rfl
@[simp] theorem State.tick_ports :
    s.tick.ports = s.ports := rfl
@[simp] theorem State.tick_calendar :
    s.tick.calendar = s.calendar := rfl
@[simp] theorem State.tick_lastHandle :
    s.tick.lastHandle = s.lastHandle := rfl
@[simp] theorem State.tick_retirement :
    s.tick.retirement = s.retirement := rfl
@[simp] theorem State.tick_line :
    s.tick.line = s.line := rfl
@[simp] theorem State.tick_hold :
    s.tick.hold = s.hold := rfl
@[simp] theorem State.tick_channels :
    s.tick.channels = s.channels := rfl
@[simp] theorem State.tick_testMasks :
    s.tick.testMasks = s.testMasks := rfl
@[simp] theorem State.tick_pings :
    s.tick.pings = s.pings := rfl
@[simp] theorem State.tick_roster :
    s.tick.roster = s.roster := rfl
@[simp] theorem State.tick_readCursors :
    s.tick.readCursors = s.readCursors := rfl
@[simp] theorem State.tick_groups :
    s.tick.groups = s.groups := rfl
@[simp] theorem State.tick_discovery :
    s.tick.discovery = s.discovery := rfl
@[simp] theorem State.tick_levels :
    s.tick.levels = s.levels := rfl
@[simp] theorem State.tick_settings :
    s.tick.settings = s.settings := rfl
@[simp] theorem State.tick_store :
    s.tick.store = s.store := rfl
@[simp] theorem State.tick_identity :
    s.tick.identity = s.identity := rfl
@[simp] theorem State.tick_faults :
    s.tick.faults = s.faults := rfl
@[simp] theorem State.tick_surveys :
    s.tick.surveys = s.surveys := rfl

end

end Sys2Proof.Machine
end

