-- ==== Sys2Proof/Laws/Ops.lean ====
section
/-! SUPPORT. What each shared operation can do, said once: taking a command, queuing items, offering notices, posting a
fault, the line's notice, the held notices, and the change that recomputes figures. -/

namespace Sys2Proof.Machine

/-! ## Taking a command -/

@[simp] theorem State.modPort_id (s : State) (p : Port) : s.modPort p (fun r => r) = s := by
  simp [State.modPort, State.port]

theorem State.modPort_congr (s : State) (p : Port) {f g : PortRec → PortRec} (h : f (s.port p) = g (s.port p)) :
    s.modPort p f = s.modPort p g := by simp [State.modPort, h]

theorem State.modPort_of_fixed (s : State) (p : Port) {f : PortRec → PortRec} (h : f (s.port p) = s.port p) :
    s.modPort p f = s := by
  rw [State.modPort, h, State.port, Duo.set_get]

/-- Popping an empty FIFO changes nothing. -/
theorem State.popFrame_of_empty (s : State) (p : Port) (h : (s.port p).fifo = []) : s.popFrame p = s := by
  apply s.modPort_of_fixed
  cases hp : s.port p; simp_all

/-- A command its port can take leaves the state with its frame gone. -/
theorem State.take_of_takes {s : State} {p : Port} {i : Instr} (h : s.takes p i) : s.take p i = some (s.popFrame p) := by
  obtain ⟨hr, hf⟩ := h
  unfold State.take State.headReading
  cases hq : (s.port p).fifo with
  | nil => simp [hr, s.popFrame_of_empty p hq]
  | cons f rest =>
      rcases hf with hf | hf
      · simp [hf] at hq
      · simp only [State.headReading, hq, Option.some.injEq] at hf
        simp [hr, hf]

/-- A command its port cannot take is not taken. -/
theorem State.take_of_not_takes {s : State} {p : Port} {i : Instr} (h : ¬ s.takes p i) : s.take p i = none := by
  unfold State.take State.headReading
  by_cases hr : s.replyRoom p i
  · cases hq : (s.port p).fifo with
    | nil => exact absurd ⟨hr, .inl hq⟩ h
    | cons f rest =>
        have : ¬ readFrame p f.overLong f.bytes = .command i := fun hc =>
          h ⟨hr, .inr (by simp [State.headReading, hq, hc])⟩
        simp [hr, this]
  · simp [hr]

theorem whenTaken_of_takes {s : State} {p : Port} {i : Instr} (f : State → State) (h : s.takes p i) :
    whenTaken s p i f = .next (f (s.popFrame p)) := by simp [whenTaken, State.take_of_takes h]

theorem whenTaken_of_not_takes {s : State} {p : Port} {i : Instr} (f : State → State) (h : ¬ s.takes p i) :
    whenTaken s p i f = .next s := by simp [whenTaken, State.take_of_not_takes h]

theorem whenTaken_next (s : State) (p : Port) (i : Instr) (f : State → State) : ∃ t, whenTaken s p i f = .next t := by
  by_cases h : s.takes p i
  · exact ⟨_, whenTaken_of_takes f h⟩
  · exact ⟨_, whenTaken_of_not_takes f h⟩

/-- What a taken or untaken command answers. -/
theorem whenTaken_cases {s t : State} {p : Port} {i : Instr} {f : State → State}
    (h : whenTaken s p i f = .next t) : (s.takes p i ∧ t = f (s.popFrame p)) ∨ (¬ s.takes p i ∧ t = s) := by
  by_cases ht : s.takes p i
  · rw [whenTaken_of_takes f ht] at h; cases h; exact .inl ⟨ht, rfl⟩
  · rw [whenTaken_of_not_takes f ht] at h; cases h; exact .inr ⟨ht, rfl⟩

/-! ## Out-queues -/

theorem noticeCount_append (q r : List Item) : noticeCount (q ++ r) = noticeCount q + noticeCount r := by
  simp [noticeCount]

@[simp] theorem noticeCount_reply (c t : Byte) (o : ReplyCode) (x : List Byte) : noticeCount [.reply c t o x] = 0 := rfl
@[simp] theorem noticeCount_notice (k : NoticeKind) (x : List Byte) : noticeCount [.notice k x] = 1 := rfl

theorem noticeRoom_iff (q : List Item) : noticeRoom q = true ↔ q.length < 16 ∧ noticeCount q < 15 := by
  rw [noticeRoom, Bool.and_eq_true, decide_eq_true_iff, decide_eq_true_iff]; rfl

@[simp] theorem State.port_pushItem_self (s : State) (p : Port) (i : Item) :
    (s.pushItem p i).port p = { s.port p with outq := (s.port p).outq ++ [i] } := by simp [State.pushItem]

theorem State.port_pushItem_ne (s : State) {p q : Port} (i : Item) (h : q ≠ p) : (s.pushItem p i).port q = s.port q :=
  s.port_modPort_ne _ h

/-- An offer is queued where the out-queue has room, and counted as a drop where it has none (R171). -/
theorem State.offer_cases (s : State) (p : Port) (i : Item) :
    (noticeRoom (s.port p).outq = true ∧ s.offer p i = s.pushItem p i) ∨
      (noticeRoom (s.port p).outq = false ∧
        s.offer p i = s.modPort p (fun r => { r with drops := saturatingSucc 65535 r.drops })) := by
  cases h : noticeRoom (s.port p).outq <;> simp [State.offer, h, Config.counterTop]

/-- An offer changes its port alone, and of it the out-queue or the drop counter. -/
theorem State.offer_frame (s : State) (p : Port) (i : Item) :
    ∃ q d, s.offer p i = s.modPort p (fun r => { r with outq := q, drops := d }) := by
  obtain ⟨-, h⟩ | ⟨-, h⟩ := s.offer_cases p i
  · exact ⟨(s.port p).outq ++ [i], (s.port p).drops, by rw [h]; exact s.modPort_congr p rfl⟩
  · exact ⟨(s.port p).outq, saturatingSucc 65535 (s.port p).drops, by rw [h]; exact s.modPort_congr p rfl⟩

/-- The out-queue after an offer is the one before, with the notice after it or without. -/
theorem State.offer_outq (s : State) (p : Port) (i : Item) :
    ((s.offer p i).port p).outq = (s.port p).outq ∨ ((s.offer p i).port p).outq = (s.port p).outq ++ [i] := by
  obtain ⟨-, h⟩ | ⟨-, h⟩ := s.offer_cases p i <;> rw [h] <;> simp

theorem State.offer_port_ne (s : State) {p q : Port} (i : Item) (h : q ≠ p) : (s.offer p i).port q = s.port q := by
  obtain ⟨a, b, e⟩ := s.offer_frame p i
  rw [e, s.port_modPort_ne _ h]

/-- A notice offered keeps the bounds of its out-queue (R169). -/
theorem State.offer_bounded (s : State) {p : Port} {k : NoticeKind} {x : List Byte} (h : (s.port p).bounded) :
    ((s.offer p (.notice k x)).port p).bounded := by
  obtain ⟨hr, e⟩ | ⟨-, e⟩ := s.offer_cases p (.notice k x)
  · rw [noticeRoom_iff] at hr
    simp only [e, State.port_pushItem_self, PortRec.bounded, List.length_append, List.length_singleton,
      noticeCount_append, noticeCount_notice]
    exact ⟨by omega, by omega, h.2.2⟩
  · simpa [e, PortRec.bounded] using h

/-! ## The port's waiting work -/

/-- The port carries a client command out as it is carried out by name. -/
theorem State.carryOut_client {i : Instr} {x : Port × Byte × Byte × List Byte} (s : State)
    (h : clientCommand i = some x) : s.carryOut i = exec i s := by
  cases i <;> first | rfl | cases h

/-- A port with nothing due has nothing to go on with. -/
theorem State.servePort_idle (n : Nat) {s : State} {p : Port} (h : s.portDue p = none) : State.servePort n p s = s := by
  cases n with
  | zero => rfl
  | succ n => simp [State.servePort, h]

/-- One round of a port's work. -/
theorem State.servePort_round (n : Nat) {s t u : State} {p : Port} {i : Instr} (h : s.portDue p = some (i, t))
    (k : t.carryOut i = .next u) : State.servePort (n + 1) p s = State.servePort n p u := by
  simp [State.servePort, h, k]

/-! ## The end of an event -/

/-- An event that decided no outcome retires no entry (R25). -/
theorem State.retireSince_of_none {s before : State} (h : ∀ e ∈ s.calendar, Entry.decidedSince before e = false) :
    s.retireSince before = s := by
  have : s.calendar.filter (Entry.decidedSince before) = [] := by
    rw [List.filter_eq_nil_iff]; exact fun e he => by simp [h e he]
  simp [State.retireSince, this]

/-! ## Faults and the line's notice -/

/-- The Fault Record once a fault has been posted (R187). -/
theorem State.post_faults (s : State) (f : FaultReport) :
    (s.post f).faults =
      { record := if s.faults.record.isNone then some (f, s.faultTime) else s.faults.record
        counters := s.faults.counters.set f.kind (saturatingSucc 255 (s.faults.counters.getD f.kind 0))
        generation := wrappingSucc 65535 s.faults.generation } := by
  unfold State.post State.offerBoth
  obtain ⟨a, b, e⟩ := State.offer_frame (State.offer { s with faults := _ } .A
    (faultNotice f s.faultTime (wrappingSucc 65535 s.faults.generation) s.faults.record.isNone)) .B
    (faultNotice f s.faultTime (wrappingSucc 65535 s.faults.generation) s.faults.record.isNone)
  obtain ⟨c, d, e'⟩ := State.offer_frame
    { s with
      faults :=
        { record := if s.faults.record.isNone then some (f, s.faultTime) else s.faults.record
          counters := s.faults.counters.set f.kind (saturatingSucc 255 (s.faults.counters.getD f.kind 0))
          generation := wrappingSucc 65535 s.faults.generation } } .A
    (faultNotice f s.faultTime (wrappingSucc 65535 s.faults.generation) s.faults.record.isNone)
  simp only [Config.counterTop]
  rw [e, e']
  rfl

/-! ## What a reply or a silence changes of R115 -/

/-- Nothing of R115 has changed: the own mode is the same, and so is whether the unit is LOST. -/
theorem UnitRec.figuresMoved_eq_false (u v : UnitRec) :
    u.figuresMoved v = false ↔ u.mode = v.mode ∧ (u.state = .lost ↔ v.state = .lost) := by
  cases hu : u.state <;> cases hv : v.state <;> simp [UnitRec.figuresMoved, hu, hv]

end Sys2Proof.Machine
end

