-- ==== Sys2Proof/Laws/Frames.lean ====
section
/-! SUPPORT. What the shared operations leave alone, said once for each: a relation for each set of fields that changes, with
its transitivity, and one lemma per operation. `CalFrame s t` reads: t is s but for the fields it names. -/

namespace Sys2Proof.Machine

/-! ## The relations -/

/-- Only the ports differ. -/
def PortsFrame (s t : State) : Prop := t = { s with ports := t.ports }

/-- Only the ports and the Fault Record differ. -/
def FaultFrame (s t : State) : Prop := t = { s with ports := t.ports, faults := t.faults }

/-- Only the ports, the calendar and the retirement queues differ. -/
def CalFrame (s t : State) : Prop :=
  t = { s with ports := t.ports, calendar := t.calendar, retirement := t.retirement }

/-- Only those and the channels differ. -/
def ChanFrame (s t : State) : Prop :=
  t = { s with ports := t.ports, calendar := t.calendar, retirement := t.retirement, channels := t.channels }

/-- Only those of `CalFrame` and the group records, the roster and the levels differ. -/
def RosterFrame (s t : State) : Prop :=
  t = { s with
    ports := t.ports, calendar := t.calendar, retirement := t.retirement, groups := t.groups, roster := t.roster,
    levels := t.levels }

/-- What the work of a channel can change: clock, mains, settings, store, identity, masks, hold set, cursors and the
model's own fields stay. -/
def WorkFrame (s t : State) : Prop :=
  t = { s with
    ports := t.ports, calendar := t.calendar, retirement := t.retirement, groups := t.groups, roster := t.roster,
    levels := t.levels, channels := t.channels, pings := t.pings, discovery := t.discovery, faults := t.faults,
    line := t.line, surveys := t.surveys }

theorem PortsFrame.refl (s : State) : PortsFrame s s := rfl
theorem FaultFrame.refl (s : State) : FaultFrame s s := rfl
theorem CalFrame.refl (s : State) : CalFrame s s := rfl
theorem ChanFrame.refl (s : State) : ChanFrame s s := rfl
theorem RosterFrame.refl (s : State) : RosterFrame s s := rfl
theorem WorkFrame.refl (s : State) : WorkFrame s s := rfl

variable {s t u : State}

theorem PortsFrame.trans (h : PortsFrame s t) (k : PortsFrame t u) : PortsFrame s u := Eq.trans k (by rw [h])
theorem FaultFrame.trans (h : FaultFrame s t) (k : FaultFrame t u) : FaultFrame s u := Eq.trans k (by rw [h])
theorem CalFrame.trans (h : CalFrame s t) (k : CalFrame t u) : CalFrame s u := Eq.trans k (by rw [h])
theorem ChanFrame.trans (h : ChanFrame s t) (k : ChanFrame t u) : ChanFrame s u := Eq.trans k (by rw [h])
theorem RosterFrame.trans (h : RosterFrame s t) (k : RosterFrame t u) : RosterFrame s u := Eq.trans k (by rw [h])
theorem WorkFrame.trans (h : WorkFrame s t) (k : WorkFrame t u) : WorkFrame s u := Eq.trans k (by rw [h])

theorem PortsFrame.cal (h : PortsFrame s t) : CalFrame s t := Eq.trans h (by rw [h])
theorem PortsFrame.fault (h : PortsFrame s t) : FaultFrame s t := Eq.trans h (by rw [h])
theorem PortsFrame.work (h : PortsFrame s t) : WorkFrame s t := Eq.trans h (by rw [h])
theorem FaultFrame.work (h : FaultFrame s t) : WorkFrame s t := Eq.trans h (by rw [h])
theorem CalFrame.chan (h : CalFrame s t) : ChanFrame s t := Eq.trans h (by rw [h])
theorem CalFrame.roster (h : CalFrame s t) : RosterFrame s t := Eq.trans h (by rw [h])
theorem ChanFrame.work (h : ChanFrame s t) : WorkFrame s t := Eq.trans h (by rw [h])
theorem RosterFrame.work (h : RosterFrame s t) : WorkFrame s t := Eq.trans h (by rw [h])
theorem CalFrame.work (h : CalFrame s t) : WorkFrame s t := h.chan.work

/-- A fold of operations that each keep a frame keeps it. -/
theorem foldl_frame {α : Type} (R : State → State → Prop) (hr : ∀ s, R s s)
    (ht : ∀ {s t u}, R s t → R t u → R s u) (f : State → α → State) (hf : ∀ s a, R s (f s a)) (l : List α) (s : State) :
    R s (l.foldl f s) := by
  induction l generalizing s with
  | nil => exact hr s
  | cons a l ih => exact ht (hf s a) (ih (f s a))

/-! ## Notices, faults and the line -/

theorem State.modPort_ports (s : State) (p : Port) (f : PortRec → PortRec) : PortsFrame s (s.modPort p f) := rfl
theorem State.pushItem_ports (s : State) (p : Port) (i : Item) : PortsFrame s (s.pushItem p i) := rfl
theorem State.reply_ports (s : State) (p : Port) (c t : Byte) (o : ReplyCode) (x : List Byte) :
    PortsFrame s (s.reply p c t o x) := rfl

theorem State.offer_ports (s : State) (p : Port) (i : Item) : PortsFrame s (s.offer p i) := by
  unfold State.offer; split <;> rfl

theorem State.offerBoth_ports (s : State) (i : Item) : PortsFrame s (s.offerBoth i) :=
  (s.offer_ports .A i).trans (State.offer_ports _ .B i)

theorem State.post_fault (s : State) (f : FaultReport) : FaultFrame s (s.post f) := by
  unfold State.post
  refine FaultFrame.trans (t := { s with faults := _ }) ?_ (State.offerBoth_ports _ _).fault
  rfl

theorem State.noteLine_ports (s : State) (l : LineState) (h : Duo Bool) : PortsFrame s (s.noteLine l h) := by
  unfold State.noteLine; split
  · rfl
  · exact s.offerBoth_ports _

theorem State.settleLine_work (s : State) : s.settleLine = { s with line := s.settleLine.line } := by
  unfold State.settleLine; split <;> rfl

theorem State.checkDrained_frame (s : State) :
    s.checkDrained = { s with ports := s.checkDrained.ports, line := s.checkDrained.line } := by
  unfold State.checkDrained
  rw [State.noteLine_ports s.settleLine s.line s.hold, State.settleLine_work]

theorem State.checkDrained_work (s : State) : WorkFrame s s.checkDrained :=
  Eq.trans s.checkDrained_frame (by rw [s.checkDrained_frame])

/-! ## Held notices -/

theorem State.completeHeld_outcome (s : State) (p : Port) (h : Nat) : CalFrame s (s.completeHeld p (.outcome h)) := rfl

theorem State.queueHeld_outcome (s : State) (p : Port) (h : Nat) : CalFrame s (s.queueHeld p (.outcome h)) := by
  unfold State.queueHeld; split <;> rfl

theorem State.offerHeld_outcome (s : State) (p : Port) (h : Nat) : CalFrame s (s.offerHeld p (.outcome h)) := by
  unfold State.offerHeld; split
  · exact s.queueHeld_outcome p h
  · rfl

theorem State.offerHeld_ping (s : State) (p : Port) (ph : Phase) : WorkFrame s (s.offerHeld p (.ping ph)) := by
  unfold State.offerHeld State.queueHeld State.completeHeld; split
  · split <;> rfl
  · rfl

theorem State.offerHeld_survey (s : State) (p : Port) (ph : Phase) : WorkFrame s (s.offerHeld p (.survey ph)) := by
  unfold State.offerHeld State.queueHeld State.completeHeld; split
  · split <;> rfl
  · rfl

/-! ## The calendar's operations -/

theorem State.modEntry_cal (s : State) (h : Nat) (f : Entry → Entry) : CalFrame s (s.modEntry h f) := rfl
theorem State.modPart_cal (s : State) (h : Nat) (ph : Phase) (f : Part → Part) : CalFrame s (s.modPart h ph f) := rfl
theorem State.modProgress_cal (s : State) (h : Nat) (ph : Phase) (f : PhaseProgress → PhaseProgress) :
    CalFrame s (s.modProgress h ph f) := rfl

theorem State.decideOutcome_cal (s : State) (h : Nat) : CalFrame s (s.decideOutcome h) := rfl

theorem State.joinRetirement_cal (s : State) (h : Nat) : CalFrame s (s.joinRetirement h) := by
  unfold State.joinRetirement; split
  · exact CalFrame.trans (t := { s with retirement := _ }) rfl (State.offerHeld_outcome _ _ h)
  · rfl

theorem State.retireSince_cal (s before : State) : CalFrame s (s.retireSince before) :=
  foldl_frame CalFrame CalFrame.refl CalFrame.trans _ State.joinRetirement_cal _ s

theorem State.settleConfirm_cal (s : State) (h : Nat) : CalFrame s (s.settleConfirm h) := by
  unfold State.settleConfirm; split
  · split
    · rfl
    · split
      · exact s.decideOutcome_cal h
      · split
        · exact (s.modEntry_cal h _).trans (State.decideOutcome_cal _ h)
        · split
          · rfl
          · exact s.decideOutcome_cal h
  · rfl

theorem State.cutShort_cal (s : State) (h : Nat) : CalFrame s (s.cutShort h) :=
  (s.modEntry_cal h _).trans (State.settleConfirm_cal _ h)

theorem State.judgeCutShort_cal (s : State) (h : Nat) : CalFrame s (s.judgeCutShort h) := by
  unfold State.judgeCutShort; split
  · split
    · exact s.cutShort_cal h
    · rfl
  · rfl

theorem State.cutShortGroup_cal (s : State) (g : Nat) : CalFrame s (s.cutShortGroup g) :=
  foldl_frame CalFrame CalFrame.refl CalFrame.trans _ State.judgeCutShort_cal _ s

theorem State.enterConfirming_cal (s : State) (h : Nat) : CalFrame s (s.enterConfirming h) := by
  unfold State.enterConfirming
  refine CalFrame.trans ?_ (State.settleConfirm_cal _ h)
  refine CalFrame.trans ?_ (State.judgeCutShort_cal _ h)
  exact (s.modEntry_cal h _).trans
    (foldl_frame CalFrame CalFrame.refl CalFrame.trans _ (fun s ph => s.modEntry_cal h (s.endPhase ph)) _ _)

theorem State.finishPart_cal (s : State) (h : Nat) (ph : Phase) (f : Finish) : CalFrame s (s.finishPart h ph f) := by
  unfold State.finishPart; split
  · split
    · rfl
    · exact (s.modPart_cal h ph _).trans (State.offer_ports _ _ _).cal
  · rfl

theorem State.settleEntry_cal (s : State) (h : Nat) : CalFrame s (s.settleEntry h) := by
  unfold State.settleEntry; split
  · split
    · rfl
    · split
      · exact s.enterConfirming_cal h
      · exact s.decideOutcome_cal h
  · rfl

theorem State.modChan_chan (s : State) (ph : Phase) (f : Channel → Channel) : ChanFrame s (s.modChan ph f) := rfl

theorem State.stopPart_chan (s : State) (h : Nat) (ph : Phase) : ChanFrame s (s.stopPart h ph) := by
  unfold State.stopPart; split
  · dsimp only; split
    · exact (s.finishPart_cal h ph _).chan
    · exact (s.finishPart_cal h ph _).chan
    · exact (s.finishPart_cal h ph _).chan.trans (State.modChan_chan _ ph _)
    · split
      · rfl
      · exact (s.finishPart_cal h ph _).chan.trans (State.modChan_chan _ ph _)
    · rfl
  · rfl

theorem State.stopParts_chan (s : State) (h : Nat) : ChanFrame s (s.stopParts h) :=
  foldl_frame ChanFrame ChanFrame.refl ChanFrame.trans _ (fun s ph => s.stopPart_chan h ph) _ s

theorem State.reachCutOff_chan (s : State) (h : Nat) : ChanFrame s (s.reachCutOff h) :=
  (s.modEntry_cal h _).chan.trans (State.stopParts_chan _ h)

theorem State.rereadPart_cal (s : State) (h : Nat) (ph : Phase) : CalFrame s (s.rereadPart h ph) := by
  unfold State.rereadPart; split
  · dsimp only; split
    · split
      · split
        · rfl
        · exact s.finishPart_cal h ph _
      · rfl
    · split
      · exact s.finishPart_cal h ph _
      · split <;> rfl
    · rfl
  · rfl

theorem State.rereadParts_cal (s : State) (h : Nat) : CalFrame s (s.rereadParts h) :=
  foldl_frame CalFrame CalFrame.refl CalFrame.trans _ (fun s ph => s.rereadPart_cal h ph) _ s

theorem State.reviewEntry_cal (s : State) (h : Nat) : CalFrame s (s.reviewEntry h) :=
  (s.settleEntry_cal h).trans (State.judgeCutShort_cal _ h)

theorem State.reviewParts_cal (s : State) (r : Bool) (h : Nat) : CalFrame s (s.reviewParts r false h) := by
  cases r with
  | false => exact s.rereadParts_cal h
  | true => exact (s.modEntry_cal h s.replanned).trans (State.rereadParts_cal _ h)

theorem State.reviewParts_chan (s : State) (r c : Bool) (h : Nat) : ChanFrame s (s.reviewParts r c h) := by
  cases c with
  | false => exact (s.reviewParts_cal r h).chan
  | true =>
      cases r with
      | false => exact s.reachCutOff_chan h
      | true => exact (s.modEntry_cal h s.replanned).chan.trans (State.reachCutOff_chan _ h)

theorem State.review_chan (s : State) (r : Bool) (test c : Entry → Bool) : ChanFrame s (s.review r test c) :=
  (foldl_frame ChanFrame ChanFrame.refl ChanFrame.trans _
    (fun s (e : Entry) => s.reviewParts_chan r (c e) e.handle) _ s).trans
    (foldl_frame CalFrame CalFrame.refl CalFrame.trans _ (fun s (e : Entry) => s.reviewEntry_cal e.handle) _ _).chan

theorem State.recompute_cal (s : State) (test : Entry → Bool) : CalFrame s (s.recompute test) :=
  (foldl_frame CalFrame CalFrame.refl CalFrame.trans _ (fun s (e : Entry) => s.reviewParts_cal true e.handle) _ s).trans
    (foldl_frame CalFrame CalFrame.refl CalFrame.trans _ (fun s (e : Entry) => s.reviewEntry_cal e.handle) _ _)

theorem State.recomputeAll_cal (s : State) : CalFrame s s.recomputeAll := s.recompute_cal _

theorem State.cancelEntry_chan (s : State) (h : Nat) : ChanFrame s (s.cancelEntry h) :=
  ((((s.modEntry_cal h _).chan.trans (State.stopParts_chan _ h)).trans (State.settleEntry_cal _ h).chan).trans
    (State.settleConfirm_cal _ h).chan).trans (State.retireSince_cal _ s).chan

theorem State.admit_cal (s : State) (p : Port) (tag : Byte) (a : SubmitArgs) (x : Action) (c : EntryClass) :
    s.admitted p tag a x c =
      { s with
        ports := (s.admitted p tag a x c).ports, calendar := (s.admitted p tag a x c).calendar
        retirement := (s.admitted p tag a x c).retirement, lastHandle := s.assignHandle } := by
  unfold State.admitted
  exact Eq.trans (((State.rereadParts_cal _ _).trans (State.settleEntry_cal _ _)).trans (State.retireSince_cal _ s)) rfl

theorem State.countExchange_cal (s : State) (h : Nat) (ph : Phase) (x : Exchange) (r : Option (Option Byte)) :
    CalFrame s (s.countExchange h ph x r) := by
  have decide (s : State) (f : PhaseProgress → PhaseProgress) : CalFrame s (s.decideUnit h ph f) := rfl
  have gone (s : State) : CalFrame s (s.unitGone h ph x.kind) := (s.modProgress_cal h ph _).trans (decide _ _)
  have unconfirmed (s : State) (i : Nat) : CalFrame s (s.decideUnconfirmed h ph i) := rfl
  have again (s : State) (i n : Nat) : CalFrame s (s.pollAgain h ph i n) := by
    unfold State.pollAgain; dsimp only; split
    · rfl
    · exact (s.modProgress_cal h ph _).trans (unconfirmed _ i)
  have ended (s : State) : CalFrame s (s.directEnded h ph x.index) := by
    unfold State.directEnded; split
    · exact again s _ _
    · rfl
  have silent (s : State) : CalFrame s (s.pollSilent h ph x.index) := by
    unfold State.pollSilent; dsimp only; split
    · exact (s.modProgress_cal h ph _).trans (again _ _ _)
    · rfl
  have replied (s : State) (q : Option Byte) : CalFrame s (s.pollReplied h ph x.index q) := by
    unfold State.pollReplied; dsimp only; split
    · split
      · exact (s.modProgress_cal h ph _).trans (decide _ _)
      · exact (s.modProgress_cal h ph _).trans (decide _ _)
      · split
        · exact (s.modProgress_cal h ph _).trans (again _ _ _)
        · rfl
    · rfl
  unfold State.countExchange
  refine CalFrame.trans ?_ (State.settleConfirm_cal _ h)
  split
  · exact gone s
  · split
    · exact ended s
    · exact replied s _
    · exact silent s

/-! ## Groups and roster -/

theorem State.refigure_roster (s : State) (g : Nat) : RosterFrame s (s.refigure g) := rfl

theorem State.recomputeGroups_roster (s : State) (gs : List Nat) : RosterFrame s (s.recomputeGroups gs) := by
  unfold State.recomputeGroups
  refine RosterFrame.trans ?_ (State.recompute_cal _ _).roster
  exact foldl_frame RosterFrame RosterFrame.refl RosterFrame.trans _ State.refigure_roster _ s

/-- The recomputation of groups leaves the roster and the levels alone. -/
theorem State.recomputeGroups_keeps (s : State) (gs : List Nat) :
    (s.recomputeGroups gs).roster = s.roster ∧ (s.recomputeGroups gs).levels = s.levels := by
  have h : ∀ (l : List Nat) (s : State),
      (l.foldl State.refigure s).roster = s.roster ∧ (l.foldl State.refigure s).levels = s.levels := by
    intro l
    induction l with
    | nil => exact fun s => ⟨rfl, rfl⟩
    | cons g l ih => exact fun s => ih (s.refigure g)
  unfold State.recomputeGroups
  rw [State.recompute_cal]
  exact h (0 :: gs) s

theorem State.noticeLost_ports (s : State) (before : Roster) (c : LostCause) : PortsFrame s (s.noticeLost before c) := by
  unfold State.noticeLost
  exact foldl_frame PortsFrame PortsFrame.refl PortsFrame.trans _
    (fun s (x : Nat × UnitRec) => s.offerBoth_ports (unitLostNotice x.1 x.2 c)) _ s

theorem State.withdrawRelay_roster (s : State) (i : Nat) : RosterFrame s (s.withdrawRelay i) := by
  unfold State.withdrawRelay
  refine RosterFrame.trans ?_ (State.noticeLost_ports _ _ _).cal.roster
  rfl

theorem State.applySilence_roster (s : State) (i : Nat) (a : Address) : RosterFrame s (s.applySilence i a) := by
  unfold State.applySilence; split
  · rfl
  · split
    · have h : ∀ v, RosterFrame s ((s.modUnit i (fun _ => v)).noticeLost s.roster .silence) := fun v =>
        RosterFrame.trans (t := s.modUnit i (fun _ => v)) rfl (State.noticeLost_ports _ _ _).cal.roster
      dsimp only; split
      · exact (h _).trans (State.recomputeGroups_roster _ _)
      · exact h _
    · rfl

theorem State.applyReply_roster (s : State) (ph : Phase) (x : Exchange) (r : ReplyReading) (uplink : Nat) (seed : Bool) :
    RosterFrame s (s.applyReply ph x r uplink seed) := by
  unfold State.applyReply; split
  · rfl
  · split
    · dsimp only; split
      · refine RosterFrame.trans ?_ (State.recomputeGroups_roster _ _)
        split <;> rfl
      · split <;> rfl
    · rfl

/-! ## The channels' work -/

theorem State.transmit_work (s : State) (ph : Phase) (w : Work) : WorkFrame s (s.transmit ph w) := rfl

theorem State.sendRepeat_work (s : State) (h : Nat) (ph : Phase) : WorkFrame s (s.sendRepeat h ph) := by
  unfold State.sendRepeat; split <;> rfl

theorem State.beginSending_work (s : State) (e : Entry) : WorkFrame s (s.beginSending e) := by
  unfold State.beginSending; dsimp only
  refine WorkFrame.trans ?_ (State.offer_ports _ _ _).work
  rfl

theorem State.startPart_work (s : State) (h : Nat) (ph : Phase) : WorkFrame s (s.startPart h ph) := by
  unfold State.startPart; split
  · dsimp only
    refine WorkFrame.trans ?_ (State.sendRepeat_work _ h ph)
    split
    · rename_i e _ _
      exact WorkFrame.trans (s.beginSending_work e) rfl
    · rfl
  · rfl

theorem State.startExchange_work (s : State) (ph : Phase) (o : ExchangeOwner) (k : ExchangeFrame) (e : Option Entry)
    (i : Nat) (u : UnitRec) : WorkFrame s (s.startExchange ph o k e i u) := rfl

theorem State.startProbe_work (s : State) (ph : Phase) (o : Origin) (f : ProbeFilter) (r : List Nat) :
    WorkFrame s (s.startProbe ph o f r) := rfl

theorem State.advanceOrigin_work (s : State) (ph : Phase) : WorkFrame s (s.advanceOrigin ph) := by
  unfold State.advanceOrigin; dsimp only; split <;> rfl

theorem State.completeQueued_work (s : State) (ph : Phase) (r : PingResult) : WorkFrame s (s.completeQueued ph r) := by
  unfold State.completeQueued; split
  · exact WorkFrame.trans (t := s.modPings ph _) rfl (State.offerHeld_ping _ _ ph)
  · rfl

theorem State.completeInFlight_work (s : State) (ph : Phase) (r : PingResult) :
    WorkFrame s (s.completeInFlight ph r) := by
  unfold State.completeInFlight; split
  · split
    · rfl
    · exact WorkFrame.trans (t := s.modPings ph _) rfl (State.offerHeld_ping _ _ ph)
  · rfl

theorem State.requeueInFlight_work (s : State) (ph : Phase) : WorkFrame s (s.requeueInFlight ph) := by
  unfold State.requeueInFlight; split
  · split <;> rfl
  · rfl

theorem State.silenceQueue_work (s : State) (ph : Phase) : WorkFrame s (s.silenceQueue ph) :=
  foldl_frame WorkFrame WorkFrame.refl WorkFrame.trans _ (fun s _ => s.completeQueued_work ph .silent) _ s

/-- Serving a choice keeps the frame, whether or not it starts work. -/
theorem State.serve_work (s : State) (ph : Phase) (c : Choice) :
    match s.serve ph c with
    | .started t => WorkFrame s t
    | .goOn t => WorkFrame s t := by
  have settle (t : State) (h : Nat) : WorkFrame t (t.settleConfirm h) := (t.settleConfirm_cal h).work
  cases c with
  | part h => exact s.startPart_work h ph
  | resume h =>
      simp only [State.serve, State.resumePart]
      refine WorkFrame.trans ?_ (State.sendRepeat_work _ h ph)
      rfl
  | confirm h =>
      simp only [State.serve, State.serveConfirm]
      split
      · rename_i hq; split at hq <;> (try split at hq) <;> (try split at hq) <;> (try split at hq) <;> (try split at hq) <;>
          cases hq <;> rfl
      · rename_i hq; split at hq <;> (try split at hq) <;> (try split at hq) <;> (try split at hq) <;> (try split at hq) <;>
          cases hq <;> first | rfl | (refine WorkFrame.trans ?_ (settle _ h); rfl)
  | ping =>
      simp only [State.serve, State.servePing]
      split
      · rename_i hq; split at hq <;> (try split at hq) <;> (try split at hq) <;> cases hq <;> rfl
      · rename_i hq; split at hq <;> (try split at hq) <;> (try split at hq) <;> cases hq <;>
          first | rfl | exact s.completeQueued_work ph _
  | registration =>
      simp only [State.serve, State.serveRegistration]
      split
      · rename_i hq; split at hq <;> (try split at hq) <;> (try split at hq) <;> cases hq <;> rfl
      · rename_i hq; split at hq <;> (try split at hq) <;> (try split at hq) <;> cases hq <;> rfl
  | probe =>
      simp only [State.serve, State.serveProbe]
      split
      · rename_i hq; split at hq <;> cases hq; exact s.startProbe_work ph _ _ _
      · rename_i hq; split at hq <;> cases hq; refine WorkFrame.trans ?_ (State.advanceOrigin_work _ ph); rfl

theorem State.arbitrate_work (n : Nat) (ph : Phase) (s : State) : WorkFrame s (State.arbitrate n ph s) := by
  induction n generalizing s with
  | zero => rfl
  | succ n ih =>
      unfold State.arbitrate; split
      · rfl
      · have h := s.serve_work ph ‹Choice›
        split
        · rename_i hq; simpa [hq] using h
        · rename_i hq; exact WorkFrame.trans (by simpa [hq] using h) (ih _)

theorem State.resumeOpen_work (s : State) (h : Nat) (ph : Phase) : WorkFrame s (s.resumeOpen h ph) := by
  unfold State.resumeOpen; split
  · split
    · exact (s.stopPart_chan h ph).work.trans (State.settleEntry_cal _ h).work
    · split
      · exact WorkFrame.trans (t := s.suspend h ph) rfl (State.arbitrate_work _ ph _)
      · exact s.sendRepeat_work h ph
  · rfl

theorem State.atCrossing_work (s : State) (ph : Phase) : WorkFrame s (s.atCrossing ph) := by
  unfold State.atCrossing; dsimp only; split
  · rfl
  · split
    · split
      · exact s.resumeOpen_work _ ph
      · rfl
    · exact State.arbitrate_work _ ph s

theorem State.markQuiet_work (s : State) (ph : Phase) : WorkFrame s (s.markQuiet ph) := rfl

theorem State.haltConfirmations_cal (s : State) (ph : Phase) : CalFrame s (s.haltConfirmations ph) := by
  unfold State.haltConfirmations
  exact foldl_frame CalFrame CalFrame.refl CalFrame.trans _
    (fun s (e : Entry) => (s.modEntry_cal e.handle (s.endPhase ph)).trans (State.settleConfirm_cal _ e.handle)) _ s

theorem State.halt_work (s : State) (ph : Phase) : WorkFrame s (s.halt ph) := by
  unfold State.halt; dsimp only
  refine WorkFrame.trans ?_ (State.haltConfirmations_cal _ ph).work
  refine WorkFrame.trans (u := State.modDisc _ ph _) (WorkFrame.trans ?_ (State.silenceQueue_work _ ph)) rfl
  refine WorkFrame.trans ?_ (State.post_fault _ _).work
  rfl

theorem State.afterWork_work (s : State) (ph : Phase) : WorkFrame s (s.afterWork ph) := by
  unfold State.afterWork; dsimp only
  refine WorkFrame.trans ?_ (State.markQuiet_work _ ph)
  refine WorkFrame.trans ?_ (State.atCrossing_work _ ph)
  refine WorkFrame.trans ?_ (State.checkDrained_work _)
  split
  · exact s.halt_work ph
  · rfl

theorem State.endExchange_work (s : State) (ph : Phase) (x : Exchange) (r : Option (ReplyReading × Nat)) :
    WorkFrame s (s.endExchange ph x r) := by
  unfold State.endExchange; dsimp only
  refine WorkFrame.trans ?_ (State.afterWork_work _ ph)
  cases r with
  | none =>
      dsimp only [Option.map_none]
      have c : WorkFrame s ((s.applySilence x.index x.address).clearWork ph) :=
        (s.applySilence_roster x.index x.address).work.trans rfl
      split
      · exact c.trans (State.countExchange_cal _ _ ph x _).work
      · exact c
      · exact c.trans (State.completeInFlight_work _ ph _)
      · exact c
  | some y =>
      obtain ⟨r, uplink⟩ := y
      dsimp only [Option.map_some]
      have c : ∀ seed, WorkFrame s ((s.applyReply ph x r uplink seed).clearWork ph) := fun seed =>
        (s.applyReply_roster ph x r uplink seed).work.trans rfl
      split
      · exact (c _).trans (State.countExchange_cal _ _ ph x _).work
      · exact c _
      · exact (c _).trans (State.completeInFlight_work _ ph _)
      · exact c _

theorem State.abandonFlood_work (s : State) (ph : Phase) (f : Flood) : WorkFrame s (s.abandonFlood ph f) := by
  unfold State.abandonFlood; split
  · split
    · split
      · exact (WorkFrame.trans (t := s.modChan ph _) rfl (State.finishPart_cal _ _ ph _).work).trans
          (State.settleEntry_cal _ _).work
      · rfl
    · rfl
  · rfl

theorem State.abandonExchange_work (s : State) (ph : Phase) (x : Exchange) : WorkFrame s (s.abandonExchange ph x) := by
  unfold State.abandonExchange; split
  · split
    · split
      · rfl
      · exact (s.settleConfirm_cal _).work
    · rfl
  · rfl
  · exact s.requeueInFlight_work ph
  · rfl

theorem State.abandonWork_work (s : State) (ph : Phase) : WorkFrame s (s.abandonWork ph) := by
  unfold State.abandonWork; dsimp only; split
  · exact WorkFrame.trans (t := s.modChan ph _) rfl (State.abandonFlood_work _ ph _)
  · exact WorkFrame.trans (t := s.modChan ph _) rfl (State.abandonExchange_work _ ph _)
  · rfl
  · rfl

theorem State.losePhase_frame (s : State) (ph : Phase) : WorkFrame (s.setPhaseRec ph PhaseRec.fresh) (s.losePhase ph) := by
  unfold State.losePhase; dsimp only
  refine WorkFrame.trans ?_ (State.checkDrained_work _)
  refine WorkFrame.trans ?_ (State.post_fault _ _).work
  split
  · rfl
  · split
    · refine WorkFrame.trans (WorkFrame.trans ?_ (State.abandonWork_work _ ph)) (State.halt_work _ ph)
      rfl
    · refine WorkFrame.trans ?_ (State.abandonWork_work _ ph)
      rfl

theorem State.sampleSlot_work (s : State) (ph : Phase) (noise : Int) : WorkFrame s (s.sampleSlot ph noise) := by
  unfold State.sampleSlot State.offerSurvey; dsimp only; split
  · split
    · split
      · exact WorkFrame.trans (t := (s.modSurvey ph _).modSurvey ph _) rfl (State.offerHeld_survey _ _ ph)
      · rfl
    · rfl
  · rfl

theorem State.handCrossing_work (s : State) (ph : Phase) (noise : Int) (b : Bool) :
    WorkFrame s (s.handCrossing ph noise b) := by
  unfold State.handCrossing; dsimp only
  refine WorkFrame.trans ?_ (State.markQuiet_work _ ph)
  refine WorkFrame.trans ?_ (State.atCrossing_work _ ph)
  exact (s.sampleSlot_work ph noise).trans rfl

end Sys2Proof.Machine
end

