-- ==== Sys2Proof/Laws/Discovery.lean ====
section
/-! SUPPORT. What the end of a probe's reply window can do, said once: the event where it takes effect, and the result of
a window in each of the three cases of R123. -/

namespace Sys2Proof.Machine

/-! ## The event -/

/-- PROBE_WINDOW_END at the end of the window in progress of a listening probe. -/
theorem execProbeWindowEnd_ended {s : State} {ph : Phase} {r : ProbeRun} {p : ProbeInFlight} (heard : List WindowFrame)
    (work : (s.chan ph).work = some (.probe r)) (probe : (s.disc ph).probe = some p)
    (listening : (s.chan ph).state = .listening) (ended : windowEnd r.outSpan r.window r.gap r.next ≤ r.slots) :
    execProbeWindowEnd ph heard s = .next ((s.endWindow ph r p heard).retireSince s) := by
  simp [execProbeWindowEnd, work, probe, listening, ended]

/-! ## The result of a window (R123) -/

variable {code : Word16} {f : ProbeFilter} {window span : Nat} {heard : List WindowFrame}

/-- A frame taken began in its window and reads as a PROBE REPLY (R121). -/
theorem replyTaken_iff {x : WindowFrame} {r : ProbeReplyReading} :
    replyTaken x code span = some r ↔
      airtime x.frame.bytes.length .robust + x.slots ≤ span ∧ readProbeReply code x.frame.bytes = some r := by
  simp [replyTaken, beganWithin]

/-- The first reply taken that agrees with the filter and the window makes it GOOD, whatever else was heard. -/
theorem readWindow_good {front back : List WindowFrame} {x : WindowFrame} {r : ProbeReplyReading}
    (before : ∀ y ∈ front, ∀ z, replyTaken y code span = some z → f.goodReply window z = false)
    (taken : replyTaken x code span = some r) (good : f.goodReply window r = true) :
    readWindow code f window span (front ++ x :: back) = .good r (marginOf x.frame.uplink) x.ago := by
  have none_before :
      (front.filterMap (fun y => (replyTaken y code span).map (fun z => (z, marginOf y.frame.uplink, y.ago)))).find?
        (fun z => f.goodReply window z.1) = none := by
    simp only [List.find?_eq_none, List.mem_filterMap, Option.map_eq_some_iff]
    rintro _ ⟨y, hy, z, hz, rfl⟩
    simp [before y hy z hz]
  simp [readWindow, List.filterMap_append, List.find?_append, none_before, taken, good]

/-- Without a reply that agrees, a window is a COLLISION where no reply was taken and carrier was heard, and else EMPTY. -/
theorem readWindow_of_no_good
    (no_good : ∀ y ∈ heard, ∀ z, replyTaken y code span = some z → f.goodReply window z = false) :
    readWindow code f window span heard =
      if (∀ y ∈ heard, replyTaken y code span = none) ∧ ∃ y ∈ heard, inTransit code y.frame.bytes = false then .collision
      else .empty := by
  have no_find :
      (heard.filterMap (fun y => (replyTaken y code span).map (fun z => (z, marginOf y.frame.uplink, y.ago)))).find?
        (fun z => f.goodReply window z.1) = none := by
    simp only [List.find?_eq_none, List.mem_filterMap, Option.map_eq_some_iff]
    rintro _ ⟨y, hy, z, hz, rfl⟩
    simp [no_good y hy z hz]
  simp [readWindow, no_find, List.filterMap_eq_nil_iff]

end Sys2Proof.Machine
end

