-- ==== Sys2Proof/Laws/PerInstr.lean ====
section
/-! SUPPORT. The families of statements made for every constructor of Instr, one lemma for each constructor. -/

namespace Sys2Proof.Laws

/-- What a command spells (R168, R195): a client command's code is one of 01h to 25h, and with its parameters its frame
is of 4 to 24 bytes, which fits in a FIFO place; every other command spells no frame. -/
def Spelling.Statement (i : Instr) : Prop :=
  ∀ (p : Port) (code tag : Byte) (params : List Byte), clientCommand i = some (p, code, tag, params) →
    codeKnown code = true ∧ params.length ≤ 20

theorem Spelling.powerOn (settingsDecayed rosterDecayed : Bool) : Spelling.Statement
    (.powerOn settingsDecayed rosterDecayed) := by
  intro q code t params h
  cases h

theorem Spelling.pinReset (settingsDecayed rosterDecayed : Bool) : Spelling.Statement
    (.pinReset settingsDecayed rosterDecayed) := by
  intro q code t params h
  cases h

theorem Spelling.commandTransfer (p : Port) (bytes : List Byte) : Spelling.Statement
    (.commandTransfer p bytes) := by
  intro q code t params h
  cases h

theorem Spelling.fetchTransfer (p : Port) (count : Nat) : Spelling.Statement (.fetchTransfer p count) := by
  intro q code t params h
  cases h

theorem Spelling.ignoredTransfer (p : Port) (kind : Byte) (count : Nat) : Spelling.Statement
    (.ignoredTransfer p kind count) := by
  intro q code t params h
  cases h

theorem Spelling.frameRefused (p : Port) : Spelling.Statement (.frameRefused p) := by
  intro q code t params h
  cases h

theorem Spelling.heldNoticeQueued (p : Port) : Spelling.Statement (.heldNoticeQueued p) := by
  intro q code t params h
  cases h

theorem Spelling.submit (p : Port) (tag : Byte) (a : SubmitArgs) : Spelling.Statement (.submit p tag a) := by
  intro q code t params h
  obtain ⟨group, action, duration, activation, expiry, cls, confirm⟩ := a
  cases expiry <;> cases h <;> exact ⟨rfl, Nat.le_of_ble_eq_true rfl⟩

theorem Spelling.cancel (p : Port) (tag : Byte) (handle : Word16) : Spelling.Statement (.cancel p tag handle) := by
  intro q code t params h
  cases h
  exact ⟨rfl, Nat.le_of_ble_eq_true rfl⟩

theorem Spelling.readEntry (p : Port) (tag : Byte) (handle : Word16) : Spelling.Statement
    (.readEntry p tag handle) := by
  intro q code t params h
  cases h
  exact ⟨rfl, Nat.le_of_ble_eq_true rfl⟩

theorem Spelling.listEntries (p : Port) (tag : Byte) (position : Byte) : Spelling.Statement
    (.listEntries p tag position) := by
  intro q code t params h
  cases h
  exact ⟨rfl, Nat.le_of_ble_eq_true rfl⟩

theorem Spelling.runLine (p : Port) (tag : Byte) : Spelling.Statement (.runLine p tag) := by
  intro q code t params h
  cases h
  exact ⟨rfl, Nat.le_of_ble_eq_true rfl⟩

theorem Spelling.holdLine (p : Port) (tag : Byte) : Spelling.Statement (.holdLine p tag) := by
  intro q code t params h
  cases h
  exact ⟨rfl, Nat.le_of_ble_eq_true rfl⟩

theorem Spelling.releaseLine (p : Port) (tag : Byte) : Spelling.Statement (.releaseLine p tag) := by
  intro q code t params h
  cases h
  exact ⟨rfl, Nat.le_of_ble_eq_true rfl⟩

theorem Spelling.applyProfile (p : Port) (tag : Byte) (profile : Byte) : Spelling.Statement
    (.applyProfile p tag profile) := by
  intro q code t params h
  cases h
  exact ⟨rfl, Nat.le_of_ble_eq_true rfl⟩

theorem Spelling.setParameter (p : Port) (tag : Byte) (a : ParameterArgs) : Spelling.Statement
    (.setParameter p tag a) := by
  intro q code t params h
  cases h
  exact ⟨rfl, Nat.le_of_ble_eq_true rfl⟩

theorem Spelling.setGroupPermit (p : Port) (tag : Byte) (group permit : Byte) : Spelling.Statement
    (.setGroupPermit p tag group permit) := by
  intro q code t params h
  cases h
  exact ⟨rfl, Nat.le_of_ble_eq_true rfl⟩

theorem Spelling.setQuota (p : Port) (tag : Byte) (layout quotaA quotaB : Byte) : Spelling.Statement
    (.setQuota p tag layout quotaA quotaB) := by
  intro q code t params h
  cases h
  exact ⟨rfl, Nat.le_of_ble_eq_true rfl⟩

theorem Spelling.addUnit (p : Port) (tag : Byte) (a : AddUnitArgs) : Spelling.Statement (.addUnit p tag a) := by
  intro q code t params h
  cases h
  exact ⟨rfl, Nat.le_of_ble_eq_true rfl⟩

theorem Spelling.editUnit (p : Port) (tag : Byte) (a : EditUnitArgs) : Spelling.Statement (.editUnit p tag a) := by
  intro q code t params h
  obtain ⟨index, route, groups, pinned, relayCapable⟩ := a
  cases route <;> cases groups <;> cases pinned <;> cases relayCapable <;> cases h <;>
    exact ⟨rfl, Nat.le_of_ble_eq_true rfl⟩

theorem Spelling.retireUnit (p : Port) (tag : Byte) (index : Word16) : Spelling.Statement
    (.retireUnit p tag index) := by
  intro q code t params h
  cases h
  exact ⟨rfl, Nat.le_of_ble_eq_true rfl⟩

theorem Spelling.readUnit (p : Port) (tag : Byte) (index : Word16) : Spelling.Statement
    (.readUnit p tag index) := by
  intro q code t params h
  cases h
  exact ⟨rfl, Nat.le_of_ble_eq_true rfl⟩

theorem Spelling.readNext (p : Port) (tag : Byte) (restart : Bool) : Spelling.Statement
    (.readNext p tag restart) := by
  intro q code t params h
  cases h
  exact ⟨rfl, Nat.le_of_ble_eq_true rfl⟩

theorem Spelling.findUnit (p : Port) (tag : Byte) (address : Address) : Spelling.Statement
    (.findUnit p tag address) := by
  intro q code t params h
  cases h
  exact ⟨rfl, Nat.le_of_ble_eq_true rfl⟩

theorem Spelling.pingUnit (p : Port) (tag : Byte) (index : Word16) (register : Bool) : Spelling.Statement
    (.pingUnit p tag index register) := by
  intro q code t params h
  cases h
  exact ⟨rfl, Nat.le_of_ble_eq_true rfl⟩

theorem Spelling.readGroup (p : Port) (tag : Byte) (group : Byte) : Spelling.Statement
    (.readGroup p tag group) := by
  intro q code t params h
  cases h
  exact ⟨rfl, Nat.le_of_ble_eq_true rfl⟩

theorem Spelling.startDiscovery (p : Port) (tag : Byte) : Spelling.Statement (.startDiscovery p tag) := by
  intro q code t params h
  cases h
  exact ⟨rfl, Nat.le_of_ble_eq_true rfl⟩

theorem Spelling.stopDiscovery (p : Port) (tag : Byte) : Spelling.Statement (.stopDiscovery p tag) := by
  intro q code t params h
  cases h
  exact ⟨rfl, Nat.le_of_ble_eq_true rfl⟩

theorem Spelling.readDiscovery (p : Port) (tag : Byte) : Spelling.Statement (.readDiscovery p tag) := by
  intro q code t params h
  cases h
  exact ⟨rfl, Nat.le_of_ble_eq_true rfl⟩

theorem Spelling.readLevel (p : Port) (tag : Byte) (channel : Byte) : Spelling.Statement
    (.readLevel p tag channel) := by
  intro q code t params h
  cases h
  exact ⟨rfl, Nat.le_of_ble_eq_true rfl⟩

theorem Spelling.setTestMask (p : Port) (tag : Byte) (channel : Byte) (mask : Word16) : Spelling.Statement
    (.setTestMask p tag channel mask) := by
  intro q code t params h
  cases h
  exact ⟨rfl, Nat.le_of_ble_eq_true rfl⟩

theorem Spelling.setTime (p : Port) (tag : Byte) (seconds : Word32) (millis : Word16) : Spelling.Statement
    (.setTime p tag seconds millis) := by
  intro q code t params h
  cases h
  exact ⟨rfl, Nat.le_of_ble_eq_true rfl⟩

theorem Spelling.readTime (p : Port) (tag : Byte) : Spelling.Statement (.readTime p tag) := by
  intro q code t params h
  cases h
  exact ⟨rfl, Nat.le_of_ble_eq_true rfl⟩

theorem Spelling.saveSettings (p : Port) (tag : Byte) : Spelling.Statement (.saveSettings p tag) := by
  intro q code t params h
  cases h
  exact ⟨rfl, Nat.le_of_ble_eq_true rfl⟩

theorem Spelling.saveRoster (p : Port) (tag : Byte) : Spelling.Statement (.saveRoster p tag) := by
  intro q code t params h
  cases h
  exact ⟨rfl, Nat.le_of_ble_eq_true rfl⟩

theorem Spelling.writeSystemCode (p : Port) (tag : Byte) (code : Word16) : Spelling.Statement
    (.writeSystemCode p tag code) := by
  intro q code t params h
  cases h
  exact ⟨rfl, Nat.le_of_ble_eq_true rfl⟩

theorem Spelling.readIdentity (p : Port) (tag : Byte) : Spelling.Statement (.readIdentity p tag) := by
  intro q code t params h
  cases h
  exact ⟨rfl, Nat.le_of_ble_eq_true rfl⟩

theorem Spelling.readSettings (p : Port) (tag : Byte) : Spelling.Statement (.readSettings p tag) := by
  intro q code t params h
  cases h
  exact ⟨rfl, Nat.le_of_ble_eq_true rfl⟩

theorem Spelling.readFaults (p : Port) (tag : Byte) : Spelling.Statement (.readFaults p tag) := by
  intro q code t params h
  cases h
  exact ⟨rfl, Nat.le_of_ble_eq_true rfl⟩

theorem Spelling.clearFaults (p : Port) (tag : Byte) (generation : Word16) (kinds : Byte) : Spelling.Statement
    (.clearFaults p tag generation kinds) := by
  intro q code t params h
  cases h
  exact ⟨rfl, Nat.le_of_ble_eq_true rfl⟩

theorem Spelling.startSurvey (p : Port) (tag : Byte) (channel : Byte) (slots : Word16) : Spelling.Statement
    (.startSurvey p tag channel slots) := by
  intro q code t params h
  cases h
  exact ⟨rfl, Nat.le_of_ble_eq_true rfl⟩

theorem Spelling.readSurvey (p : Port) (tag : Byte) (channel : Byte) : Spelling.Statement
    (.readSurvey p tag channel) := by
  intro q code t params h
  cases h
  exact ⟨rfl, Nat.le_of_ble_eq_true rfl⟩

theorem Spelling.status (p : Port) (tag : Byte) : Spelling.Statement (.status p tag) := by
  intro q code t params h
  cases h
  exact ⟨rfl, Nat.le_of_ble_eq_true rfl⟩

theorem Spelling.resetPort (p : Port) (tag : Byte) : Spelling.Statement (.resetPort p tag) := by
  intro q code t params h
  cases h
  exact ⟨rfl, Nat.le_of_ble_eq_true rfl⟩

theorem Spelling.zeroCrossing (ph : Phase) (micros : Nat) (noise : Int) (bufferBad : Bool) : Spelling.Statement
    (.zeroCrossing ph micros noise bufferBad) := by
  intro q code t params h
  cases h

theorem Spelling.phaseLoss (ph : Phase) : Spelling.Statement (.phaseLoss ph) := by
  intro q code t params h
  cases h

theorem Spelling.secondBoundary : Spelling.Statement .secondBoundary := by
  intro q code t params h
  cases h

theorem Spelling.esReached (handle : Nat) (ph : Phase) : Spelling.Statement (.esReached handle ph) := by
  intro q code t params h
  cases h

theorem Spelling.lsReached (handle : Nat) (ph : Phase) : Spelling.Statement (.lsReached handle ph) := by
  intro q code t params h
  cases h

theorem Spelling.floodEnd (ph : Phase) : Spelling.Statement (.floodEnd ph) := by
  intro q code t params h
  cases h

theorem Spelling.repeatGapEnd (ph : Phase) : Spelling.Statement (.repeatGapEnd ph) := by
  intro q code t params h
  cases h

theorem Spelling.outboundSpanEnd (ph : Phase) : Spelling.Statement (.outboundSpanEnd ph) := by
  intro q code t params h
  cases h

theorem Spelling.replyReceived (ph : Phase) (heard : HeardFrame) : Spelling.Statement
    (.replyReceived ph heard) := by
  intro q code t params h
  cases h

theorem Spelling.silencePoint (ph : Phase) : Spelling.Statement (.silencePoint ph) := by
  intro q code t params h
  cases h

theorem Spelling.probeWindowEnd (ph : Phase) (heard : List WindowFrame) : Spelling.Statement
    (.probeWindowEnd ph heard) := by
  intro q code t params h
  cases h

theorem Spelling.restEnd (ph : Phase) : Spelling.Statement (.restEnd ph) := by
  intro q code t params h
  cases h

theorem Spelling.eraseEnd : Spelling.Statement .eraseEnd := by
  intro q code t params h
  cases h

theorem Spelling.writeEnd (matched : Bool) : Spelling.Statement (.writeEnd matched) := by
  intro q code t params h
  cases h

theorem Spelling.selectAsserted (p : Port) (lines : SelectLines) : Spelling.Statement (.selectAsserted p lines) := by
  intro q code t params h
  cases h

end Sys2Proof.Laws
end

