-- ==== Sys2Proof/WellFormed.lean ====
section
/-! DEFINITION. The commands the outside world can send: the checks on operands whose range no rule refuses, because
the outside world cannot produce a value beyond it. -/

namespace Sys2Proof

/-- The longest line frame body: a PROBE REPLY of three hops (R121, R194). -/
def longestLineFrame : Nat := 29

/-- A frame a receiver can hear: no longer than the longest frame of the protocol. -/
def HeardFrame.wf (h : HeardFrame) : Bool := h.bytes.length ≤ longestLineFrame

/-- A frame a receiver can hear in a reply window: no slot of a PRESENT phase is longer than 40 ms (R158). -/
def WindowFrame.wf (x : WindowFrame) : Bool := x.frame.wf && x.ago ≤ 40 * (x.slots + 1)

/-- A command the outside world can send. -/
def Instr.wf : Instr → Bool
  | .ignoredTransfer _ kind _ => kind != 0x5A && kind != 0xA5
  | .zeroCrossing _ micros _ _ => micros < 1000
  | .esReached handle _ => 1 ≤ handle && handle ≤ 65535
  | .lsReached handle _ => 1 ≤ handle && handle ≤ 65535
  | .replyReceived _ heard => heard.wf
  | .probeWindowEnd _ heard => heard.all WindowFrame.wf
  | .powerOn .. | .pinReset .. | .commandTransfer .. | .fetchTransfer ..
  | .frameRefused .. | .heldNoticeQueued .. | .submit .. | .cancel ..
  | .readEntry .. | .listEntries .. | .runLine .. | .holdLine ..
  | .releaseLine .. | .applyProfile .. | .setParameter .. | .setGroupPermit ..
  | .setQuota .. | .addUnit .. | .editUnit .. | .retireUnit ..
  | .readUnit .. | .readNext .. | .findUnit .. | .pingUnit ..
  | .readGroup .. | .startDiscovery .. | .stopDiscovery .. | .readDiscovery ..
  | .readLevel .. | .setTestMask .. | .setTime .. | .readTime ..
  | .saveSettings .. | .saveRoster .. | .writeSystemCode .. | .readIdentity ..
  | .readSettings .. | .readFaults .. | .clearFaults .. | .startSurvey ..
  | .readSurvey .. | .status .. | .resetPort .. | .phaseLoss ..
  | .secondBoundary .. | .floodEnd .. | .repeatGapEnd .. | .outboundSpanEnd ..
  | .silencePoint .. | .restEnd .. | .eraseEnd .. | .writeEnd ..
  | .selectAsserted .. => true

end Sys2Proof
end

