-- ==== Sys2Proof/Tests/Slice0.lean ====
section
/-! SUPPORT. The model's own tests: ill-formed commands, frames and figures worked from the manual by hand, one step of
each command, and for every statement with hypotheses a state and operands that meet them. -/

namespace Sys2Proof.Tests

open Sys2Proof.Machine

set_option Elab.async false

/-! ## States the tests start from -/

/-- The state after a command. -/
def run (c : Instr) (s : State) : State :=
  match exec c s with
  | .next t => t
  | _ => s

/-- A unit of L1, direct or over a route. -/
def unit (address : Address) (route : List Nat) : UnitRec := UnitRec.added address .L1 [1] true route

/-- A RUNNING line with L1 alone PRESENT and its channel IDLE, the clock SET at second 1000, unit 0 direct and unit 1 over
it, both of group 1. -/
def live : State :=
  State.figureAll
    { State.bare with
      elapsed := 1000000, clock := ⟨true, 1000000⟩, line := .running
      identity := { code := 0x1234, serial := 0, revision := 0 }
      mains := ⟨⟨true, some ⟨1000000000, 1000000⟩, 8, List.replicate 8 10000⟩, PhaseRec.fresh, PhaseRec.fresh⟩
      channels := ⟨{ Channel.fresh with state := .idle }, Channel.fresh, Channel.fresh⟩
      roster := [(0, unit 0x11 []), (1, unit 0x12 [0])] }

/-- A part with LS 900 s and ES 800 s, two repeats planned. -/
def part (st : PartState) : Part :=
  { state := st, finish := none, depth := 0, mode := .robust, planned := 2, sent := 0, ls := 900000, es := 800000,
    start := none, finishNeeded := false }

/-- A part that is not needed. -/
def unneeded : Part := { part .finished with finish := some .notNeeded }

/-- An URGENT entry of port A for group 1 and second 2000, with this part on L1 alone. -/
def entry (handle : Nat) (p : Part) : Entry :=
  { handle, origin := .A, tag := 9, group := 1, action := .tariff 2, activation := 2000, expiry := none, cls := .urgent,
    confirm := false, sequence := none, lateAdmission := false, timeStepped := false, cancelled := false,
    cutShort := false, parts := ⟨p, unneeded, unneeded⟩, confirmation := none, outcome := none, record := none,
    cutOffReached := false, confirmStopped := false }

/-- `live` with these entries. -/
def booked (es : List Entry) : State := { live with calendar := es }

/-- SUBMIT of TARIFF 2 to group 1 at a second. -/
def order (activation : Word32) : SubmitArgs :=
  { group := 1, action := 0x12, duration := 0, activation, expiry := none, cls := 1, confirm := true }

theorem takes_of_fresh (s : State) (h : s.ports = ⟨PortRec.fresh, PortRec.fresh⟩) (p : Port) (i : Instr) :
    s.takes p i := by
  cases p <;> simp [State.takes, State.replyRoom, State.port, h, Duo.get, PortRec.fresh, Config.outQueueItems]

theorem bare_takes (p : Port) (i : Instr) : State.bare.takes p i := takes_of_fresh _ rfl p i

theorem live_takes (p : Port) (i : Instr) : live.takes p i := takes_of_fresh _ (by decide +kernel) p i

/-! ## Commands the outside world cannot send -/

theorem test_wf_refuses_known_kind_bytes :
    (Instr.ignoredTransfer .A 0x5A 0).wf = false ∧ (Instr.ignoredTransfer .A 0xA5 0).wf = false ∧
      (Instr.ignoredTransfer .A 0x5B 0).wf = true := by decide

theorem test_wf_refuses_a_whole_millisecond :
    (Instr.zeroCrossing .L1 1000 0 false).wf = false ∧ (Instr.zeroCrossing .L1 999 0 false).wf = true := by decide

theorem test_wf_refuses_handles_out_of_range :
    (Instr.esReached 0 .L1).wf = false ∧ (Instr.esReached 65536 .L1).wf = false ∧ (Instr.lsReached 0 .L2).wf = false ∧
      (Instr.lsReached 65536 .L2).wf = false ∧ (Instr.lsReached 65535 .L2).wf = true := by decide

theorem test_wf_refuses_frames_of_30_bytes :
    (Instr.replyReceived .L1 ⟨List.replicate 30 0, 0⟩).wf = false ∧
      (Instr.probeWindowEnd .L1 [⟨⟨List.replicate 30 0, 0⟩, 1, 5⟩]).wf = false ∧
      (Instr.replyReceived .L1 ⟨List.replicate 29 0, 0⟩).wf = true := by decide

theorem test_wf_refuses_a_slot_of_41_milliseconds :
    WindowFrame.wf ⟨⟨[], 0⟩, 0, 41⟩ = false ∧ WindowFrame.wf ⟨⟨[], 0⟩, 0, 40⟩ = true := by decide

/-! ## Command frames written out from R195 -/

theorem test_read_status : readFrame .A false [0x04, 0x24, 0x07, 0xD1] = .command (.status .A 7) := by decide

/-- Group 12, TARIFF 2, second 512,000 (0007D000h), expiry absent, URGENT, confirm set. -/
theorem test_read_submit :
    readFrame .B false
        [0x12, 0x01, 0x05, 0x0C, 0x12, 0x00, 0x00, 0x07, 0xD0, 0x00, 0x00, 0x00, 0x00, 0x00, 0x00, 0x01, 0x01, 0xF1] =
      .command (.submit .B 5 ⟨12, 0x12, 0, 512000, none, 1, true⟩) := by decide

/-- Lead (03h) to 600 s (0258h). -/
theorem test_read_set_parameter :
    readFrame .A false [0x08, 0x09, 0x01, 0x03, 0x00, 0x02, 0x58, 0x91] =
      .command (.setParameter .A 1 ⟨3, 0, 600⟩) := by decide

/-- 512,000 s and 999 ms (03E7h). -/
theorem test_read_set_time :
    readFrame .A false [0x0A, 0x19, 0x02, 0x00, 0x07, 0xD0, 0x00, 0x03, 0xE7, 0x1A] =
      .command (.setTime .A 2 512000 999) := by decide

theorem test_read_hold_line : readFrame .B false [0x04, 0x06, 0x00, 0xF6] = .command (.holdLine .B 0) := by decide

/-- Unit 00000012h on L1, group 1, relay-capable, over unit 0. -/
theorem test_read_add_unit :
    readFrame .A false
        [0x16, 0x0C, 0x03, 0x00, 0x00, 0x00, 0x12, 0x00, 0x01, 0x01, 0x00, 0x00, 0x00, 0x01, 0x01, 0x00, 0x00, 0x00,
          0x00, 0x00, 0x00, 0xC5] =
      .command (.addUnit .A 3 ⟨0x12, 0, ⟨1, 1, 0, 0, 0⟩, true, ⟨1, 0, 0, 0⟩⟩) := by decide

theorem test_read_start_discovery :
    readFrame .A false [0x04, 0x14, 0x01, 0xE7] = .command (.startDiscovery .A 1) := by decide

theorem test_read_set_test_mask :
    readFrame .A false [0x07, 0x18, 0x00, 0x02, 0x00, 0xFF, 0xE0] = .command (.setTestMask .A 0 2 0xFF) := by decide

theorem test_read_clear_faults :
    readFrame .A false [0x07, 0x21, 0x00, 0x01, 0x02, 0x80, 0x55] = .command (.clearFaults .A 0 0x102 0x80) := by decide

/-- The tests of R168: over-long, a bad sum, code 26h, and a size the command does not have. -/
theorem test_frame_refusals :
    readFrame .A true [0x04, 0x24, 0x07, 0xD1] = .badFrame 0x24 7 ∧
      readFrame .A false [0x04, 0x24, 0x07, 0xD2] = .badFrame 0x24 7 ∧
      readFrame .A false [0x04, 0x26, 0x07, 0xCF] = .badParameter 0x26 7 ∧
      readFrame .A false [0x05, 0x24, 0x07, 0x00, 0xD0] = .badFrame 0x24 7 ∧
      readFrame .A false [0x01] = .badFrame 0 0 := by decide

/-! ## Formats and arithmetic worked in the manual -/

/-- The EMPTY item of R196, and a reply OK to STATUS's neighbour CANCEL: 01h, length 6, code 02h, tag 05h, 00h, F2h. -/
theorem test_item_bytes :
    emptyItem = [0x00, 0x03, 0xFD] ∧ Item.bytes (.reply 0x02 5 .ok []) = [0x01, 0x06, 0x02, 0x05, 0x00, 0xF2] := by
  decide

/-- The cyclic check of R193 (generator 1021h, start FFFFh, most significant bit first, no inversion) of the digits 1 to 9
is 29B1h, the published check value of these parameters. -/
theorem test_line_check : lineCheck [0x31, 0x32, 0x33, 0x34, 0x35, 0x36, 0x37, 0x38, 0x39] = 0x29B1 := by decide +kernel

/-- Section 2.8, case 1: A 10, F 34, B 106 slots, 1063 ms, LS and ES, and the three delays. -/
theorem test_case_1 :
    airtime broadcastSize .normal = 10 ∧ floodSpan 2 .normal 2 = 34 ∧ partSpan 3 2 .normal 2 = 106 ∧
      slotMillis 106 4987 = 1063 ∧ latestStart 512000 2000 1063 = 511996937 ∧ earliestStart 511996937 600 = 511396937 ∧
      delayField 512000 511400341 = 5997 ∧ delayField 512000 511400701 = 5993 ∧ delayField 512000 511401062 = 5990 := by
  decide

/-- Section 2.8, cases 2 and 3. -/
theorem test_cases_2_and_3 :
    partSpan 3 2 .robust 2 = 178 ∧ slotMillis 178 4987 = 1785 ∧ partSpan 8 3 .robust 4 = 700 ∧
      slotMillis 700 4500 = 7778 ∧ slotMillis 700 6500 = 5385 := by decide

/-- Section 7.6, windows 1 to 8: the level, and LEVEL LIMIT. -/
theorem test_eight_windows :
    ([30, 41, 47, 62, 58, 20, 30, 40].foldl
        (fun (x : LevelRec × List (Nat × ControllerState × Bool)) m =>
          let l := x.1.close ⟨16, 63, 48⟩ m
          (l, x.2 ++ [(l.level, l.state, l.levelLimit)]))
        (LevelRec.fresh 40, [])).2 =
      [(49, .acquire, false), (53, .acquire, false), (53, .monitor, false), (52, .monitor, false),
        (52, .monitor, false), (63, .monitor, true), (63, .monitor, true), (63, .monitor, false)] := by decide

/-- R159: 16 intervals of 160,416 µs in all give 4987 cHz. -/
theorem test_measured_frequency :
    (PhaseRec.frequency ⟨true, none, 8, List.replicate 16 10026⟩) = some 4987 := by decide

/-- State.reset is what POWER_ON makes of a part with no images (R185, log 7). -/
theorem test_reset_is_power_on : run (.powerOn false false) State.bare = State.reset := by decide +kernel

/-- The table gives no row any bits. -/
theorem test_no_word_spells_a_command : decodeTableWord 8 0 = none ∧ State.reset.withFetchWord 8 0 = State.reset :=
  ⟨rfl, rfl⟩

/-! ## One step of each command -/

/-- The items of port A's out-queue after a command. -/
def itemsA (s : State) : List Item := (s.port .A).outq

/-- A one-hop group in ROBUST: F 37, B 3 × 37 + 2 = 113 slots, 1130 ms at 5000 cHz; LS 2,000,000 − 1500 − 1130. -/
theorem test_submit_admits_and_plans :
    ((run (.submit .A 7 (order 2000)) live).calendar.map (fun e =>
      (e.handle, e.group, e.activation, e.parts.l1.ls, e.parts.l1.es, e.parts.l1.state))) =
      [(1, 1, 2000, 1997370, 1397370, .waiting)] := by decide +kernel

theorem test_cancel_retires : (run (.cancel .A 1 4) (booked [entry 4 (part .waiting)])).calendar = [] := by
  decide +kernel

theorem test_read_entry_of_none :
    itemsA (run (.readEntry .A 1 4) live) = [.reply 0x03 1 .noEntry []] := by decide +kernel

theorem test_list_entries_empty : itemsA (run (.listEntries .A 1 0) live) = [.reply 0x04 1 .ok [0, 0]] := by
  decide +kernel

theorem test_run_line_without_code :
    itemsA (run (.runLine .A 1) State.bare) = [.reply 0x05 1 .noIdentity []] := by decide +kernel

theorem test_hold_line_of_idle_line : (run (.holdLine .A 1) live).line = .held := by decide +kernel

theorem test_release_line : (run (.releaseLine .A 2) (run (.holdLine .A 1) live)).line = .running := by decide +kernel

theorem test_apply_profile :
    (run (.applyProfile .A 1 5) State.bare).settings.lostLimit = 10 ∧
      itemsA (run (.applyProfile .A 1 6) State.bare) = [.reply 0x08 1 .badParameter []] := by decide +kernel

/-- R181: a degrade limit of 15 raises a lost limit of 5 to 16. -/
theorem test_set_degrade_limit :
    (run (.setParameter .A 1 ⟨7, 0, 15⟩) State.bare).settings.lostLimit = 16 := by decide +kernel

theorem test_set_group_permit :
    ((run (.setGroupPermit .A 1 63 3) State.bare).permit 63).admits .A = false := by decide +kernel

theorem test_set_quota :
    (run (.setQuota .A 1 2 193 0) State.bare).settings.nextQuota = ⟨192, 0⟩ ∧
      (run (.setQuota .A 1 2 193 0) State.bare).store.state = .erasing := by decide +kernel

theorem test_add_unit_takes_lowest_index :
    ((run (.addUnit .A 1 ⟨0x13, 0, ⟨0, 0, 0, 0, 0⟩, false, ⟨2, 0, 1, 0⟩⟩) live).unit? 2).map (·.route) =
      some [0, 1] := by decide +kernel

theorem test_edit_unit_reaches_dependents :
    ((run (.editUnit .A 1 ⟨0, none, none, none, some false⟩) live).unit? 1).map (fun u => (u.route, u.state)) =
      some ([], .lost) := by decide +kernel

theorem test_retire_unit : (run (.retireUnit .A 1 0) live).unit? 0 = none := by decide +kernel

theorem test_read_unit_out_of_range :
    itemsA (run (.readUnit .A 1 512) live) = [.reply 0x0F 1 .badParameter []] := by decide +kernel

theorem test_read_next_moves_cursor :
    (run (.readNext .A 1 true) live).readCursors = ⟨512, 0⟩ := by decide +kernel

theorem test_find_unit_broadcast_address :
    itemsA (run (.findUnit .A 1 0xFFFFFFFF) live) = [.reply 0x11 1 .badParameter []] := by decide +kernel

theorem test_ping_unit : ((run (.pingUnit .A 1 0 false) live).pingQueue .L1).map (·.address) = [0x11] := by
  decide +kernel

theorem test_read_group_out_of_range :
    itemsA (run (.readGroup .A 1 64) live) = [.reply 0x13 1 .badParameter []] := by decide +kernel

theorem test_discovery_starts_and_stops :
    ((run (.startDiscovery .A 1) live).disc .L2).state = .probing ∧
      ((run (.stopDiscovery .A 2) (run (.startDiscovery .A 1) live)).disc .L2).state = .off := by decide +kernel

/-- Three OFF channels, each 18 bytes: state 0, no origin, an empty stack, no registration, no probe, no overflow, no
rest. -/
theorem test_read_discovery :
    itemsA (run (.readDiscovery .A 1) live) = [.reply 0x16 1 .ok (List.replicate 54 0)] := by decide +kernel

theorem test_read_level_of_channel_4 :
    itemsA (run (.readLevel .A 1 4) live) = [.reply 0x17 1 .badParameter []] := by decide +kernel

theorem test_set_test_mask :
    (run (.setTestMask .A 1 3 0x8001) live).testMasks = ⟨0, 0, 0x8001⟩ := by decide +kernel

/-- The reply carries the value before: 1000 s (03E8h), 0 ms, SET. -/
theorem test_set_time :
    itemsA (run (.setTime .A 1 5 999) live) = [.reply 0x19 1 .ok [0, 0, 3, 0xE8, 0, 0, 0]] ∧
      (run (.setTime .A 1 5 999) live).clock.millis = 5999 := by decide +kernel

/-- 5000 cHz is 1388h, and 8 intervals of 10,000 µs measure 5000 cHz. -/
theorem test_read_time :
    itemsA (run (.readTime .A 1) live) =
      [.reply 0x1A 1 .ok
        [0, 0, 3, 0xE8, 0, 0, 0, 0x13, 0x88, 1, 0, 0, 0, 8, 1, 0x13, 0x88, 1, 0, 0, 0, 0, 1, 0, 0, 0, 0]] := by
  decide +kernel

theorem test_saves_are_busy :
    itemsA (run (.saveSettings .A 2) (run (.saveRoster .A 1) live)) =
      [.reply 0x1C 1 .ok [0, 2], .reply 0x1B 2 .busy []] := by decide +kernel

/-- The store is written and read back (R183, R184). -/
theorem test_save_ends :
    itemsA (run (.writeEnd true) (run .eraseEnd (run (.saveSettings .A 2) live))) =
        [.reply 0x1B 2 .ok [], .notice .storeDone [2, 0, 0]] ∧
      (run (.writeEnd true) (run .eraseEnd (run (.saveSettings .A 2) live))).store.settingsImage =
        some Settings.factory := by decide +kernel

theorem test_write_system_code_once :
    (run (.writeSystemCode .A 2 7) (run (.writeSystemCode .A 1 0x1234) State.bare)).identity.code = 0x1234 := by
  decide +kernel

theorem test_read_identity :
    itemsA (run (.readIdentity .A 1) live) = [.reply 0x1E 1 .ok [0x12, 0x34, 0, 0, 0, 0, 0]] := by decide +kernel

/-- MEDIUM-QUIET: repeats 2 and 3, retries 1, guard 1500 (05DCh), lead 600 (0258h), gap 1, tolerance 1, limits 2 and 5. -/
theorem test_read_settings :
    ((itemsA (run (.readSettings .A 1) live)).map Item.bytes).map (fun b => (b.drop 5).take 13) =
      [[2, 0, 2, 3, 1, 0x05, 0xDC, 0x02, 0x58, 1, 1, 2, 5]] := by decide +kernel

/-- The factory rows of R179 kept per channel: minimum 16 and maximum 63 of three channels, then their targets 48. -/
theorem test_read_settings_levels :
    ((itemsA (run (.readSettings .A 1) live)).map Item.bytes).map (fun b => (b.drop 20).take 9) =
      [[16, 63, 16, 63, 16, 63, 48, 48, 48]] := by decide +kernel

theorem test_faults_are_cleared :
    itemsA (run (.clearFaults .A 1 1 0xFF) live) = [.reply 0x21 1 .stale [0, 0]] ∧
      (run (.clearFaults .A 1 0 0xFF) live).faults.generation = 1 := by decide +kernel

theorem test_read_faults :
    itemsA (run (.readFaults .A 1) live) = [.reply 0x20 1 .ok (List.replicate 19 0)] := by decide +kernel

theorem test_survey_of_no_slots :
    itemsA (run (.startSurvey .A 1 1 0) live) = [.reply 0x22 1 .ok [0, 1]] := by decide +kernel

theorem test_read_survey :
    itemsA (run (.readSurvey .A 1 1) live) = [.reply 0x23 1 .ok (List.replicate 43 0)] := by decide +kernel

/-- RUNNING, no hold, L1 IDLE, L2 and L3 OFFLINE, SET, 1000 s, 128 places, quotas 64. -/
theorem test_status :
    itemsA (run (.status .A 1) live) =
      [.reply 0x24 1 .ok
        ([1, 0, 1, 0, 0, 0, 0, 0, 3, 0xE8, 128, 0, 0, 64, 0, 64, 0] ++ List.replicate 13 0)] := by decide +kernel

theorem test_reset_port :
    itemsA (run (.resetPort .A 2) (run (.status .A 1) live)) = [.reply 0x25 2 .ok []] := by decide +kernel

/-- A frame crosses the FIFO and is taken on the same event: here HOLD LINE of port B. -/
theorem test_command_transfer :
    (run (.commandTransfer .B [4, 6, 0, 0xF6]) (run (.selectAsserted .B ⟨true, false⟩) live)).hold = ⟨false, true⟩ := by
  decide +kernel

theorem test_fetch_of_an_empty_queue :
    ((run (.fetchTransfer .A 4) (run (.selectAsserted .A ⟨false, false⟩) live)).port .A).dataOut =
      [0, 0x00, 0x03, 0xFD, 0xFF] := by decide +kernel

theorem test_ignored_transfer :
    ((run (.ignoredTransfer .A 0 2) (run (.selectAsserted .A ⟨false, false⟩) live)).port .A).dataOut.tail = [0xFF, 0xFF] := by
  decide +kernel

/-- The crossing 10 ms after the last one starts the READY part whose LS has passed: its flood of 18 slots. -/
theorem test_crossing_starts_a_due_part :
    ((run (.zeroCrossing .L1 0 0 false) { booked [entry 4 (part .ready)] with elapsed := 1000010 }).chan .L1).openPart =
      some 4 := by decide +kernel

theorem test_phase_loss_takes_the_channel_offline :
    ((run (.phaseLoss .L1) { live with elapsed := 1000040 }).chan .L1).state = .offline := by decide +kernel

theorem test_second_boundary : (run .secondBoundary live).clock.millis = 1001000 := by decide +kernel

/-! ## States that meet the hypotheses of the statements, clause by clause -/

theorem witness_step_runs_front :
    ({ State.bare with pending := [.eraseEnd, .secondBoundary] } : State).pending = .eraseEnd :: [.secondBoundary] := rfl

/-- An event due at the last millisecond of a second, and none due at the clock's last value. -/
theorem witness_idle_step :
    { State.bare with clock := ⟨true, 999⟩ }.eventDue = some (.secondBoundary, { State.bare with clock := ⟨true, 999⟩ }) ∧
      { State.bare with clock := ⟨true, 4294967295999⟩ }.eventDue = none ∧ State.bare.pending = [] := by decide +kernel

/-- A port whose out-queue holds 16 items. -/
def full : State := live.modPort .A (fun r => { r with outq := List.replicate 16 (.reply 0x24 0 .ok []) })

/-- A port whose FIFO holds these frames. -/
def holding (fs : List (List Byte)) : State :=
  live.modPort .A (fun r => { r with fifo := fs.map (fun b => ⟨b, false⟩) })

/-- No place for a reply; another frame at the head; and RESET PORT behind another frame. -/
theorem witness_untaken :
    clientCommand (.status .A 7) = some (.A, 0x24, 7, []) ∧ ¬ full.takes .A (.status .A 7) ∧
      ¬ (holding [[4, 6, 0, 0xF6]]).takes .A (.status .A 7) ∧
      ¬ (holding [[4, 6, 0, 0xF6]]).takes .A (.resetPort .A 7) := by decide +kernel

theorem witness_frames_read_back :
    clientCommand (.setTime .B 255 0xFFFFFFFF 0xFFFF) =
        some (.B, 0x19, 255, [0xFF, 0xFF, 0xFF, 0xFF, 0xFF, 0xFF]) ∧
      clientCommand (.resetPort .A 0) = some (.A, 0x25, 0, []) := by decide

/-- Select asserted on port A. -/
def selected (s : State) : State := run (.selectAsserted .A ⟨true, false⟩) s

theorem witness_select :
    (live.port .A).transfer = none ∧ ((selected live).port .A).transfer = some ⟨true, 0, 0, none, false⟩ := by
  decide +kernel

theorem tried_of_clear (s : State) (hq : QueuesBounded s)
    (h : s.ports.a.fifo = [] ∧ s.ports.a.held = [] ∧ s.ports.b.fifo = [] ∧ s.ports.b.held = []) : PortsTried s :=
  ⟨hq, ⟨.inl h.1, .inl h.2.1⟩, ⟨.inl h.2.2.1, .inl h.2.2.2⟩⟩

theorem test_read_reset_port : readFrame .A false [4, 0x25, 2, 0xD5] = .command (.resetPort .A 2) := by decide

/-- A port with a place and one without, both with an empty FIFO, for a frame that names a command, RESET PORT, and one that
names none; and a port of four frames. -/
theorem witness_command_transfer :
    ((selected live).port .A).transfer.isSome = true ∧ PortsTried (selected live) ∧
      (((selected live).port .A).fifo = [] ∧ ((selected live).port .A).outq.length < 16) ∧
      ((selected full).port .A).transfer.isSome = true ∧ PortsTried (selected full) ∧
      (((selected full).port .A).fifo = [] ∧ 16 ≤ ((selected full).port .A).outq.length) ∧
      readFrame .A false [1] = .badFrame 0 0 ∧
      ((selected (holding [[], [], [], []])).port .A).transfer.isSome = true ∧
      4 ≤ ((selected (holding [[], [], [], []])).port .A).fifo.length :=
  ⟨by decide +kernel, tried_of_clear _ (by decide +kernel) (by decide +kernel), by decide +kernel, by decide +kernel,
    tried_of_clear _ (by decide +kernel) (by decide +kernel), by decide +kernel, by decide +kernel, by decide +kernel,
    by decide +kernel⟩

/-- A full port where these frames wait, and the STORE DONE of a save where `done`. -/
def crowded (fs : List (List Byte)) (done : Bool) : State :=
  { full with store := { full.store with heldDone := some ⟨.A, 3, .settings, true⟩ } }.modPort .A (fun r =>
    { r with fifo := fs.map (fun b => ⟨b, false⟩), held := if done then [.storeDone] else [] })

theorem tried_of_crowded (s : State) (f : Frame) (rest : List Frame) (i : Instr) (hq : QueuesBounded s)
    (hf : s.ports.a.fifo = f :: rest) (hr : readFrame .A f.overLong f.bytes = .command i)
    (hi : ∀ tag, i ≠ .resetPort .A tag)
    (h : 16 ≤ s.ports.a.outq.length ∧ s.ports.b.fifo = [] ∧ s.ports.b.held = []) : PortsTried s := by
  refine ⟨hq, ⟨.inr ⟨h.1, ?_⟩, .inr (.inl h.1)⟩, ⟨.inl h.2.1, .inl h.2.2⟩⟩
  rintro ⟨g, tag, hg, hc⟩
  rw [hf] at hg
  cases hg
  rw [hr] at hc
  cases hc
  exact hi tag rfl

/-- An empty out-queue; a full one with nothing waiting, with a held notice, with a frame, with RESET PORT behind it, and
with a frame beside a held notice. -/
theorem witness_fetch_transfer :
    (((selected live).port .A).transfer.map (·.head)) = some none ∧
      (((selected full).port .A).transfer.map (·.head)) = some (some (.reply 0x24 0 .ok [])) ∧
      PortsTried (selected full) ∧
      (PortsTried (selected (crowded [] true)) ∧ ((crowded [] true).heldItem .A .storeDone).isSome = true) ∧
      PortsTried (selected (crowded [[4, 0x24, 7, 0xD1]] false)) ∧
      PortsTried (selected (crowded [[4, 0x24, 7, 0xD1], [4, 0x25, 2, 0xD5]] false)) ∧
      PortsTried (selected (crowded [[4, 0x24, 7, 0xD1]] true)) :=
  ⟨by decide +kernel, by decide +kernel, tried_of_clear _ (by decide +kernel) (by decide +kernel),
    ⟨⟨by decide +kernel, ⟨.inl (by decide +kernel), .inr (.inl (by decide +kernel))⟩, .inl (by decide +kernel),
      .inl (by decide +kernel)⟩, by decide +kernel⟩,
    tried_of_crowded _ ⟨[4, 0x24, 7, 0xD1], false⟩ [] _ (by decide +kernel) (by decide +kernel) test_read_status nofun
      (by decide +kernel),
    tried_of_crowded _ ⟨[4, 0x24, 7, 0xD1], false⟩ [⟨[4, 0x25, 2, 0xD5], false⟩] _ (by decide +kernel) (by decide +kernel)
      test_read_status nofun (by decide +kernel),
    tried_of_crowded _ ⟨[4, 0x24, 7, 0xD1], false⟩ [] _ (by decide +kernel) (by decide +kernel) test_read_status nofun
      (by decide +kernel)⟩

/-- One frame for each clause: shorter than 4 bytes; a bad sum; codes 00h and 26h; a size that is not the command's; a good
frame. -/
theorem witness_frame_refused :
    ((holding [[1, 2, 3]]).port .A).outq.length < 16 ∧ ¬ (4 ≤ ([1, 2, 3] : List Byte).length) ∧
      byteSum [4, 0x24, 7, 0xD2] ≠ 0 ∧ byteSum [4, 0, 7, 0xF5] = 0 ∧ byteSum [4, 0x26, 7, 0xCF] = 0 ∧
      byteSum [5, 0x24, 7, 0, 0xD0] = 0 ∧ readCommand .A 0x24 7 (frameParams [5, 0x24, 7, 0, 0xD0]) = none ∧
      byteSum [4, 0x24, 7, 0xD1] = 0 ∧ (readCommand .A 0x24 7 (frameParams [4, 0x24, 7, 0xD1])).isSome = true := by
  decide +kernel

/-- A ping record of port A. -/
def pingRecord (st : PingState) : PingRec := ⟨.A, 3, 0, 0x11, false, st, false⟩

/-- An owner of each kind holds a notice for port A, whose out-queue has one place left for a notice. -/
def owing (o : HeldOwner) : State :=
  let s :=
    { live with
      calendar := [{ entry 4 unneeded with outcome := some .complete, record := some [0] }], retirement := ⟨[4], []⟩
      pings := ⟨[pingRecord (.held .silent)], [], []⟩
      store := { live.store with heldDone := some ⟨.A, 3, .settings, true⟩ } }
  (s.modSurvey .L1 (fun v => { v with held := [(.A, .notice .surveyDone [])] })).modPort .A
    (fun r => { r with held := [o], outq := List.replicate 14 (.notice .lineState []) ++ [.reply 0x24 0 .ok []] })

theorem witness_held_notice :
    ∀ o ∈ [HeldOwner.outcome 4, .ping .L1, .storeDone, .survey .L1],
      ((owing o).port .A).held = [o] ∧ ((owing o).port .A).outq.length < 16 ∧
        noticeCount ((owing o).port .A).outq < 15 ∧ ((owing o).heldItem .A o).isSome = true := by decide +kernel

/-- A command outside the two start-ups, on a line that is not STOPPED. -/
theorem witness_line_is_left :
    (∀ a b, Instr.eraseEnd ≠ .powerOn a b ∧ Instr.eraseEnd ≠ .pinReset a b) ∧ live.line ≠ .stopped ∧
      exec .eraseEnd live = .next live := ⟨fun _ _ => ⟨nofun, nofun⟩, by decide +kernel, rfl⟩

theorem lawful_of_blank (s : State) (h : s.store = Store.blank) (hr : rosterLawful s.roster)
    (hc : ∀ x ∈ s.roster, x.1 < s.rosterCapacity) : RosterLawful s :=
  ⟨hr, by simp [Store.rosterLawful, h, Store.blank], hc⟩

theorem live_lawful : RosterLawful live :=
  lawful_of_blank _ (by decide +kernel) (by decide +kernel) (by decide +kernel)

theorem live_in_range : SettingsInRange live := by
  have h : live.store = Store.blank := by decide +kernel
  exact ⟨by decide +kernel, by simp [Store.settingsInRange, h, Store.blank]⟩

/-- Each invariant holds of `live`, or of `live` with an entry. -/
theorem witness_invariants :
    QueuesBounded live ∧ LevelsInRange live ∧ PlanFrequencyInRange live ∧ FiguresCurrent live ∧
      live.identity.code ≠ 0xFFFF :=
  ⟨by decide +kernel, ⟨live_in_range, by decide +kernel⟩, ⟨live_in_range, by decide +kernel⟩,
    ⟨live_lawful, by decide +kernel, by decide +kernel⟩, by decide +kernel⟩

theorem witness_coherent : ChannelsCoherent live := by decide +kernel

/-- Channels that hold no part and no flood own none. -/
theorem owns_of_idle (c : Channel) (s : State) (ph : Phase) (h : c.openPart = none ∧ c.suspendedPart = none ∧ c.work = none) :
    c.owns s ph := by
  simp [Channel.owns, h.1, h.2.1, h.2.2]

theorem witness_locked : LocksHeldByOne (booked [entry 4 (part .ready)]) :=
  ⟨⟨by decide +kernel, by decide +kernel, owns_of_idle _ _ _ (by decide +kernel), owns_of_idle _ _ _ (by decide +kernel),
    owns_of_idle _ _ _ (by decide +kernel)⟩, by decide +kernel⟩

/-- An entry that is RETIRING, its three parts NOT NEEDED. -/
def retiring : State :=
  { booked [{ entry 4 unneeded with
      outcome := some .complete, record := some (outcomeRecord (entry 4 unneeded) .complete) }] with
    retirement := ⟨[4], []⟩ }

theorem witness_recorded : OutcomesRecorded retiring := by
  refine ⟨⟨by decide +kernel, by decide +kernel, owns_of_idle _ _ _ (by decide +kernel),
    owns_of_idle _ _ _ (by decide +kernel), owns_of_idle _ _ _ (by decide +kernel)⟩, ?_, ?_⟩
  · intro ph h hx
    have hw : (retiring.chan ph).work = none := by cases ph <;> decide +kernel
    simp [State.exchangeOf, hw] at hx
  · intro e he o ho
    simp only [retiring, booked, List.mem_singleton] at he
    subst he
    cases ho
    exact ⟨⟨rfl, .inl (by decide)⟩, false, rfl⟩

theorem discovery_of_idle (d : Discovery) (w : Option Work) (hw : w = none) (hs : d.stack.length ≤ 8)
    (hr : d.registration.length ≤ 4) : d.bounded w := by
  subst hw
  exact ⟨hs, hr⟩

theorem witness_bounded :
    CalendarBounded (booked [entry 4 (part .ready)]) ∧ WorkBounded (booked [entry 4 (part .ready)]) ∧
      PortsTried (booked [entry 4 (part .ready)]) :=
  ⟨by decide +kernel,
    ⟨by decide +kernel, by decide +kernel, by decide +kernel, by decide +kernel,
      discovery_of_idle _ _ (by decide +kernel) (by decide +kernel) (by decide +kernel),
      discovery_of_idle _ _ (by decide +kernel) (by decide +kernel) (by decide +kernel),
      discovery_of_idle _ _ (by decide +kernel) (by decide +kernel) (by decide +kernel)⟩,
    tried_of_clear _ (by decide +kernel) (by decide +kernel)⟩

/-- `live` with an entry as SUBMIT plans it. -/
def planned : State := { live with calendar := (run (.submit .A 7 (order 2000)) live).calendar }

theorem figures_of_calendar (s : State) (es : List Entry) (h : FiguresCurrent s) :
    FiguresCurrent { s with calendar := es } := h

theorem witness_plans : FiguresCurrent planned ∧ (planned.calendar.map (·.handle)).Nodup ∧ PlansCurrent planned := by
  have h : ∀ e ∈ planned.calendar, ∀ ph ∈ phases, (e.parts.get ph).unstarted = true →
      (e.parts.get ph).replan (planned.plan e.group e.cls e.activation ph) = e.parts.get ph := by decide +kernel
  have all (ph : Phase) : ph ∈ phases := by cases ph <;> decide
  exact ⟨figures_of_calendar live _ witness_invariants.2.2.2.1, by decide +kernel, fun e he ph => h e he ph (all ph)⟩

theorem witness_steps (s : State) : ∃ t, step { s with pending := [.eraseEnd] } = .next t := ⟨_, rfl⟩

/-- A HALTED channel of a coherent block. -/
def halted : State := live.modChan .L1 (fun c => { c with state := .halted })

theorem witness_halted : ChannelsCoherent halted ∧ (halted.chan .L1).state = .halted := by decide +kernel

theorem witness_reset_port :
    (live.port .A).fifo = [] ∧
      (holding [[4, 0x25, 2, 0xD5]]).headReading .A = some (.command (.resetPort .A 2)) := by decide +kernel

/-- Images of the settings and of a roster whose only unit lies below the capacity. -/
def stored : State :=
  { live with
    store := { live.store with
      settingsImage := some Settings.factory, rosterImage := some ⟨[(511, unit 0x11 [])], List.replicate 64 5⟩ } }

/-- Images of which the roster's has a unit above the capacity, and a unit below it over that one. -/
def cropped : RosterImage := ⟨[(3, unit 0x12 [600]), (600, unit 0x11 [])], []⟩

theorem witness_start_up_dropping :
    rosterLawful cropped.units ∧ (∃ x ∈ cropped.units, ¬ x.1 < Config.rosterCapacity Settings.factory.nextLayout) ∧
      rosterLawful [(511, unit 0x11 [])] := by decide +kernel

theorem witness_start_up :
    stored.store.settingsImage = some Settings.factory ∧
      stored.store.rosterImage = some ⟨[(511, unit 0x11 [])], List.replicate 64 5⟩ ∧
      (∀ x ∈ [(511, unit 0x11 [])], x.1 < Config.rosterCapacity Settings.factory.nextLayout) ∧
      live.store.settingsImage = none ∧ live.store.rosterImage = none ∧
      (Settings.factory.levels.get .L1).low ≤ (Settings.factory.levels.get .L1).high := by decide +kernel

/-- A line that is not STOPPED; STOPPED without a code; STOPPED with one. -/
theorem witness_run_line :
    live.takes .A (.runLine .A 1) ∧ live.line ≠ .stopped ∧ State.bare.takes .A (.runLine .A 1) ∧
      State.bare.line = .stopped ∧ State.bare.identity.code = 0xFFFF ∧
      { live with line := .stopped }.identity.code ≠ 0xFFFF ∧ { live with line := .stopped }.takes .A (.runLine .A 1) := by
  decide +kernel

/-- `live` with port A in the hold set and the line HELD. -/
def heldByA : State := { live with line := .held, hold := ⟨true, false⟩ }

/-- `live` while a flood of entry 4 is on channel 1, after so many of its 18 slots. -/
def flooding (slots : Nat) (e : Entry) : State :=
  (booked [e]).modChan .L1 (fun c =>
    { c with state := .sending, openPart := some 4, work := some (.flood ⟨some 4, 1, 18, slots, []⟩) })

theorem witness_hold_line_coherent :
    ChannelsCoherent heldByA ∧ ChannelsCoherent (flooding 5 (entry 4 (part .sending))) :=
  ⟨by decide +kernel, by decide +kernel⟩

/-- Already held; RUNNING with work in progress; RUNNING without; and a line that is not RUNNING. -/
theorem witness_hold_line :
    heldByA.hold.get .A = true ∧ heldByA.takes .A (.holdLine .A 1) ∧
      (flooding 5 (entry 4 (part .sending))).hold.get .A = false ∧
      ((flooding 5 (entry 4 (part .sending))).chan .L1).work.isSome = true ∧
      live.line = .running ∧ (∀ ph ∈ phases, (live.chan ph).work = none) ∧ heldByA.hold.get .B = false ∧
      heldByA.line ≠ .running := by decide +kernel

theorem witness_release_line :
    live.hold.get .A = false ∧ heldByA.hold.get .A = true ∧ heldByA.takes .A (.releaseLine .A 1) := by decide +kernel

/-- No joint hold on a RUNNING line, and on a line one port alone holds; the joint commands on a STOPPED line and on one
that both hold. -/
theorem witness_joint :
    live.line ≠ .stopped ∧ ¬ (live.line = .held ∧ live.hold = ⟨true, true⟩) ∧ heldByA.line ≠ .stopped ∧
      ¬ (heldByA.line = .held ∧ heldByA.hold = ⟨true, true⟩) ∧ State.bare.line = .stopped ∧
      ({ heldByA with hold := ⟨true, true⟩ } : State).line = .held := by decide +kernel

/-- Profile 6 names none and 5 does; parameter 0Eh names none, a level parameter none without a channel 1 to 3; each
parameter at an end of its range; group 64 and permit 4 are out of range, group 63 and permit 3 in it; layout 3. -/
theorem witness_settings :
    6 ≤ (6 : Byte).toNat ∧ (5 : Byte).toNat < 6 ∧ 0x0D < (0x0E : Byte).toNat ∧ parameterRange 0 = some (1, 8) ∧
      parameterRange 9 = some (60, 7200) ∧ phaseOfChannel 1 = some .L1 ∧ phaseOfChannel 3 = some .L3 ∧
      63 < (64 : Byte).toNat ∧ permitByte .neither = 3 ∧ 2 < (3 : Byte).toNat ∧ State.bare.store.state = .idle ∧
      State.bare.store.heldDone = none ∧ State.bare.settings.degradeLimit ≤ 30 := by decide +kernel

theorem witness_settings_taken (p : Port) (i : Instr) : State.bare.takes p i := bare_takes p i

/-- FFFFh; a part that has its code; one that has none. -/
theorem witness_system_code :
    (0xFFFF : Word16) = 0xFFFF ∧ live.identity.code ≠ 0xFFFF ∧ State.bare.identity.code = 0xFFFF ∧
      live.takes .A (.writeSystemCode .A 1 7) := by decide +kernel

/-- An IDLE store, an ERASING one and a WRITING one, its port with room; and a port without. -/
theorem witness_saves :
    live.store.state = .idle ∧ live.store.heldDone = none ∧ (run (.saveSettings .A 1) live).store.state = .erasing ∧
      (run .eraseEnd (run (.saveRoster .A 1) live)).store.state = .writing ∧
      (run .eraseEnd (run (.saveRoster .A 1) live)).store.save.isSome = true ∧
      ((run .eraseEnd (run (.saveRoster .A 1) live)).port .A).outq.length < 16 ∧
      (crowded [] true).store.state = .idle ∧ ((crowded [] true).port .A).held ≠ [] := by decide +kernel

/-- The ends of the ranges of test 2 of R10: register 8 in, register 9, relay 3, a pulse of 0 minutes, class 2, group 64
and 604,801 s ahead out. -/
theorem witness_submit_ranges :
    submitInRange { order 2000 with action := 0x18 } 1000000 ∧
      submitInRange { order 2000 with action := 0x42, duration := 1 } 1000000 ∧
      submitInRange { order 605800 with group := 63 } 1000000 ∧ ¬ submitInRange { order 2000 with action := 0x19 } 1000000 ∧
      ¬ submitInRange { order 2000 with action := 0x23 } 1000000 ∧
      ¬ submitInRange { order 2000 with action := 0x41 } 1000000 ∧ ¬ submitInRange { order 2000 with cls := 2 } 1000000 ∧
      ¬ submitInRange { order 2000 with group := 64 } 1000000 ∧ ¬ submitInRange (order 605801) 1000000 := by
  simp [submitInRange, order]

/-- An activation at now is late without an expiry, and not with an expiry ahead; one ahead is not late. -/
theorem witness_submit_late :
    submitLate (order 1000) 1000000 ∧ ¬ submitLate { order 1000 with expiry := some 1001 } 1000000 ∧
      ¬ submitLate (order 1001) 1000000 := by
  simp [submitLate, order]

/-- Clock UNSET; a permit that shuts A out; an entry for the same group and second; a quota of 0; 128 entries of B. -/
theorem witness_submit_tests :
    State.bare.clock.isSet = false ∧ live.clock.isSet = true ∧
      ({ live with settings := { live.settings with permits := List.replicate 64 .onlyB } }.permit 1).admits .A = false ∧
      (live.permit 1).admits .A = true ∧
      (∃ e ∈ (booked [entry 4 (part .waiting)]).calendar, e.group = (order 2000).group.toNat ∧
        e.activation = (order 2000).activation.toNat) ∧
      { live with settings := { live.settings with quota := ⟨0, 0⟩ } }.settings.quota.get .A ≤ entriesOf live .A ∧
      entriesOf (booked (List.replicate 128 { entry 4 (part .waiting) with origin := .B, activation := 3000 })) .A <
        live.settings.quota.get .A ∧
      Config.calendarCapacity live.settings.layout ≤
        (booked (List.replicate 128 { entry 4 (part .waiting) with origin := .B })).calendar.length ∧
      live.calendar.length < Config.calendarCapacity live.settings.layout ∧ 0 < (live.figures 1 .L1).members := by
  decide +kernel

theorem witness_submit_no_conflict : ¬ submitConflicts live (order 2000) := by
  intro ⟨e, h, _⟩
  have : live.calendar = [] := by decide +kernel
  simp [this] at h

/-- A group without members: an activation 604,000 s ahead leaves its parts WAITING, one at now has their ES come. -/
theorem witness_submit_unneeded :
    (∀ ph ∈ phases, (live.figures 9 ph).members = 0) ∧
      (∀ ph ∈ phases, live.clock.millis < (live.plan 9 .routine 605000 ph).es) ∧
      (∀ ph ∈ phases, (live.plan 9 .routine 1001 ph).es ≤ live.clock.millis) ∧
      submitInRange { order 1001 with group := 9 } 1000000 := by
  refine ⟨by decide +kernel, by decide +kernel, by decide +kernel, ?_⟩
  simp [submitInRange, order]

/-- The group without members, its ES come: the reply, PART FINISHED of each phase, and OUTCOME COMPLETE (R7, R9, R11). -/
theorem test_submit_unneeded :
    let t := run (.submit .A 7 { order 1001 with group := 9 }) live
    t.calendar = [] ∧ (itemsA t).length = 5 ∧
      ((itemsA t).map Item.bytes).map (fun b => (b.drop 2).take 1) = [[1], [2], [2], [2], [7]] := by decide +kernel

/-- No entry; another port's; a RETIRING one; one already cancelled; a WAITING one; one whose flood is in flight; and a
CONFIRMING one. -/
theorem witness_cancel :
    live.entry? 4 = none ∧ (booked [{ entry 4 (part .waiting) with origin := .B }]).entry? 4 ≠ none ∧
      { entry 4 unneeded with outcome := some .complete }.outcome.isSome = true ∧
      { entry 4 (part .waiting) with cancelled := true }.cancelled = true ∧
      (booked [entry 4 (part .waiting)]).entry? 4 = some (entry 4 (part .waiting)) ∧
      (flooding 5 (entry 4 (part .sending))).floodOf 4 .L1 = true ∧
      (entry 4 unneeded).allFinished = true ∧ ((booked [entry 4 (part .waiting)]).calendar.map (·.handle)).Nodup ∧
      (booked []).takes .A (.cancel .A 1 4) := by decide +kernel

/-- ADD UNIT: address 0, phase 3, a group 64 and a group twice are refused; a known address; a lawful route over unit 0 and
an unlawful one over unit 1 alone; index 2 the lowest free. -/
theorem witness_add_unit :
    live.takes .A (.addUnit .A 1 ⟨0x13, 0, ⟨0, 0, 0, 0, 0⟩, false, ⟨1, 0, 0, 0⟩⟩) ∧
      ¬ ((3 : Byte).toNat ≤ 2) ∧ (live.roster.map (·.2.address)) = [0x11, 0x12] ∧ 2 < live.rosterCapacity ∧
      live.unit? 2 = none ∧ (∀ j < 2, (live.unit? j).isSome = true) ∧ phaseByte .L1 = 0 := by decide +kernel

theorem witness_groups : groupsPass ⟨4, 1, 2, 3, 63⟩ ∧ ¬ groupsPass ⟨1, 64, 0, 0, 0⟩ ∧ ¬ groupsPass ⟨2, 1, 1, 0, 0⟩ := by
  simp [groupsPass, groupPlaces]

theorem witness_routes :
    routePasses live.roster .L1 none ⟨1, 0, 0, 0⟩ ∧ ¬ routePasses live.roster .L1 none ⟨1, 1, 0, 0⟩ ∧
      ¬ routePasses live.roster .L1 none ⟨4, 0, 0, 0⟩ := by
  have h : live.roster = [(0, unit 0x11 []), (1, unit 0x12 [0])] := by decide +kernel
  refine ⟨.inr ⟨by decide, [], 0, unit 0x11 [], rfl, by rw [h]; rfl, rfl, rfl, rfl, nofun⟩, ?_, ?_⟩
  · rintro (h' | ⟨_, front, last, v, hp, hv, _, _, hr, _⟩)
    · simp at h'
    · rw [h] at hv
      cases front with
      | nil =>
        simp [routePlaces] at hp
        subst hp
        simp [unitAt] at hv
        subst hv
        simp [unit, UnitRec.added] at hr
      | cons a rest => simp [routePlaces] at hp
  · rintro (h' | ⟨h', _⟩) <;> simp at h'

/-- A roster of the 384 units that layout 2 holds. -/
def fullRoster : State :=
  { live with
    settings := { live.settings with layout := 2 }
    roster := (List.range 384).map (fun i => (i, unit (BitVec.ofNat 32 (i + 0x11)) [])) }

theorem full_roster_lawful : rosterLawful fullRoster.roster := by
  refine ⟨?_, ?_, ?_, ?_⟩
  · simp only [fullRoster, List.map_map]
    exact (List.pairwise_lt_range (n := 384)).map _ (fun _ _ h => h)
  · simp only [fullRoster, List.map_map]
    refine List.Nodup.map_on (fun x hx y hy h => ?_) List.nodup_range
    simp only [List.mem_range, unit, UnitRec.added, Function.comp] at hx hy h
    have h := congrArg BitVec.toNat h
    simp only [BitVec.toNat_ofNat] at h
    omega
  · intro x hx
    simp only [fullRoster, List.mem_map, List.mem_range] at hx
    obtain ⟨i, hi, rfl⟩ := hx
    simp only [unit, UnitRec.added, ← BitVec.toNat_inj, ne_eq, BitVec.toNat_ofNat]
    exact ⟨by simp; omega, by simp; omega⟩
  · intro x hx
    simp only [fullRoster, List.mem_map, List.mem_range] at hx
    obtain ⟨i, _, rfl⟩ := hx
    rfl

theorem full_roster_below : ∀ x ∈ fullRoster.roster, x.1 < 384 := by
  intro x hx
  simp only [fullRoster, List.mem_map, List.mem_range] at hx
  obtain ⟨i, hi, rfl⟩ := hx
  exact hi

theorem witness_full_roster :
    RosterLawful fullRoster ∧ fullRoster.rosterCapacity = 384 ∧ ∀ i < 384, (fullRoster.unit? i).isSome = true :=
  ⟨lawful_of_blank _ (by decide +kernel) full_roster_lawful full_roster_below, by decide +kernel, fun i hi => by
    simp only [State.unit?, unitAt, Option.isSome_map, List.find?_isSome]
    exact ⟨_, List.mem_map.2 ⟨i, List.mem_range.2 hi, rfl⟩, by simp⟩⟩

/-- EDIT UNIT and RETIRE UNIT: unit 0 present and index 2 free, below the capacity of 512. -/
theorem witness_edit_unit :
    live.unit? 0 = some (unit 0x11 []) ∧ live.unit? 2 = none ∧ live.rosterCapacity = 512 ∧
      live.takes .A (.editUnit .A 1 ⟨0, none, none, none, some false⟩) ∧ live.takes .A (.retireUnit .A 1 0) := by
  decide +kernel

/-- PING UNIT: a queue of 8; a queue with a place; a HALTED channel, its queue empty, or with a record QUEUED or HELD. -/
theorem witness_ping_unit :
    8 ≤ ({ live with pings := ⟨List.replicate 8 (pingRecord .queued), [], []⟩ }.pingQueue .L1).length ∧
      (live.pingQueue .L1).length < 8 ∧ (live.chan .L1).state ≠ .halted ∧ (halted.chan .L1).state = .halted ∧
      (halted.unit? 0).isSome = true ∧ halted.takes .A (.pingUnit .A 1 0 false) ∧
      { halted with pings := ⟨[pingRecord .queued], [], []⟩ }.pingQueue .L1 = [] ++ pingRecord .queued :: [] ∧
      (pingRecord .queued).state = .queued ∧ isHeldFor .A (pingRecord (.held .silent)) = true := by decide +kernel

/-- A rest that ends now and one that ends later. -/
theorem witness_rest :
    ({ Discovery.fresh with state := .resting, restEnd := some 1000000 }).restEnd = some 1000000 ∧
      1000000 ≤ live.elapsed ∧ ¬ 1000001 ≤ live.elapsed ∧ live.takes .A (.startDiscovery .A 1) := by decide +kernel

/-- A probe of the whole address range from DIRECT at the end of its first window: outbound 17, window 19, gap 1. -/
def probing (roster : Roster) : State :=
  ({ live with roster }.modDisc .L1 (fun d =>
      { d with state := .probing, origin := some .direct, probe := some ⟨.direct, ⟨0, 0⟩, false, []⟩ })).modChan .L1
    (fun c => { c with state := .listening, work := some (.probe ⟨0, 17, 19, 1, 0, 37, []⟩) })

/-- A PROBE REPLY body from a unit, margins 100. -/
def probeReply (address : Address) : List Byte :=
  let body := [0x12, 0x34, 0x71] ++ be32 address ++ [0, 1, 0, 0, 0, 1, 100, 0]
  body ++ be16 (lineCheck body)

/-- Its last window at its end, on a DRAINING line. -/
def lastWindow : State :=
  { (probing live.roster).modChan .L1 (fun c => { c with work := some (.probe ⟨0, 17, 19, 1, 3, 97, []⟩) }) with
    line := .draining }

theorem probing_lawful : RosterLawful (probing live.roster) :=
  lawful_of_blank _ (by decide +kernel) (by decide +kernel) (by decide +kernel)

/-- The first window: a frame that is no reply; a reply that began in the window, one slot before its end, and one that
began a slot too early, of a unit not held and of unit 0; and the last window at its end. -/
theorem witness_probe_window :
    ((probing live.roster).chan .L1).state = .listening ∧ windowEnd 17 19 1 0 ≤ 37 ∧
      readProbeReply 0x1234 [1, 2, 3] = none ∧ inTransit 0x1234 [1, 2, 3] = false ∧
      2 + (probeReply 0x13).length + 0 ≤ 19 ∧ ¬ 2 + (probeReply 0x13).length + 1 ≤ 19 ∧
      (readProbeReply 0x1234 (probeReply 0x13)).map (·.address) = some 0x13 ∧
      (readProbeReply 0x1234 (probeReply 0x11)).map (·.address) = some 0x11 ∧
      ((0x13 : Address) ^^^ 0) >>> (32 - 0) = 0 ∧ (((0x13 : Address) >>> (30 - 0)) &&& 3).toNat = 0 ∧
      (∀ y ∈ (probing live.roster).roster, y.2.address ≠ 0x13) ∧ (probing live.roster).unit? 2 = none ∧
      (probing live.roster).unit? 0 = some (unit 0x11 []) ∧
      (lastWindow.chan .L1).work = some (.probe ⟨0, 17, 19, 1, 3, 97, []⟩) ∧ windowEnd 17 19 1 3 ≤ 97 ∧
      (lastWindow.disc .L1).probe.isSome = true ∧ lastWindow.line ≠ .running := by decide +kernel

/-- A PROBE REPLY of route length 1 at return hop 0, in transit. -/
def passingReply : List Byte :=
  let body := [0x12, 0x34, 0x71] ++ be32 0x13 ++ [1, 0, 0, 0, 0x15, 1, 0, 0, 0, 1, 100, 100]
  body ++ be16 (lineCheck body)

/-- Windows with several frames: all in transit; a reply taken of window 3 in window 0, and carrier beside it; the same
before a reply that agrees, with carrier after it. -/
theorem witness_probe_window_of_several :
    inTransit 0x1234 passingReply = true ∧ 2 + (probeReply 0xC0000013).length + 0 ≤ 19 ∧
      (readProbeReply 0x1234 (probeReply 0xC0000013)).map (·.address) = some 0xC0000013 ∧
      (((0xC0000013 : Address) >>> (30 - 0)) &&& 3).toNat = 3 ∧
      readWindow 0x1234 ⟨0, 0⟩ 0 19 (List.replicate 2 ⟨⟨passingReply, 9⟩, 0, 0⟩) = .empty ∧
      readWindow 0x1234 ⟨0, 0⟩ 0 19 [⟨⟨probeReply 0xC0000013, 9⟩, 0, 0⟩, ⟨⟨[], 9⟩, 0, 0⟩] = .empty ∧
      ((run (.probeWindowEnd .L1
        [⟨⟨probeReply 0xC0000013, 9⟩, 0, 0⟩, ⟨⟨probeReply 0x13, 9⟩, 0, 0⟩, ⟨⟨[], 9⟩, 0, 0⟩])
        (probing live.roster)).unit? 2).map (fun u => (u.address, u.margin)) = some (0x13, 9) := by decide +kernel

theorem witness_probe_window_of_full_roster :
    ∀ y ∈ fullRoster.roster, y.2.address ≠ 0xFFFF := by decide +kernel

/-- The last window of a probe over a full roster, with a halt pending or not. -/
def lastOfFull (haltPending : Bool) : State :=
  { lastWindow.modChan .L1 (fun c => { c with haltPending }) with
    roster := fullRoster.roster, settings := fullRoster.settings }

theorem witness_last_window_of_full_roster :
    RosterLawful (lastOfFull true) ∧ (lastOfFull true).rosterCapacity = 384 ∧
      ((lastOfFull true).chan .L1).haltPending = true ∧ ((lastOfFull false).chan .L1).haltPending = false ∧
      (2 + (probeReply 0xC0000013).length + 0 ≤ 19 ∧ (((0xC0000013 : Address) >>> (30 - 0)) &&& 3).toNat = 3) ∧
      ∀ y ∈ fullRoster.roster, y.2.address ≠ 0xC0000013 :=
  ⟨lawful_of_blank _ (by decide +kernel) full_roster_lawful full_roster_below, by decide +kernel, by decide +kernel,
    by decide +kernel, by decide +kernel, by decide +kernel⟩

/-- R124 and R59 on one event: ROSTER FULL, and CHANNEL HALT after it where a halt is pending. -/
theorem test_roster_full_at_a_halt :
    [true, false].map (fun haltPending =>
      let t := run (.probeWindowEnd .L1 [⟨⟨probeReply 0xC0000013, 9⟩, 0, 0⟩]) (lastOfFull haltPending)
      (t.faults.counters.getD 4 0, t.faults.counters.getD 7 0, t.faults.generation,
        t.faults.record.map (·.1))) =
      [(1, 1, live.faults.generation + 2, some (.rosterFull .L1 0xC0000013)),
        (1, 0, live.faults.generation + 1, some (.rosterFull .L1 0xC0000013))] := by decide +kernel

/-- SET TIME with 999 ms and with 1000. -/
theorem witness_set_time :
    ((booked [entry 4 (part .waiting), entry 5 (part .ready)]).calendar.map (·.handle)).Nodup ∧
      (booked []).takes .A (.setTime .A 1 5 999) ∧ (999 : Word16).toNat ≤ 999 ∧ 999 < (1000 : Word16).toNat := by
  decide +kernel

/-- A phase record of `live` with this run, and a crossing 10 ms before. -/
def measuring (present : Bool) (run : Nat) : State :=
  { live with
    elapsed := 1000010
    mains := ⟨⟨present, some ⟨1000000000, 1000000⟩, run, List.replicate run 10000⟩, PhaseRec.fresh, PhaseRec.fresh⟩ }

/-- No last crossing; an interval of 10,000 µs with a run of 6 and of 7; a PRESENT phase. -/
theorem witness_zero_crossing :
    (live.phaseRec .L2).lastCrossing = none ∧
      ((measuring false 6).phaseRec .L1).lastCrossing = some ⟨1000000000, 1000000⟩ ∧
      (measuring false 6).elapsed * 1000 - 1000000000 = 10000 ∧ ((measuring false 7).phaseRec .L1).run + 1 = 8 ∧
      ((measuring true 8).phaseRec .L1).present = true ∧ (halted.chan .L1).state = .halted := by decide +kernel

/-- 40 ms without a crossing: with a flood, with a ping in flight, a registering ping and a probe on the channel. -/
theorem witness_phase_loss :
    ({ flooding 5 (entry 4 (part .sending)) with elapsed := 1000040 }.lossDue .L1) = true ∧
      (live.lossDue .L1) = false ∧ ((flooding 5 (entry 4 (part .sending))).chan .L1).haltPending = false ∧
      (flooding 5 (entry 4 (part .sending))).entry? 4 = some (entry 4 (part .sending)) ∧
      (pingRecord .inFlight).state = .inFlight ∧ ((probing live.roster).disc .L1).stack.length < 8 ∧
      (halted.chan .L1).state = .halted := by decide +kernel

/-- The clock's last second, and a second before it. -/
theorem witness_second_boundary :
    4294967295 < { live with clock := ⟨true, 4294967295000⟩ }.clock.millis / 1000 + 1 ∧
      live.clock.millis / 1000 + 1 ≤ 4294967295 := by decide +kernel

/-- A WAITING part whose ES is past, of a group with members and of one without, the last
of its entry, which sent a repeat or not; a READY part whose LS is past. -/
theorem witness_starts_reached :
    (booked [entry 4 (part .waiting)]).entry? 4 = some (entry 4 (part .waiting)) ∧
      ((entry 4 (part .waiting)).parts.get .L1).es ≤ live.clock.millis ∧ 0 < (live.figures 1 .L1).members ∧
      (live.figures 2 .L1).members = 0 ∧ (∀ q ∈ [Phase.L2, .L3], ((entry 4 (part .waiting)).parts.get q).state = .finished) ∧
      (∃ q, 0 < ({ entry 4 (part .waiting) with parts := ⟨part .waiting, { unneeded with sent := 2 }, unneeded⟩ }.parts.get
        q).sent) ∧
      ((entry 4 (part .ready)).parts.get .L1).ls ≤ live.clock.millis := by
  exact ⟨by decide +kernel, by decide +kernel, by decide +kernel, by decide +kernel, by decide +kernel,
    ⟨.L2, by decide +kernel⟩, by decide +kernel⟩

/-- A part in class 1, a suspended part, a queued ping, a registration record and a filter: each is chosen where nothing
stands before it; and nothing where there is nothing. -/
theorem witness_arbiter :
    (booked [entry 4 (part .ready)]).choose .L1 = some (.part 4) ∧
      ((booked [entry 4 (part .suspended)]).modChan .L1 (fun c => { c with suspendedPart := some 4 })).choose .L1 =
        some (.resume 4) ∧
      { live with pings := ⟨[pingRecord .queued], [], []⟩ }.choose .L1 = some .ping ∧
      (live.modDisc .L1 (fun d => { d with registration := [(0, 0x11)] })).choose .L1 = some .registration ∧
      (run (.startDiscovery .A 1) live).choose .L1 = some .probe ∧ live.choose .L1 = none := by decide +kernel

/-- An exchange with unit 0, listening, after so many slots: outbound 13, silence point 32. -/
def listening (owner : ExchangeOwner) (slots : Nat) : State :=
  { live with line := .draining, hold := ⟨true, false⟩, pings := ⟨[pingRecord .inFlight], [], []⟩ }.modChan .L1 (fun c =>
    { c with
      state := .listening
      work := some (.exchange ⟨owner, .ping, 0, 0x11, 0, .robust, 13, 32, slots, []⟩) })

/-- An entry CONFIRMING its L1 part, with unit 0 current. -/
def confirming : Entry :=
  { entry 4 { part .finished with finish := some .onTime, sent := 2, start := some 900000 } with
    confirm := true, sequence := some 1
    confirmation := some
      { records :=
          ⟨{ PhaseProgress.fresh with cursor := 1, current := some (0, 0x11), expected := 1 },
            { PhaseProgress.fresh with cursor := 512 }, { PhaseProgress.fresh with cursor := 512 }⟩
        unconfirmedList := [] } }

/-- LS of entry 5 reached beside the CONFIRMING entry of its group, with an exchange of that one in flight and without. -/
theorem witness_cut_short :
    (booked [confirming, entry 5 (part .ready)]).entry? 5 = some (entry 5 (part .ready)) ∧
      ((booked [confirming, entry 5 (part .ready)]).calendar.map (·.handle)).Nodup ∧
      confirming.cancelled = false ∧ confirming.confirmStopped = false ∧ confirming.confirmation.isSome = true ∧
      (listening (.confirm (some 4)) 32).exchangeOf 4 .L1 = true ∧
      (∀ ph ∈ phases, (booked [confirming, entry 5 (part .ready)]).exchangeOf 4 ph = false) := by decide +kernel

theorem witness_confirming :
    (booked [confirming]).entry? 4 = some confirming ∧ confirming.confirming = true ∧ confirming.confirmLive = true ∧
      (booked [confirming]).choose .L1 = some (.confirm 4) ∧ confirming.allFinished = true ∧ confirming.locks = true := by
  decide +kernel

/-- A flood at its last slot: its last repeat, or not its last; with a halt pending; ROUTINE with due urgent work; and one
whose entry has gone. -/
theorem witness_flood_end :
    ((flooding 18 (entry 4 (part .sending))).chan .L1).work = some (.flood ⟨some 4, 1, 18, 18, []⟩) ∧
      ((flooding 17 (entry 4 (part .sending))).chan .L1).work = some (.flood ⟨some 4, 1, 18, 17, []⟩) ∧
      ({ part .sending with sent := 1 }.sent + 1 = (part .sending).planned) ∧ (part .sending).sent + 1 ≠ (part .sending).planned ∧
      ((flooding 18 (entry 4 (part .sending))).chan .L1).openPart = some 4 ∧
      ((flooding 18 (entry 4 (part .sending))).calendar.map (·.handle)).Nodup := by decide +kernel

/-- A ROUTINE flood beside a due URGENT part of another group. -/
theorem witness_urgent_due :
    let s := { flooding 18 { entry 4 (part .sending) with cls := .routine } with
      calendar := [{ entry 4 (part .sending) with cls := .routine }, { entry 5 (part .ready) with group := 2 }] }
    inClass s .L1 (s.crossingNow .L1) 1 { entry 5 (part .ready) with group := 2 } := by
  refine ⟨by decide +kernel, by decide +kernel, ⟨?_, .inl (by decide +kernel), by decide +kernel⟩, .inl (by decide +kernel)⟩
  decide +kernel

/-- A gap that has run its slots, before and at the cut-off. -/
theorem witness_gap_end :
    let s := (booked [entry 4 (part .sending)]).modChan .L1 (fun c =>
      { c with state := .sending, openPart := some 4, gapLeft := some 0 })
    (s.chan .L1).gapLeft = some 0 ∧ (s.chan .L1).work = none ∧ s.entry? 4 = some (entry 4 (part .sending)) ∧
      s.crossingNow .L1 < (entry 4 (part .sending)).cutOff * 1000 ∧
      { entry 4 (part .sending) with activation := 1000 }.cutOff * 1000 ≤ s.crossingNow .L1 := by decide +kernel

/-- A REPLY body from unit 0, sequence 1, margin 100. -/
def reply : List Byte :=
  let body := [0x12, 0x34, 0x51, 0, 0, 0, 0x11, 0, 1, 1, 1, 100, 0]
  body ++ be16 (lineCheck body)

/-- A reply taken at the silence point, and one after it; silence at the silence point and before it; and a frame that is
no reply. -/
theorem witness_exchange :
    ((listening .ping 32).chan .L1).state = .listening ∧ ((listening .ping 32).chan .L1).haltPending = false ∧
      (listening .ping 32).line ≠ .running ∧
      readReply 0x1234 reply = some ⟨0x11, some 1, 100, 0⟩ ∧ readReply 0x1234 [1, 2] = none ∧
      (listening .ping 32).unit? 0 = some (unit 0x11 []) ∧
      (listening .ping 32).pingQueue .L1 = [] ++ pingRecord .inFlight :: [] ∧
      ((listening .registration 13).chan .L1).state = .listening := by decide +kernel

/-- An exchange whose outbound span has run, and a probe's. -/
theorem witness_span_end :
    let s := (listening .ping 13).modChan .L1 (fun c => { c with state := .sending })
    (s.chan .L1).work = some (.exchange ⟨.ping, .ping, 0, 0x11, 0, .robust, 13, 32, 13, []⟩) ∧
      (s.chan .L1).state = .sending := by decide +kernel

/-- The three cases of R140 at the ends of the ACQUIRE band, 44 to 52. -/
theorem witness_level_window :
    (LevelRec.fresh 40).state = .acquire ∧ (43 : Int) < 48 - 4 ∧ ¬ (44 : Int) < 48 - 4 ∧ ¬ 48 + 4 < (52 : Int) ∧
      48 + 4 < (53 : Int) := by decide

/-- A direct exchange at the eighth sample, and R141's cases beside R140's: from level 61 the raise for 43 passes the maximum
of 63, and from level 60 it does not. -/
theorem witness_level_limit :
    (let s :=
      { listening .ping 32 with
        levels := ⟨{ LevelRec.fresh 61 with windowCount := 7 }, LevelRec.fresh 40, LevelRec.fresh 40⟩ }
     (s.chan .L1).work = some (.exchange ⟨.ping, .ping, 0, 0x11, 0, .robust, 13, 32, 32, []⟩) ∧
      (s.levelRec .L1).windowCount + 1 = 8 ∧ (s.settings.levels.get .L1).target = 48 ∧
      (s.settings.levels.get .L1).high = 63) ∧
      63 < 61 + (48 - 43 + 1) / 2 ∧ ¬ 63 < 60 + (48 - 43 + 1) / 2 := by decide +kernel

/-- The second silence of a unit already in ROBUST makes it DEGRADED and recomputes nothing: a part whose ES has passed is
not read again (R100, R115). -/
theorem test_degrading_in_robust_recomputes_nothing :
    let s :=
      { listening .ping 32 with
        roster := [(0, { unit 0x11 [] with mode := .robust, silence := 1 })], calendar := [entry 4 (part .waiting)] }
    let t := run (.silencePoint .L1) s
    (t.unit? 0).map (fun u => (u.state, u.mode, u.silence)) = some (.degraded, .robust, 2) ∧
      t.calendar = s.calendar ∧ t.groups = s.groups := by decide +kernel

/-- A unit that has a sample. -/
theorem witness_estimate :
    ((unit 0x11 []).takeSample true 200).samples ≠ 0 ∧ ((unit 0x11 []).takeSample true 200).margin ≤ 255 := by decide

/-- The plan of a frequency above 0, and a delay on each side of its clamp. -/
theorem witness_plan :
    0 < live.fPlan ∧ 2000 * 1000 ≤ 2000000 ∧ 1999901 < 2000 * 1000 ∧ delayField 2000 1999901 = 1 ∧
      delayField 8000 0 = 65535 := by decide +kernel

/-- The current generation and another; channels 0, 1, 3 and 4; a survey RUNNING and one with a notice held. -/
theorem witness_record :
    (0 : Word16).toNat = live.faults.generation ∧ (1 : Word16).toNat ≠ live.faults.generation ∧ channelByte .L1 = 1 ∧
      channelByte .L3 = 3 ∧ 3 < (4 : Byte).toNat ∧ ((owing .storeDone).survey .L1).held ≠ [] ∧
      ((run (.startSurvey .B 1 1 9) live).survey .L1).state = .running ∧
      ((run (.startSurvey .B 1 1 9) live).survey .L1).starter = some .B ∧
      (run (.startSurvey .B 1 1 9) live).takes .A (.startSurvey .A 1 1 9) := by decide +kernel

/-- The crossing 10 ms after the last one, and the state in which the channel then acts. -/
def due (s : State) : State := { s with elapsed := 1000010 }

/-- `s` crossed by that crossing. -/
def acting (s : State) : State := crossed (due s) .L1 1000010000 false

theorem idle_at (s : State) (h : (due s).phaseRec .L1 = live.phaseRec .L1 ∧ s.line = .running ∧ (s.chan .L1).state = .idle ∧
    (s.chan .L1).work = none ∧ (s.chan .L1).gapLeft = none ∧ (s.survey .L1).state ≠ .running) :
    idleAt (due s) .L1 1000010000 := by
  have hc : (live.phaseRec .L1).lastCrossing = some ⟨1000000000, 1000000⟩ := by decide +kernel
  refine ⟨by rw [h.1]; decide +kernel, ⟨_, by rw [h.1]; exact hc, by decide, by decide⟩, h.2.1, h.2.2.1, h.2.2.2.1,
    h.2.2.2.2.1, h.2.2.2.2.2⟩

/-- `live` with entry 4 the open part of channel 1, between floods. -/
def paused (e : Entry) (last : Nat) : State :=
  (booked [e, { entry 5 (part .ready) with group := 2 }]).modChan .L1 (fun c =>
    { c with openPart := some 4, lastFloodEnd := some last, crossings := 10 })

/-- A READY part and a suspended part that the arbiter chooses, and no work; an open part whose gap of 1 slot is over or not,
before its cut-off or at it, and a ROUTINE one beside urgent work. -/
theorem witness_parts_at_a_crossing :
    (idleAt (due (booked [entry 4 (part .ready)])) .L1 1000010000 ∧
      (acting (booked [entry 4 (part .ready)])).choose .L1 = some (.part 4)) ∧
      (let s := (booked [entry 4 (part .suspended)]).modChan .L1 (fun c => { c with suspendedPart := some 4 })
       idleAt (due s) .L1 1000010000 ∧ (acting s).choose .L1 = some (.resume 4)) ∧
      (idleAt (due live) .L1 1000010000 ∧ (acting live).choose .L1 = none) ∧
      (idleAt (due (paused (entry 4 (part .sending)) 11)) .L1 1000010000 ∧
        ¬ 11 + (paused (entry 4 (part .sending)) 11).settings.gap ≤ 10 + 1 ∧
        10 + (paused (entry 4 (part .sending)) 10).settings.gap ≤ 10 + 1) ∧
      ((booked [entry 4 (part .ready)]).calendar.map (·.handle)).Nodup ∧
      ((paused { entry 4 (part .sending) with cls := .routine } 10).calendar.map (·.handle)).Nodup ∧
      { entry 4 (part .sending) with activation := 1000 }.cutOff * 1000 ≤ live.clock.millis ∧
      inClass (acting (paused { entry 4 (part .sending) with cls := .routine } 10)) .L1 1000000 1
        { entry 5 (part .ready) with group := 2 } :=
  ⟨⟨idle_at _ (by decide +kernel), by decide +kernel⟩, ⟨idle_at _ (by decide +kernel), by decide +kernel⟩,
    ⟨idle_at _ (by decide +kernel), by decide +kernel⟩,
    ⟨idle_at _ (by decide +kernel), by decide +kernel, by decide +kernel⟩, by decide +kernel, by decide +kernel,
    by decide +kernel, ⟨by decide +kernel, by decide +kernel, ⟨by decide +kernel, .inl (by decide +kernel), by decide +kernel⟩,
      .inl (by decide +kernel)⟩⟩

/-- `live` with a discovery cycle at an origin, a filter on its stack. -/
def cycling (origin : Origin) : State :=
  live.modDisc .L1 (fun d => { d with state := .probing, origin := some origin, stack := [⟨0, 0⟩] })

/-- Each exchange and probe the arbiter chooses: a confirmation whose current unit is there, gone, or LOST; a ping; a
registering ping; a probe from DIRECT, from unit 0, and from an index that serves no more. -/
theorem witness_exchanges_at_a_crossing :
    (idleAt (due (booked [confirming])) .L1 1000010000 ∧ (acting (booked [confirming])).choose .L1 = some (.confirm 4) ∧
      (live.unit? 0).map (fun u => (u.address, u.phase, u.groups, u.state)) = some (0x11, .L1, [1], .active) ∧
      { live with roster := [] }.unit? 0 = none ∧
      (({ live with roster := [(0, { unit 0x11 [] with state := .lost })] } : State).unit? 0).map (fun u => u.state) =
        some .lost) ∧
      (acting { live with pings := ⟨[pingRecord .queued], [], []⟩ }).choose .L1 = some .ping ∧
      (acting (live.modDisc .L1 (fun d => { d with registration := [(0, 0x11)] }))).choose .L1 = some .registration ∧
      (idleAt (due (cycling .direct)) .L1 1000010000 ∧ (acting (cycling .direct)).choose .L1 = some .probe) ∧
      (acting (cycling (.relay 0 0x11))).choose .L1 = some .probe ∧
      ((unit 0x11 []).state = .active ∧ (unit 0x11 []).relayCapable = true) ∧
      (acting (cycling (.relay 9 0x99))).choose .L1 = some .probe ∧ live.unit? 9 = none ∧
      RosterLawful (due (cycling (.relay 9 0x99))) :=
  ⟨⟨idle_at _ (by decide +kernel), by decide +kernel, by decide +kernel, by decide +kernel, by decide +kernel⟩,
    by decide +kernel, by decide +kernel, ⟨idle_at _ (by decide +kernel), by decide +kernel⟩, by decide +kernel,
    by decide +kernel, by decide +kernel, by decide +kernel,
    lawful_of_blank _ (by decide +kernel) (by decide +kernel) (by decide +kernel)⟩

/-- A unit one silence short of LOST. -/
theorem witness_unit_lost :
    let u : UnitRec := { unit 0x11 [] with silence := 4, state := .degraded }
    u.state ≠ .lost ∧ live.settings.lostLimit ≤ u.silence + 1 ∧ (live.port .B).outq.length < 16 := by decide +kernel

/-- A unit retired while its exchange is in flight, on the last phase with work but one: the POLL raises attempts made, the
DIRECT leaves POLL as next frame, and the unit is not reached (R82, R84, R86). -/
theorem test_retired_unit_ends_its_exchange :
    let e : Entry :=
      { confirming with
        confirmation := confirming.confirmation.map (fun c =>
          { c with records :=
              ⟨{ c.records.l1 with nextFrame := .direct }, { c.records.l2 with current := some (1, 0x12) },
                c.records.l3⟩ }) }
    let s (k : ExchangeFrame) : State :=
      { live with line := .draining, roster := [], calendar := [e] }.modChan .L1 (fun c =>
        { c with
          state := .listening
          work := some (.exchange ⟨.confirm (some 4), k, 0, 0x11, 0, .robust, 13, 32, 32, []⟩) })
    let after (k : ExchangeFrame) := (run (.silencePoint .L1) (s k)).progress? 4 .L1
    (after .poll).map (fun r => (r.attempts, r.notReached, r.current)) = some (1, 1, none) ∧
      (after .direct).map (fun r => (r.attempts, r.notReached, r.nextFrame)) = some (0, 1, .poll) := by decide +kernel

/-- No current unit; a current one with a sequence, and the distances 0, 1, 127, 128 and 255 from it; the last attempt and
one that is not; and its exchange in flight on a DRAINING line. -/
theorem witness_confirmation_counts :
    (PhaseProgress.fresh.current = none ∧ RosterLawful live) ∧
      ((booked [confirming]).entry? 4 = some confirming ∧ confirming.sequence = some 1 ∧
        confirming.confirmation.isSome = true) ∧
      [1, 2, 128, 129, 0].map (fun x : Byte => (x - 1).toNat) = [0, 1, 127, 128, 255] ∧
      live.settings.pollRetries = 1 ∧
      (let s := { listening (.confirm (some 4)) 32 with calendar := [confirming] }
       s.entry? 4 = some confirming ∧ (s.chan .L1).haltPending = false ∧ s.line ≠ .running ∧
        (∀ y ∈ s.calendar, y.handle ≠ 4 → y.group ≠ 1) ∧ s.holdsUnit 0 0x11 = true ∧
        s.holdsUnit 0 0x12 = false) :=
  ⟨⟨rfl, live_lawful⟩, by decide +kernel, by decide, by decide +kernel, by decide +kernel⟩

/-- A port that holds a notice already; and the last flood of an entry without confirmation, on a DRAINING line. -/
theorem witness_outcomes :
    ((owing .storeDone).calendar.map (·.handle)).Nodup ∧ ((owing .storeDone).port .A).held ≠ [] ∧
      (let e := entry 4 { part .sending with sent := 1, start := some 900000 }
       let s := { flooding 18 e with line := .draining }
       s.entry? 4 = some e ∧ (s.chan .L1).openPart = some 4 ∧ (s.chan .L1).haltPending = false ∧
        (∀ k ∈ [Phase.L2, .L3], (e.parts.get k).state = .finished) ∧ (e.parts.get .L1).sent + 1 = 2) := by decide +kernel

/-- A halt pending on a channel with a flood, an exchange, and a probe at its last window, and at the loss of its phase. -/
theorem witness_halts :
    live.faults.counters.length = 8 ∧
      (let s := (flooding 18 (entry 4 (part .sending))).modChan .L1 (fun c => { c with haltPending := true })
       (s.chan .L1).haltPending = true ∧ s.floodOf 4 .L1 = true ∧
        (s.entry? 4).map (fun e => (e.parts.get .L1).state) = some .sending) ∧
      (let s := (listening .ping 32).modChan .L1 (fun c => { c with haltPending := true })
       (s.chan .L1).haltPending = true ∧ (s.chan .L1).state = .listening ∧ (∀ h ∈ [4], s.floodOf h .L1 = false)) ∧
      (let s := lastWindow.modChan .L1 (fun c => { c with haltPending := true })
       (s.chan .L1).haltPending = true ∧ (s.chan .L1).state = .listening ∧ windowEnd 17 19 1 3 ≤ 97) ∧
      (let s := { live with elapsed := 1000040 }.modChan .L1 (fun c => { c with haltPending := true })
       (s.chan .L1).haltPending = true ∧ s.lossDue .L1 = true ∧ (s.phaseRec .L1).present = true) := by decide +kernel

/-- A RUNNING survey one sample short of its target, with room for its notice and without. -/
theorem witness_survey :
    let s := due (live.modSurvey .L1 (fun v =>
      { v with state := .running, starter := some .A, target := 3, sampled := 2, bins := List.replicate 16 0 }))
    ((s.phaseRec .L1).present = true ∧ s.elapsed * 1000 + 0 - 1000000000 = 10000) ∧
      ((s.survey .L1).state = .running ∧ (s.survey .L1).sampled + 1 = (s.survey .L1).target ∧
        (s.survey .L1).starter = some .A) ∧
      ((s.port .A).held = [] ∧ (s.port .A).outq.length < 16 ∧ ((owing .storeDone).port .A).held ≠ []) ∧
      ((halted.chan .L1).state = .halted ∧ (live.chan .L1).state = .idle) := by decide +kernel

end Sys2Proof.Tests
end

section
/-! PROOFS. The margin estimate under samples (R134) and the closing window of a level controller (R140). -/

namespace Sys2Proof.Machine

/-! ### Values held within a range, and counters that stay at their cap -/

theorem holdWithin_eq_self {lo hi v : Nat} (hlo : lo ≤ v) (hhi : v ≤ hi) : holdWithin lo hi v = v := by
  rw [holdWithin, if_neg (Nat.not_lt.mpr hlo), if_neg (Nat.not_lt.mpr hhi)]

theorem holdWithin_le {lo hi : Nat} (h : lo ≤ hi) (v : Nat) : holdWithin lo hi v ≤ hi := by
  unfold holdWithin
  split_ifs <;> omega

theorem saturatingSucc_eq_min {cap n : Nat} (h : n ≤ cap) : saturatingSucc cap n = min cap (n + 1) := by
  unfold saturatingSucc
  split_ifs <;> omega

/-! ### The closing window (R140) -/

section
variable (l : LevelRec) (v : LevelSettings) (m : Nat)

/-- The tolerance of the controller's state (R140). -/
def LevelRec.tolerance : Nat := match l.state with | .acquire => 4 | .monitor => 12

theorem LevelRec.tolerance_cast : (l.tolerance : Int) = if l.state = .acquire then 4 else 12 := by
  unfold LevelRec.tolerance
  cases l.state <;> rfl

/-- A window closed short of T − tol; LEVEL LIMIT is set by a raise beyond the maximum (R141). -/
theorem LevelRec.close_of_short (h : m + l.tolerance < v.target) :
    l.close v m =
      { l with
        level := min v.high (l.level + divUp (v.target - m) 2)
        windowCount := 0
        windowMin := none
        lastWindow := some (m, .raised)
        levelLimit := l.levelLimit || decide (v.high < l.level + divUp (v.target - m) 2) } :=
  if_pos h

/-- A window closed above T + tol; LEVEL LIMIT stays (R141). -/
theorem LevelRec.close_of_above (h : v.target + l.tolerance < m) :
    l.close v m =
      { l with
        level := max v.low (l.level - 1)
        windowCount := 0
        windowMin := none
        lastWindow := some (m, .lowered) } :=
  have not_short : ¬ m + l.tolerance < v.target := by omega
  (if_neg not_short).trans (if_pos h)

/-- A window closed in band clears LEVEL LIMIT (R141). -/
theorem LevelRec.close_of_inBand (hlow : v.target ≤ m + l.tolerance) (hhigh : m ≤ v.target + l.tolerance) :
    l.close v m =
      { l with
        state := .monitor
        windowCount := 0
        windowMin := none
        lastWindow := some (m, .held)
        levelLimit := false } :=
  (if_neg (Nat.not_lt.mpr hlow)).trans (if_neg (Nat.not_lt.mpr hhigh))

end

/-- Settles O55: the three cases of R140, each by the record it closes with. -/
theorem levelWindowsClose : Obligations.LevelWindowsClose := by
  unfold Obligations.LevelWindowsClose
  intro l v m
  simp only [← l.tolerance_cast]
  refine ⟨fun short => ?_, fun above => ?_, fun not_short not_above => ?_⟩
  · rw [l.close_of_short v m (by omega)]
    exact ⟨rfl, rfl, rfl⟩
  · rw [l.close_of_above v m (by omega)]
    refine ⟨?_, rfl, rfl⟩
    -- The level is a natural number: at level 0 the minimum, 0 or more, holds it.
    change ((max v.low (l.level - 1) : Nat) : Int) = _
    omega
  · rw [l.close_of_inBand v m (by omega) (by omega)]
    exact ⟨rfl, rfl, rfl⟩

/-! ### The margin estimate (R134) -/

theorem UnitRec.takeSample_of_samples_ne_zero (u : UnitRec) (sample : Nat) (h : u.samples ≠ 0) :
    u.takeSample false sample =
      { u with
        margin := nextEstimate u.margin sample
        samples := saturatingSucc 255 u.samples
        mode := reselect u.mode (nextEstimate u.margin sample) } := by
  simp [UnitRec.takeSample, h]

theorem nextEstimate_le (estimate sample : Nat) : nextEstimate estimate sample ≤ 255 :=
  holdWithin_le (Nat.zero_le 255) _

section
variable {estimate sample : Nat} (he : estimate ≤ 255) (hs : sample ≤ 255)
include he hs

/-- Between an estimate and a sample within 0 to 255 the bounds of R134 hold nothing back. -/
theorem nextEstimate_cast :
    (nextEstimate estimate sample : Int) = estimate + ((sample : Int) - estimate + 2) / 4 := by
  rw [nextEstimate, holdWithin_eq_self (Nat.zero_le _) (by omega)]
  omega

theorem nextEstimate_eq_self_iff :
    nextEstimate estimate sample = estimate ↔ sample ≤ estimate + 1 ∧ estimate ≤ sample + 2 := by
  have moved := nextEstimate_cast he hs
  omega

/-- An estimate that moves comes nearer to the sample, and does not pass it. -/
theorem nextEstimate_nearer (h : nextEstimate estimate sample ≠ estimate) :
    Nat.dist (nextEstimate estimate sample) sample < Nat.dist estimate sample := by
  have moved := nextEstimate_cast he hs
  unfold Nat.dist
  omega

end

/-- Under a steady sample the estimate reaches the band in which it stays, by induction on its distance from the
sample. -/
theorem nextEstimate_iterate_settles {estimate sample : Nat} (he : estimate ≤ 255) (hs : sample ≤ 255) :
    ∃ settled rounds, sample ≤ settled + 1 ∧ settled ≤ sample + 2 ∧
      ∀ n, rounds ≤ n → (fun e => nextEstimate e sample)^[n] estimate = settled := by
  induction hd : Nat.dist estimate sample using Nat.strong_induction_on generalizing estimate with
  | _ d ih =>
    subst hd
    by_cases stays : nextEstimate estimate sample = estimate
    · obtain ⟨hlow, hhigh⟩ := (nextEstimate_eq_self_iff he hs).mp stays
      exact ⟨estimate, 0, hlow, hhigh, fun n _ => Function.iterate_fixed stays n⟩
    · obtain ⟨settled, rounds, hlow, hhigh, later⟩ :=
        ih _ (nextEstimate_nearer he hs stays) (nextEstimate_le estimate sample) rfl
      refine ⟨settled, rounds + 1, hlow, hhigh, fun n hn => ?_⟩
      obtain ⟨k, rfl⟩ := Nat.exists_eq_add_of_le' (Nat.le_of_add_left_le hn)
      rw [Function.iterate_succ_apply]
      exact later k (Nat.le_of_succ_le_succ hn)

/-- Settles O56: one sample by the equation of R134, and a steady sample by its fixed points. -/
theorem estimateFollowsAndSettles : Obligations.EstimateFollowsAndSettles := by
  unfold Obligations.EstimateFollowsAndSettles
  refine ⟨fun u sample hsamples hcap hmargin hsample => ?_, fun _ _ => nextEstimate_iterate_settles⟩
  rw [u.takeSample_of_samples_ne_zero sample hsamples]
  refine ⟨?_, nextEstimate_le u.margin sample, saturatingSucc_eq_min hcap⟩
  rw [Int.fdiv_eq_ediv_of_nonneg _ (by decide)]
  exact nextEstimate_cast hmargin hsample

end Sys2Proof.Machine
end

section
/-! PROOFS. One step (log 2), the taking of commands (R168, log 1), the readings, and the commands of one block. -/

namespace Sys2Proof.Machine

/-! ### Steps and commands -/

/-- A client command its port takes is carried out with its frame gone from the FIFO. -/
theorem exec_of_takes {s : State} {p : Port} {i : Instr} {f : State → State} (h : s.takes p i)
    (arm : exec i s = whenTaken s p i f) : exec i s = .next (f (s.popFrame p)) :=
  arm.trans (whenTaken_of_takes f h)

/-- The arm of every client command: what it does is done where its port takes it. -/
theorem exec_client {c : Instr} {p : Port} {code tag : Byte} {params : List Byte}
    (h : clientCommand c = some (p, code, tag, params)) (s : State) : ∃ f, exec c s = whenTaken s p c f := by
  cases c <;> cases h <;> exact ⟨_, rfl⟩

theorem exec_next (c : Instr) (s : State) : ∃ t, exec c s = .next t := by
  cases hc : clientCommand c with
  | some x =>
      obtain ⟨f, hf⟩ := exec_client hc s
      exact hf ▸ whenTaken_next s _ c f
  | none => cases c <;> first | exact ⟨_, rfl⟩ | cases hc

theorem step_of_pending {s : State} {c : Instr} {rest : List Instr} (h : s.pending = c :: rest) :
    step s = exec c { s with pending := rest } := by
  unfold step
  split
  · rename_i heq
    rw [h] at heq
    cases heq
    rfl
  · simp_all

theorem step_of_idle {s : State} (h : s.pending = []) :
    step s = (match s.eventDue with | some (c, t) => exec c t | none => .next s.tick) := by
  unfold step
  split
  · simp_all
  · rfl

/-- Settles O1. -/
theorem stepRunsFrontCommand : Obligations.StepRunsFrontCommand :=
  fun _ _ _ h => step_of_pending h

/-- The clock's count after a millisecond, as the least of the next count and the greater of its present and last. -/
theorem State.tick_eq (s : State) :
    s.tick = { s with
      elapsed := s.elapsed + 1
      clock := { s.clock with millis := min (s.clock.millis + 1) (max s.clock.millis 4294967295999) } } := by
  have count : (if s.clock.millis < Config.lastMillis then s.clock.millis + 1 else s.clock.millis) =
      min (s.clock.millis + 1) (max s.clock.millis 4294967295999) := by
    unfold Config.lastMillis
    split <;> omega
  rw [State.tick, count]

/-- Settles O2. -/
theorem idleStepTakesDueEventOrTime : Obligations.IdleStepTakesDueEventOrTime := by
  intro s idle
  rw [step_of_idle idle]
  refine ⟨fun c t due => by rw [due], fun none_due => ?_⟩
  rw [none_due, ← s.tick_eq]

/-- Settles O3. -/
theorem everyCommandAnswersNext : Obligations.EveryCommandAnswersNext := exec_next

/-- Settles O4. -/
theorem untakenCommandChangesNothing : Obligations.UntakenCommandChangesNothing := by
  intro c p code tag params s hc untaken
  obtain ⟨f, arm⟩ := exec_client hc s
  exact arm.trans (whenTaken_of_not_takes f untaken)

/-! ### Transfers that carry no frame -/

/-- Settles O6. -/
theorem selectLatchesAndUnknownKindIgnored : Obligations.SelectLatchesAndUnknownKindIgnored := by
  refine ⟨fun p clockHigh s => ⟨rfl, fun none_running => ?_⟩, fun p kind count s x running => ?_⟩
  · simp [exec, execSelectAsserted, none_running, PortRec.select]
  · have arm : exec (.ignoredTransfer p kind count) s =
        .next (State.modPort { s with freeCount := s.freeCount + 1 } p
          (·.endTransfer (Config.ignoredKindByte s.freeCount :: List.replicate count Config.filler))) := by
      simp [exec, execIgnoredTransfer, running]
    exact ⟨_, _, arm, State.port_modPort_self _ p _, by simp [State.modPort, State.port]⟩

/-! ### Frames refused (R168) -/

theorem execFrameRefused_of_refusal {s : State} {p : Port} {f : Frame} {rest : List Frame} {code tag : Byte}
    {outcome : ReplyCode} (fifo : (s.port p).fifo = f :: rest) (room : (s.port p).outq.length < 16)
    (refused : FrameReading.refusal (readFrame p f.overLong f.bytes) = some (code, tag, outcome)) :
    exec (.frameRefused p) s = .next (s.answered p code tag outcome []) := by
  simp [exec, execFrameRefused, State.headReading, fifo, refused, Config.outQueueItems, room, State.answered]

theorem execFrameRefused_of_command {s : State} {p : Port} {f : Frame} {rest : List Frame} {i : Instr}
    (fifo : (s.port p).fifo = f :: rest) (named : readFrame p f.overLong f.bytes = .command i) :
    exec (.frameRefused p) s = .next s := by
  simp [exec, execFrameRefused, State.headReading, fifo, named, FrameReading.refusal]

/-- The tests of R168 on a frame within its envelope, from the sum on. -/
theorem readFrame_of_envelope {p : Port} {f : Frame} (h : f.overLong = false) (h4 : 4 ≤ f.bytes.length)
    (hl : (f.bytes.getD 0 0).toNat = f.bytes.length) :
    readFrame p f.overLong f.bytes =
      if byteSum f.bytes ≠ 0 then .badFrame (f.bytes.getD 1 0) (f.bytes.getD 2 0)
      else if codeKnown (f.bytes.getD 1 0) = false then .badParameter (f.bytes.getD 1 0) (f.bytes.getD 2 0)
      else match readCommand p (f.bytes.getD 1 0) (f.bytes.getD 2 0) (frameParams f.bytes) with
        | some i => .command i
        | none => .badFrame (f.bytes.getD 1 0) (f.bytes.getD 2 0) := by
  have short : ¬ f.bytes.length < 4 := by omega
  unfold readFrame
  simp only [h, short, hl, bne_self_eq_false, decide_false, Bool.or_self, Bool.false_eq_true, if_false, bne_iff_ne,
    Bool.not_eq_true'] <;> rfl

theorem codeKnown_iff (code : Byte) : codeKnown code = true ↔ 1 ≤ code.toNat ∧ code.toNat ≤ 0x25 := by
  simp [codeKnown]

/-- Settles O9, by the tests in their order. -/
theorem frameRefusedByTests : Obligations.FrameRefusedByTests := by
  intro p s f rest fifo room
  refine ⟨fun outside => execFrameRefused_of_refusal fifo room ?_,
    fun ⟨h, h4, hl⟩ sum => execFrameRefused_of_refusal fifo room ?_,
    fun ⟨h, h4, hl⟩ sum unknown => execFrameRefused_of_refusal fifo room ?_,
    fun ⟨h, h4, hl⟩ sum known size => execFrameRefused_of_refusal fifo room ?_,
    fun ⟨h, h4, hl⟩ sum known size => ?_⟩
  · have envelope_fails : (f.overLong || decide (f.bytes.length < 4) ||
        (f.bytes.getD 0 0).toNat != f.bytes.length) = true := by
      by_contra hc
      simp only [Bool.or_eq_true, decide_eq_true_eq, bne_iff_ne, not_or, not_not, Bool.not_eq_true] at hc
      exact outside ⟨hc.1.1, by omega, hc.2⟩
    simp only [readFrame, envelope_fails, if_true]
    rfl
  · rw [readFrame_of_envelope h h4 hl, if_pos sum]
    rfl
  · rw [readFrame_of_envelope h h4 hl, if_neg (by simpa using sum),
      if_pos (Bool.eq_false_iff.mpr (mt (codeKnown_iff _).mp unknown))]
    rfl
  · rw [readFrame_of_envelope h h4 hl, if_neg (by simpa using sum), if_neg (by simpa using (codeKnown_iff _).mpr known),
      size]
    rfl
  · obtain ⟨i, read⟩ := Option.isSome_iff_exists.mp size
    refine execFrameRefused_of_command fifo (i := i) ?_
    rw [readFrame_of_envelope h h4 hl, if_neg (by simpa using sum), if_neg (by simpa using (codeKnown_iff _).mpr known),
      read]

/-! ### Held notices (R172) -/

theorem noticeRoom_eq_false_iff (q : List Item) : noticeRoom q = false ↔ 16 ≤ q.length ∨ 15 ≤ noticeCount q := by
  rw [← Bool.not_eq_true, noticeRoom_iff]
  omega

/-- Settles O10, by the owner of the notice. -/
theorem heldNoticeIsQueuedAndItsOwnerGoesOn : Obligations.HeldNoticeIsQueuedAndItsOwnerGoesOn := by
  refine fun p s => ⟨fun o rest i held length notices item => ?_, fun none_due => ?_⟩
  · have room : noticeRoom (s.port p).outq = true := (noticeRoom_iff _).mpr ⟨length, notices⟩
    have item' : (s.modPort p (fun r => { r with held := rest })).heldItem p o = some i := by
      rw [← item]
      cases o <;> rfl
    have queued : exec (.heldNoticeQueued p) s =
        .next (((s.modPort p (fun r => { r with held := rest })).pushItem p i).completeHeld p o) := by
      simp [exec, execHeldNoticeQueued, held, room, State.queueHeld, item']
    have pushed : (s.modPort p (fun r => { r with held := rest })).pushItem p i =
        s.modPort p (fun r => { r with held := rest, outq := r.outq ++ [i] }) := by
      simp [State.pushItem, State.modPort, State.port]
    rw [queued, pushed]
    cases o with
    | outcome h => simp [State.completeHeld, State.retireEntry, bne, beq_eq_decide]
    | ping ph => rfl
    | storeDone => rfl
    | survey ph => simp [State.completeHeld, State.modSurvey, State.survey, beq_eq_decide]
  · have nothing : exec (.heldNoticeQueued p) s = .next s := by
      simp only [exec, execHeldNoticeQueued]
      split
      · rename_i o rest held
        have full : noticeRoom (s.port p).outq = false := by
          refine (noticeRoom_eq_false_iff _).mpr (none_due.resolve_left ?_)
          simp [held]
        simp [full]
      · rfl
    exact nothing

end Sys2Proof.Machine
end

section
/-! PROOFS. The readings (R165, R174, R179, R186, R188, and those of the tables), and the commands that write one block:
the line (R49, R52), the joint commands (R54, R182), the saves (R183), the system code (R186), the Fault Record (R187,
R188), the test masks (R155), and the arithmetic of chapter 2. -/

namespace Sys2Proof.Machine

/-! ### The readings -/

/-- The reference phase as READ TIME gives it: the lowest-numbered PRESENT one (R160, R165). -/
theorem State.referenceBytes_eq (s : State) :
    optionalByte (s.reference.map phaseByte) =
      if s.mains.l1.present then [1, 0] else if s.mains.l2.present then [1, 1]
      else if s.mains.l3.present then [1, 2] else [0, 0] := by
  have h : s.reference = if s.mains.l1.present then some .L1 else if s.mains.l2.present then some .L2
      else if s.mains.l3.present then some .L3 else none := by
    simp only [State.reference, phases, List.find?, State.phaseRec, Tri.get]
    cases s.mains.l1.present <;> cases s.mains.l2.present <;> cases s.mains.l3.present <;> rfl
  rw [h]
  split_ifs <;> rfl

/-- Settles O12. -/
theorem partReadingsAnswer : Obligations.PartReadingsAnswer := by
  refine ⟨fun p tag s h => exec_of_takes h rfl, fun p tag s h => (exec_of_takes h rfl).trans ?_,
    fun p tag s h => exec_of_takes h rfl, fun p tag s h => exec_of_takes h rfl, fun p tag s h => exec_of_takes h rfl⟩
  rw [State.referenceBytes_eq]
  rfl

/-- Settles O33. -/
theorem tableReadingsAnswer : Obligations.TableReadingsAnswer := by
  refine ⟨fun p tag handle s h => (exec_of_takes h rfl).trans ?_, fun p tag position s h => exec_of_takes h rfl,
    fun p tag index s h => exec_of_takes h rfl, fun p tag restart s h => ?_,
    fun p tag address s h => (exec_of_takes h rfl).trans ?_, fun p tag group s h => exec_of_takes h rfl,
    fun p tag channel s h => (exec_of_takes h rfl).trans ?_, fun p tag s h => exec_of_takes h rfl,
    fun p tag channel s h => (exec_of_takes h rfl).trans ?_⟩
  · have same : (s.popFrame p).entry? handle.toNat = s.entry? handle.toNat := rfl
    rw [same]
    cases s.entry? handle.toNat <;> rfl
  · refine ⟨cursorAfter s.rosterCapacity (collectUnits s.roster (if restart then 0 else s.readCursors.get p)),
      (exec_of_takes h rfl).trans ?_, fun fewer => ?_, fun x four last => ?_⟩
    · have flag (a b : Nat) : (if a ≤ b then (1 : Byte) else 0) = flagByte (decide (a ≤ b)) := by simp [flagByte]
      rw [flag]
      rfl
    · exact if_neg (Nat.ne_of_lt fewer)
    · refine (if_pos four).trans ?_
      rw [show (collectUnits s.roster _).getLast? = some x from last]
  · by_cases hv : address = 0 ∨ address = 0xFFFFFFFF
    · have : validAddress address = false := by
        rcases hv with rfl | rfl <;> rfl
      rw [if_pos hv]
      simp [this, State.answered]
    · have valid : validAddress address = true := by
        simpa [validAddress, not_or] using hv
      rw [if_neg hv]
      cases hf : s.roster.find? (fun x => decide (x.2.address = address)) <;>
        simp [valid, State.indexOf?, beq_eq_decide, hf, State.answered, indexedUnit]
  · cases phaseOfChannel channel <;> rfl
  · cases phaseOfChannel channel <;> rfl

/-! ### The line (R49, R52) -/

theorem Duo.eq_clear_iff (d : Duo Bool) : d = ⟨false, false⟩ ↔ (d.a || d.b) = false := by
  obtain ⟨a, b⟩ := d
  cases a <;> cases b <;> simp

theorem Duo.eq_full_iff (d : Duo Bool) : d = ⟨true, true⟩ ↔ d.a = true ∧ d.b = true := by
  obtain ⟨a, b⟩ := d
  cases a <;> cases b <;> simp

/-- LINE STATE is offered where the line or the hold set has changed (R53). -/
theorem State.noteLine_of_changed (s : State) {line : LineState} {hold : Duo Bool}
    (h : ¬ (s.line = line ∧ s.hold = hold)) : s.noteLine line hold = s.offerBoth (lineNotice s.line s.hold) := by
  unfold State.noteLine
  rw [if_neg (by simpa using h)]

theorem State.noteLine_of_same (s : State) {line : LineState} {hold : Duo Bool}
    (hl : s.line = line) (hh : s.hold = hold) : s.noteLine line hold = s := by
  simp [State.noteLine, hl, hh]

/-- Settles O16. -/
theorem runLineAndReleaseLineLetTheLineGo : Obligations.RunLineAndReleaseLineLetTheLineGo := by
  refine ⟨fun p tag s h => ⟨fun running => ?_, fun stopped code => ?_, fun stopped code => ?_⟩,
    fun p tag s h => ⟨fun free => ?_, fun holding => ?_⟩⟩
  · refine (exec_of_takes h rfl).trans ?_
    rw [if_pos (by simpa using running)]
    rfl
  · refine (exec_of_takes h rfl).trans ?_
    rw [if_neg (by simpa using stopped), if_pos (by simpa [Config.unsetCode] using code)]
    rfl
  · refine (exec_of_takes h rfl).trans ?_
    rw [if_neg (by simpa using stopped), if_neg (by simpa [Config.unsetCode] using code)]
    have line : (if (s.hold.a || s.hold.b) = true then LineState.held else .running) =
        if s.hold = ⟨false, false⟩ then .running else .held := by
      simp only [Duo.eq_clear_iff]
      cases (s.hold.a || s.hold.b) <;> rfl
    have moved : (if s.hold = ⟨false, false⟩ then LineState.running else .held) ≠ s.line := by
      rw [stopped]
      split <;> simp
    have run : State.noteLine
          { (s.popFrame p).reply p 0x05 tag .ok [] with
            line := if (s.popFrame p).hold.a || (s.popFrame p).hold.b then .held else .running }
          (s.popFrame p).line (s.popFrame p).hold =
        State.noteLine
          { s.answered p 0x05 tag .ok [] with
            line := if s.hold = ⟨false, false⟩ then LineState.running else .held } s.line s.hold := by
      rw [← line]
      rfl
    exact congrArg _ (run.trans (State.noteLine_of_changed _ (fun hc => moved hc.1)))
  · refine (exec_of_takes h rfl).trans ?_
    rw [if_neg (by simpa using free)]
    rfl
  · refine (exec_of_takes h rfl).trans ?_
    rw [if_pos (by simpa using holding)]
    have line : (if (!((s.hold.set p false).a || (s.hold.set p false).b) && (s.line = .draining || s.line = .held)) = true
          then LineState.running else s.line) =
        if s.hold.set p false = ⟨false, false⟩ ∧ (s.line = .draining ∨ s.line = .held) then .running else s.line := by
      simp [Duo.eq_clear_iff]
    have moved : s.hold.set p false ≠ s.hold := by
      intro hc
      have := congrArg (fun d => Duo.get d p) hc
      simp [holding] at this
    have release : ((s.popFrame p).reply p 0x07 tag .ok []).releaseHold p =
        { s.answered p 0x07 tag .ok [] with
          hold := s.hold.set p false
          line := if s.hold.set p false = ⟨false, false⟩ ∧ (s.line = .draining ∨ s.line = .held) then .running
            else s.line } := by
      rw [← line]
      rfl
    refine congrArg _ (Eq.trans (congrArg (State.noteLine · s.line s.hold) release) ?_)
    exact State.noteLine_of_changed _ (fun hc => moved hc.2)

/-! ### The joint commands (R54, R182) -/

theorem State.joint_iff (s : State) :
    s.joint = true ↔ s.line = .stopped ∨ (s.line = .held ∧ s.hold = ⟨true, true⟩) := by
  simp [State.joint, Duo.eq_full_iff, and_assoc]

theorem State.popFrame_joint (s : State) (p : Port) : (s.popFrame p).joint = s.joint := rfl

/-- Settles O20. -/
theorem jointCommandsNeedTheJointHold : Obligations.JointCommandsNeedTheJointHold := by
  intro p tag s not_stopped not_held
  have apart : (!(s.popFrame p).joint) = true := by
    rw [State.popFrame_joint, Bool.not_eq_true', ← Bool.not_eq_true, s.joint_iff, not_or]
    exact ⟨not_stopped, not_held⟩
  exact ⟨fun _ h => (exec_of_takes h rfl).trans (by rw [if_pos apart]; rfl),
    fun _ h => (exec_of_takes h rfl).trans (by rw [if_pos apart]; rfl),
    fun _ _ h => (exec_of_takes h rfl).trans (by rw [if_pos apart]; rfl),
    fun _ _ _ h => (exec_of_takes h rfl).trans (by rw [if_pos apart]; rfl)⟩

theorem permitOfByte_eq_none_iff (b : Byte) : permitOfByte b = none ↔ 3 < b.toNat := by
  refine ⟨fun h => ?_, fun h => ?_⟩
  · by_contra inside
    have : b.toNat ≤ 3 := by omega
    interval_cases hb : b.toNat <;> simp_all [permitOfByte]
  · unfold permitOfByte
    split <;> first | omega | rfl

theorem permitOfByte_permitByte (q : Permit) : permitOfByte (permitByte q) = some q := by cases q <;> rfl

theorem State.storeBusy_iff (s : State) :
    s.storeBusy = true ↔ s.store.state ≠ .idle ∨ s.store.heldDone.isSome = true := by
  simp [State.storeBusy]

theorem State.storeBusy_eq_false {s : State} (idle : s.store.state = .idle) (none_held : s.store.heldDone = none) :
    s.storeBusy = false := by
  simp [State.storeBusy, idle, none_held]

/-- Settles O23. -/
theorem permitAndQuotaAreWritten : Obligations.PermitAndQuotaAreWritten := by
  intro p tag s joint
  have together : ¬ (!(s.popFrame p).joint) = true := by
    rw [State.popFrame_joint, Bool.not_eq_true', Bool.not_eq_false]
    exact s.joint_iff.mpr joint
  refine ⟨fun group permit h => ⟨fun bad => ?_, fun inside q hq => ?_⟩,
    fun layout qa qb h => ⟨fun bad => ?_, fun inside busy => ?_, fun inside idle none_held => ?_⟩⟩
  · refine (exec_of_takes h rfl).trans ?_
    rw [if_neg together]
    split
    · rename_i q named
      have known : ¬ 3 < permit.toNat := by
        rw [← permitOfByte_eq_none_iff, named]
        simp
      rw [if_pos (bad.resolve_right known)]
      rfl
    · rfl
  · refine (exec_of_takes h rfl).trans ?_
    subst hq
    rw [if_neg together, permitOfByte_permitByte]
    dsimp only
    rw [if_neg (by omega)]
    rfl
  · refine (exec_of_takes h rfl).trans ?_
    rw [if_neg together, if_pos bad]
    rfl
  · refine (exec_of_takes h rfl).trans ?_
    rw [if_neg together, if_neg (by omega), if_pos ((s.popFrame p).storeBusy_iff.mpr busy)]
    rfl
  · refine (exec_of_takes h rfl).trans ?_
    rw [if_neg together, if_neg (by omega), if_neg (by simp [(s.popFrame p).storeBusy_eq_false idle none_held])]
    rfl

/-! ### The saves and the system code (R183, R186) -/

/-- Settles O26. -/
theorem savesTakeTheirSnapshot : Obligations.SavesTakeTheirSnapshot := by
  refine fun p tag s => ⟨fun h => ⟨fun busy => ?_, fun idle none_held => ?_⟩,
    fun h => ⟨fun busy => ?_, fun idle none_held => ?_⟩⟩ <;> refine (exec_of_takes h rfl).trans ?_
  · rw [if_pos ((s.popFrame p).storeBusy_iff.mpr busy)]
    rfl
  · rw [if_neg (by simp [(s.popFrame p).storeBusy_eq_false idle none_held])]
    rfl
  · rw [if_pos ((s.popFrame p).storeBusy_iff.mpr busy)]
    rfl
  · rw [if_neg (by simp [(s.popFrame p).storeBusy_eq_false idle none_held])]
    rfl

/-! ### Faults and masks (R155, R187, R188) -/

theorem clearCounters_length (kinds : Byte) (k : Nat) (l : List Nat) : (clearCounters kinds k l).length = l.length := by
  induction l generalizing k with
  | nil => rfl
  | cons c l ih => simp [clearCounters, ih]

theorem clearCounters_getD (kinds : Byte) (i : Nat) (l : List Nat) (k : Nat) :
    (clearCounters kinds i l).getD k 0 = if kindIn kinds (i + k) then 0 else l.getD k 0 := by
  induction l generalizing i k with
  | nil => simp [clearCounters]
  | cons c l ih =>
      cases k with
      | zero => simp [clearCounters]
      | succ k =>
          have next := ih (i + 1) k
          rw [show i + 1 + k = i + (k + 1) by omega] at next
          simpa [clearCounters] using next

theorem phaseOfChannel_eq_none_iff (b : Byte) : phaseOfChannel b = none ↔ b.toNat = 0 ∨ 3 < b.toNat := by
  refine ⟨fun h => ?_, fun h => ?_⟩
  · by_contra inside
    have : b.toNat ≤ 3 := by omega
    interval_cases hb : b.toNat <;> simp_all [phaseOfChannel]
  · unfold phaseOfChannel
    split <;> first | omega | rfl

theorem phaseOfChannel_channelByte (ph : Phase) : phaseOfChannel (channelByte ph) = some ph := by cases ph <;> rfl

/-- The bytes of a fault's time (R187, R196). -/
theorem State.faultTime_bytes (s : State) :
    Machine.faultTime s.faultTime = if s.clock.isSet then be 6 s.clock.millis else List.replicate 6 0xFF := by
  unfold State.faultTime State.now
  cases s.clock.isSet <;> rfl

/-- Settles O58. -/
theorem faultsArePostedAndClearedAndMasksSet : Obligations.FaultsArePostedAndClearedAndMasksSet := by
  refine ⟨fun f s => ?_, fun p tag generation kinds s h => ⟨fun stale => ?_, fun current => ?_⟩,
    fun p tag channel mask s h => ⟨fun bad => ?_, fun ph named => ?_⟩⟩
  · simp only [State.post, faultNotice, State.faultTime_bytes, saturatingSucc, wrappingSucc, Config.counterTop]
    cases s.faults.record <;> rfl
  · exact (exec_of_takes h rfl).trans (congrArg _ (if_pos stale))
  · refine ⟨_, (exec_of_takes h rfl).trans (congrArg _ (if_neg (not_not.mpr current))), rfl, ?_, ?_, fun k => ?_, rfl⟩
    · change (s.faults.record.filter _) = _
      cases s.faults.record with
      | none => rfl
      | some r => cases hk : kinds.getLsbD r.1.kind <;> simp [kindIn, hk]
    · exact clearCounters_length kinds 0 _
    · refine (clearCounters_getD kinds 0 _ k).trans ?_
      rw [Nat.zero_add]
      rfl
  · refine (exec_of_takes h rfl).trans ?_
    rw [(phaseOfChannel_eq_none_iff channel).mpr bad]
    rfl
  · subst named
    refine (exec_of_takes h rfl).trans ?_
    rw [phaseOfChannel_channelByte]
    rfl

/-! ### Plans and delays (R32 to R38, R44) -/

theorem divUp_mul_ge (a : Nat) {b : Nat} (hb : 0 < b) : a ≤ divUp a b * b := by
  unfold divUp
  have := Nat.div_add_mod (a + (b - 1)) b
  have := Nat.mod_lt (a + (b - 1)) hb
  rw [Nat.mul_comm]
  omega

theorem divUp_le {a b k : Nat} (hb : 0 < b) (h : a ≤ k * b) : divUp a b ≤ k := by
  unfold divUp
  rw [← Nat.lt_succ_iff, Nat.div_lt_iff_lt_mul hb, Nat.succ_mul]
  omega

theorem divUp_hundred_lt (a : Nat) : 100 * divUp a 100 < a + 100 := by
  unfold divUp
  omega

/-- The airtime of a BROADCAST in each mode (R34). -/
theorem airtime_broadcast (m : Mode) :
    airtime broadcastSize m = match m with | .robust => 18 | .normal => 10 | .fast => 6 := by
  cases m <;> rfl

/-- Settles O57. -/
theorem plansAndDelaysFollowTheArithmetic : Obligations.PlansAndDelaysFollowTheArithmetic := by
  refine ⟨fun s group activation cls ph positive => ⟨rfl, rfl, by cases cls <;> rfl, ?_⟩, fun activation endMs => ?_⟩
  · have span : (if (s.figures group ph).members = 0 then 0
        else partSpan (repeatSetting s.settings cls) (s.figures group ph).depth (s.figures group ph).mode s.settings.gap) =
        if (s.figures group ph).members = 0 then 0
        else (match cls with | .routine => s.settings.routineRepeats | .urgent => s.settings.urgentRepeats) *
            (((s.figures group ph).depth + 1) *
                (match (s.figures group ph).mode with | .robust => 18 | .normal => 10 | .fast => 6) +
              (s.figures group ph).depth * s.settings.gap) +
          ((match cls with | .routine => s.settings.routineRepeats | .urgent => s.settings.urgentRepeats) - 1) *
            s.settings.gap := by
      rw [partSpan, floodSpan, relayedSpan, airtime_broadcast]
      cases cls <;> rfl
    refine ⟨slotMillis (if (s.figures group ph).members = 0 then 0
      else partSpan (repeatSetting s.settings cls) (s.figures group ph).depth (s.figures group ph).mode s.settings.gap)
      s.fPlan, ?_, fun k hk => ?_, ?_, ?_⟩
    · exact (congrArg (· * 50000) span).ge.trans (divUp_mul_ge _ positive)
    · exact divUp_le positive ((congrArg (· * 50000) span).le.trans hk)
    · simp only [State.plan, latestStart]
      omega
    · simp only [State.plan, earliestStart]
      omega
  · have ceiling := divUp_hundred_lt (activation * 1000 - endMs)
    have floor := divUp_mul_ge (activation * 1000 - endMs) (b := 100) (by decide)
    have zero : activation * 1000 ≤ endMs → divUp (activation * 1000 - endMs) 100 = 0 := fun h => by
      rw [Nat.sub_eq_zero_of_le h]
      rfl
    unfold delayField
    exact ⟨by omega, fun h => by simp [zero h], fun _ _ => ⟨by omega, by omega⟩⟩

end Sys2Proof.Machine
end

section
/-! PROOFS. The frames of the client commands (R168, R195), the tests of SUBMIT (R10), the stages of a save (R184), and
discovery's commands (R118). -/

namespace Sys2Proof.Machine

/-! ### Frames read back (R168, R195) -/

theorem word16_be16 (v : Word16) : word16 (v.extractLsb' 8 8) (v.extractLsb' 0 8) = v := by
  apply BitVec.eq_of_getLsbD_eq
  intro i hi
  simp only [word16, BitVec.getLsbD_append, BitVec.getLsbD_extractLsb']
  split_ifs with low
  · simp [low]
  · have : i - 8 < 8 := by omega
    rw [decide_eq_true this, Bool.true_and, show 8 + (i - 8) = i by omega]

theorem word32_be32 (v : Word32) :
    word32 (v.extractLsb' 24 8) (v.extractLsb' 16 8) (v.extractLsb' 8 8) (v.extractLsb' 0 8) = v := by
  apply BitVec.eq_of_getLsbD_eq
  intro i hi
  simp only [word32, BitVec.getLsbD_append, BitVec.getLsbD_extractLsb']
  split_ifs with byte0 byte1 byte2
  · simp [byte0]
  · rw [decide_eq_true byte1, Bool.true_and, show 8 + (i - 8) = i by omega]
  · rw [decide_eq_true byte2, Bool.true_and, show 16 + (i - 8 - 8) = i by omega]
  · have : i - 8 - 8 - 8 < 8 := by omega
    rw [decide_eq_true this, Bool.true_and, show 24 + (i - 8 - 8 - 8) = i by omega]

theorem readFlag_flagByte (b : Bool) : readFlag (flagByte b) = b := by cases b <;> rfl
theorem readFlag_zero : readFlag 0#8 = false := rfl
theorem readFlag_one : readFlag 1#8 = true := rfl

theorem byteSum_append (l : List Byte) (b : Byte) : byteSum (l ++ [b]) = byteSum l + b := by
  induction l with
  | nil => simp [byteSum]
  | cons x l ih => simp [byteSum, ih, BitVec.add_assoc]

/-- The check byte makes the sum of a frame 0 (R195). -/
theorem byteSum_check (l : List Byte) : byteSum (l ++ [checkByte l]) = 0 := by
  rw [byteSum_append, checkByte]
  bv_omega

/-- A client command's code is one of 01h to 25h, and its parameters fit a FIFO place. -/
theorem clientCommand_bounds {c : Instr} {p : Port} {code tag : Byte} {params : List Byte}
    (h : clientCommand c = some (p, code, tag, params)) : codeKnown code = true ∧ params.length ≤ 20 := by
  cases c with
  | submit q t a => exact Laws.Spelling.submit q t a p code tag params h
  | editUnit q t a => exact Laws.Spelling.editUnit q t a p code tag params h
  | _ => cases h <;> exact ⟨rfl, Nat.le_of_ble_eq_true rfl⟩

/-- The parameters of a client command read back as it. -/
theorem readCommand_of_client {c : Instr} {p : Port} {code tag : Byte} {params : List Byte}
    (h : clientCommand c = some (p, code, tag, params)) : readCommand p code tag params = some c := by
  cases c with
  | submit q t a =>
      cases h
      obtain ⟨_, _, _, _, expiry, _, _⟩ := a
      cases expiry <;>
        simp [readCommand, readSubmit, be32, optional32, word32_be32, readFlag_flagByte, readFlag_zero, readFlag_one]
  | editUnit q t a =>
      cases h
      obtain ⟨_, route, groups, pinned, capable⟩ := a
      cases route <;> cases groups <;> cases pinned <;> cases capable <;>
        simp [readCommand, readEditUnit, be16, givenBytes, word16_be16, readFlag_flagByte, readFlag_zero, readFlag_one,
          routeBytes, groupsBytes, List.replicate]
  | _ =>
      cases h <;>
        simp [readCommand, read0, read1, read2, read4, be16, be32, word16_be16, word32_be32, readFlag_flagByte,
          readPing, readMask, readSetTime, readClear, readStartSurvey, readParameter, readPermit, readQuota,
          readAddUnit, groupsBytes, routeBytes]

/-- A frame as R195 composes it passes the tests of R168 up to the size of its parameters. -/
theorem readFrame_commandFrame (p : Port) {code : Byte} (tag : Byte) {params : List Byte} (known : codeKnown code = true)
    (fits : params.length ≤ 20) :
    readFrame p false (commandFrame code tag params) =
      match readCommand p code tag params with | some i => .command i | none => .badFrame code tag := by
  have length : (commandFrame code tag params).length = params.length + 4 := by simp [commandFrame]
  have field : (commandFrame code tag params).getD 0 0 = BitVec.ofNat 8 (params.length + 4) := rfl
  have sum : byteSum (commandFrame code tag params) = 0 := byteSum_check _
  have rest : frameParams (commandFrame code tag params) = params := by simp [frameParams, commandFrame]
  rw [readFrame_of_envelope (f := ⟨commandFrame code tag params, false⟩) rfl (by rw [length]; omega)
      (by rw [field, length, BitVec.toNat_ofNat]; omega),
    if_neg (not_not.mpr sum), if_neg (by rw [show List.getD _ 1 0 = code from rfl, known]; decide), rest]
  rfl

theorem read0_client {i c : Instr} {params : List Byte} (h : read0 i params = some c) : i = c := by
  unfold read0 at h
  split at h <;> cases h
  rfl

/-- A frame of a port spells a client command of that port (R195). -/
theorem client_of_readCommand {p : Port} {code tag : Byte} {params : List Byte} {c : Instr}
    (h : readCommand p code tag params = some c) : ∃ k t x, clientCommand c = some (p, k, t, x) := by
  unfold readCommand at h
  split at h
  all_goals
    first
    | (obtain rfl := read0_client h; exact ⟨_, _, _, rfl⟩)
    | (unfold read1 at h; split at h <;> cases h; exact ⟨_, _, _, rfl⟩)
    | (unfold read2 at h; split at h <;> cases h; exact ⟨_, _, _, rfl⟩)
    | (unfold read4 at h; split at h <;> cases h; exact ⟨_, _, _, rfl⟩)
    | (unfold readSubmit at h; split at h <;> cases h; exact ⟨_, _, _, rfl⟩)
    | (unfold readParameter at h; split at h <;> cases h; exact ⟨_, _, _, rfl⟩)
    | (unfold readPermit at h; split at h <;> cases h; exact ⟨_, _, _, rfl⟩)
    | (unfold readQuota at h; split at h <;> cases h; exact ⟨_, _, _, rfl⟩)
    | (unfold readAddUnit at h; split at h <;> cases h; exact ⟨_, _, _, rfl⟩)
    | (unfold readEditUnit at h; split at h <;> cases h; exact ⟨_, _, _, rfl⟩)
    | (unfold readPing at h; split at h <;> cases h; exact ⟨_, _, _, rfl⟩)
    | (unfold readMask at h; split at h <;> cases h; exact ⟨_, _, _, rfl⟩)
    | (unfold readSetTime at h; split at h <;> cases h; exact ⟨_, _, _, rfl⟩)
    | (unfold readClear at h; split at h <;> cases h; exact ⟨_, _, _, rfl⟩)
    | (unfold readStartSurvey at h; split at h <;> cases h; exact ⟨_, _, _, rfl⟩)
    | cases h

theorem client_of_readFrame {p : Port} {overLong : Bool} {bytes : List Byte} {c : Instr}
    (h : readFrame p overLong bytes = .command c) : ∃ k t x, clientCommand c = some (p, k, t, x) := by
  unfold readFrame at h
  dsimp only at h
  split_ifs at h
  split at h
  · rename_i i read
    cases h
    exact client_of_readCommand read
  · cases h

/-- Settles O5. -/
theorem clientFramesReadBack : Obligations.ClientFramesReadBack := by
  intro c p code tag params h
  obtain ⟨known, fits⟩ := clientCommand_bounds h
  rw [readFrame_commandFrame p tag known fits, readCommand_of_client h]

/-! ### The tests of SUBMIT (R10) -/

theorem readAction_isSome_iff (action duration : Byte) :
    (readAction action duration).isSome = true ↔
      (action.toNat / 16 = 1 ∧ 1 ≤ action.toNat % 16 ∧ action.toNat % 16 ≤ 8) ∨
        ((action.toNat / 16 = 2 ∨ action.toNat / 16 = 3 ∨ (action.toNat / 16 = 4 ∧ 1 ≤ duration.toNat)) ∧
          1 ≤ action.toNat % 16 ∧ action.toNat % 16 ≤ 2) := by
  have relay : (action.toNat % 16 == 1 || action.toNat % 16 == 2) = true ↔
      1 ≤ action.toNat % 16 ∧ action.toNat % 16 ≤ 2 := by
    simp only [Bool.or_eq_true, beq_iff_eq]
    omega
  have some_ite {c : Prop} [Decidable c] (x : Action) : (if c then some x else none).isSome = true ↔ c := by
    split <;> simp_all
  unfold readAction
  dsimp only
  split
  · rename_i kind
    simp only [some_ite, Bool.and_eq_true, decide_eq_true_eq]
    omega
  · rename_i kind
    simp only [some_ite, relay]
    omega
  · rename_i kind
    simp only [some_ite, relay]
    omega
  · rename_i kind
    simp only [some_ite, Bool.and_eq_true, decide_eq_true_eq, relay]
    omega
  · rename_i not1 not2 not3 not4
    simp only [Option.isSome_none, Bool.false_eq_true, false_iff]
    have : action.toNat / 16 ≠ 1 := not1
    have : action.toNat / 16 ≠ 2 := not2
    have : action.toNat / 16 ≠ 3 := not3
    have : action.toNat / 16 ≠ 4 := not4
    omega

theorem readClass_isSome_iff (b : Byte) : (readClass b).isSome = true ↔ b.toNat ≤ 1 := by
  unfold readClass
  split
  · simp [*]
  · simp [*]
  · rename_i not0 not1
    simp only [Option.isSome_none, Bool.false_eq_true, false_iff]
    have : b.toNat ≠ 0 := not0
    have : b.toNat ≠ 1 := not1
    omega

/-- Test 2 of R10. -/
theorem readSubmitArgs_isSome_iff (a : SubmitArgs) (now : Nat) :
    (readSubmitArgs a now).isSome = true ↔ submitInRange a now := by
  unfold readSubmitArgs submitInRange
  dsimp only
  rw [← readAction_isSome_iff, ← readClass_isSome_iff]
  cases readAction a.action a.duration <;> cases readClass a.cls <;>
    simp [Config.activationHorizon, ite_eq_iff]
  exact fun _ => decide_eq_false_iff_not.trans Nat.not_lt

/-- Test 4 of R10. -/
theorem submitTooLate_iff (a : SubmitArgs) (now : Nat) : submitTooLate a now = true ↔ submitLate a now := by
  unfold submitTooLate submitLate submitExpiry
  cases a.expiry <;> simp

/-- Test 5 of R10. -/
theorem State.conflicts_iff (s : State) (a : SubmitArgs) : s.conflicts a = true ↔ submitConflicts s a := by
  simp [State.conflicts, submitConflicts]

theorem State.liveCount_eq (s : State) (p : Port) : s.liveCount p = entriesOf s p := by
  simp [State.liveCount, entriesOf, beq_eq_decide]

/-- The tests of R10 in their order, in the terms of the statements. -/
theorem State.submitRefusal_eq (s : State) (p : Port) (a : SubmitArgs) [Decidable (submitInRange a s.clock.millis)]
    [Decidable (submitLate a s.clock.millis)] [Decidable (submitConflicts s a)] :
    s.submitRefusal p a =
      if s.clock.isSet = false then some .clockUnset
      else if ¬ submitInRange a s.clock.millis then some .badParameter
      else if (s.permit a.group.toNat).admits p = false then some .notPermitted
      else if submitLate a s.clock.millis then some .tooLate
      else if submitConflicts s a then some .conflict
      else if s.settings.quota.get p ≤ entriesOf s p then some .quota
      else if Config.calendarCapacity s.settings.layout ≤ s.calendar.length then some .full
      else none := by
  have range : (readSubmitArgs a s.now).isNone = true ↔ ¬ submitInRange a s.clock.millis := by
    rw [← readSubmitArgs_isSome_iff, Option.isNone_iff_eq_none, Option.not_isSome_iff_eq_none]
    rfl
  have late : submitTooLate a s.now = true ↔ submitLate a s.clock.millis := submitTooLate_iff a _
  simp only [State.submitRefusal, Bool.not_eq_true', range, late, s.conflicts_iff, s.liveCount_eq]
  rfl

theorem execSubmit_of_refusal {s : State} {p : Port} {tag : Byte} {a : SubmitArgs} {code : ReplyCode}
    (h : s.takes p (.submit p tag a)) (refused : s.submitRefusal p a = some code) :
    exec (.submit p tag a) s = .next (s.answered p 0x01 tag code []) := by
  refine (exec_of_takes h rfl).trans ?_
  rw [show (s.popFrame p).submitRefusal p a = some code from refused]
  rfl

/-- Settles O28. -/
theorem submitIsTestedInOrder : Obligations.SubmitIsTestedInOrder := by
  intro p tag a s h
  classical
  have tests := s.submitRefusal_eq p a
  refine ⟨fun c => ?_, fun c r => ?_, fun c r m => ?_, fun c r m l => ?_, fun c r m l x => ?_, fun c r m l x q => ?_,
    fun c r m l x q f => ?_⟩ <;> refine execSubmit_of_refusal h (tests.trans ?_)
  · rw [if_pos c]
  · rw [if_neg (by simp [c]), if_pos r]
  · rw [if_neg (by simp [c]), if_neg (not_not.mpr r), if_pos (by simpa using m)]
  · rw [if_neg (by simp [c]), if_neg (not_not.mpr r), if_neg (by simp [m]), if_pos l]
  · rw [if_neg (by simp [c]), if_neg (not_not.mpr r), if_neg (by simp [m]), if_neg l, if_pos x]
  · rw [if_neg (by simp [c]), if_neg (not_not.mpr r), if_neg (by simp [m]), if_neg l, if_neg x, if_pos q]
  · rw [if_neg (by simp [c]), if_neg (not_not.mpr r), if_neg (by simp [m]), if_neg l, if_neg x,
      if_neg (Nat.not_le.mpr q), if_pos f]

/-! ### The stages of a save (R183, R184) -/

/-- A port with a droppable notice offered to it: queued where there is room, counted as a drop where there is none
(R171). -/
def PortRec.offered (r : PortRec) (i : Item) : PortRec :=
  if noticeRoom r.outq then { r with outq := r.outq ++ [i] } else { r with drops := saturatingSucc 65535 r.drops }

theorem State.offer_eq (s : State) (p : Port) (i : Item) : s.offer p i = s.modPort p (·.offered i) := by
  obtain ⟨room, h⟩ | ⟨full, h⟩ := s.offer_cases p i
  · rw [h]
    exact s.modPort_congr p (if_pos room).symm
  · rw [h]
    exact s.modPort_congr p (if_neg (by simp [full])).symm

theorem State.offerBoth_eq (s : State) (i : Item) :
    s.offerBoth i = { s with ports := ⟨s.ports.a.offered i, s.ports.b.offered i⟩ } := by
  rw [State.offerBoth, State.offer_eq, State.offer_eq]
  rfl

/-- A fault posted does not read the store. -/
theorem State.post_store (s : State) (x : Store) (f : FaultReport) :
    State.post { s with store := x } f = { s.post f with store := x } := by
  simp only [State.post, State.offerBoth_eq]
  rfl

/-- The room a non-droppable notice needs to be queued at once (R169, R172). -/
theorem noticeRoom_and_iff (r : PortRec) :
    (r.held.isEmpty && noticeRoom r.outq) = true ↔ r.held = [] ∧ r.outq.length < 16 ∧ noticeCount r.outq < 15 := by
  rw [Bool.and_eq_true, noticeRoom_iff, List.isEmpty_iff]

/-- STORE DONE offered to its origin: queued, the held one absent again, or held (R172, R184). -/
theorem State.offerHeld_storeDone (s : State) (d : StoreDone) (held : s.store.heldDone = some d) (p : Port) :
    s.offerHeld p .storeDone =
      if (s.port p).held = [] ∧ (s.port p).outq.length < 16 ∧ noticeCount (s.port p).outq < 15 then
        { s.pushItem p (storeDoneNotice d) with store := { s.store with heldDone := none } }
      else s.modPort p (fun r => { r with held := r.held ++ [.storeDone] }) := by
  simp only [← noticeRoom_and_iff, State.offerHeld, State.queueHeld, State.heldItem, held]
  rfl

theorem Store.written_heldDone (t : Store) (v : Save) (matched : Bool) :
    (t.written v matched).heldDone = some ⟨v.origin, v.tag, v.snapshot.image, matched⟩ := by
  unfold Store.written
  cases v.snapshot <;> rfl

/-- Settles O27. -/
theorem saveRunsItsStages : Obligations.SaveRunsItsStages := by
  refine ⟨fun s erasing => by simp [exec, execEraseEnd, erasing], fun matched s v writing save => ?_⟩
  have run : exec (.writeEnd matched) s = .next (s.endWrite v matched) := by
    simp [exec, execWriteEnd, save, writing]
  have posted_store : (if matched then { s with store := s.store.written v matched }
        else State.post { s with store := s.store.written v matched } (.storeWrite v.snapshot.image)) =
      { if matched then s else s.post (.storeWrite v.snapshot.image) with store := s.store.written v matched } := by
    cases matched
    · exact s.post_store _ _
    · rfl
  have frame : ∀ u : State, FaultFrame s u →
      { u with ports := s.ports, store := s.store, faults := s.faults } = s := fun u hu => by rw [hu]
  have posted_frame : FaultFrame s (if matched then s else s.post (.storeWrite v.snapshot.image)) := by
    cases matched
    · exact s.post_fault _
    · exact FaultFrame.refl s
  have posted_faults : matched = true →
      (if matched then s else s.post (.storeWrite v.snapshot.image)).faults = s.faults := by
    rintro rfl
    rfl
  have posted_counted : matched = false →
      (if matched then s else s.post (.storeWrite v.snapshot.image)).faults.counters =
          s.faults.counters.set 2 (saturatingSucc 255 (s.faults.counters.getD 2 0)) ∧
        (if matched then s else s.post (.storeWrite v.snapshot.image)).faults.generation =
          wrappingSucc 65535 s.faults.generation := by
    rintro rfl
    rw [if_neg (by decide), s.post_faults]
    exact ⟨rfl, rfl⟩
  refine ⟨s.endWrite v matched, run, ?_⟩
  rw [State.endWrite, posted_store, State.offerHeld_storeDone _ _ (Store.written_heldDone _ v matched)]
  generalize (if matched then s else s.post (.storeWrite v.snapshot.image)) = posted at *
  have done : storeDoneNotice ⟨v.origin, v.tag, v.snapshot.image, matched⟩ =
      .notice .storeDone [v.tag, imageByte v.snapshot.image, if matched then 0 else 1] := rfl
  rw [done]
  have images : ∀ t : Store, t = { s.store.written v matched with heldDone := t.heldDone } →
      t.state = .idle ∧ t.save = none ∧
        (∀ x, v.snapshot = .settings x →
          t.settingsImage = (if matched then some x else none) ∧ t.settingsValid = matched ∧
            t.rosterImage = s.store.rosterImage ∧ t.rosterValid = s.store.rosterValid) ∧
        (∀ x, v.snapshot = .roster x →
          t.rosterImage = (if matched then some x else none) ∧ t.rosterValid = matched ∧
            t.settingsImage = s.store.settingsImage ∧ t.settingsValid = s.store.settingsValid) := by
    intro t ht
    rw [ht]
    unfold Store.written
    cases v.snapshot with
    | settings x =>
        refine ⟨rfl, rfl, ?_, ?_⟩ <;> rintro y ⟨⟩
        exact ⟨rfl, rfl, rfl, rfl⟩
    | roster x =>
        refine ⟨rfl, rfl, ?_, ?_⟩ <;> rintro y ⟨⟩
        exact ⟨rfl, rfl, rfl, rfl⟩
  split
  · rename_i room
    obtain ⟨idle, saved, settings, roster⟩ := images { s.store.written v matched with heldDone := none } rfl
    exact ⟨idle, saved, settings, roster, fun _ => ⟨rfl, rfl⟩, fun no_room => absurd room no_room, posted_faults,
      fun hm => ⟨rfl, posted_counted hm⟩, frame posted posted_frame⟩
  · rename_i no_room
    obtain ⟨idle, saved, settings, roster⟩ := images (s.store.written v matched) rfl
    exact ⟨idle, saved, settings, roster, fun room => absurd room no_room,
      fun _ => ⟨Store.written_heldDone _ v matched, rfl⟩, posted_faults, fun hm => ⟨rfl, posted_counted hm⟩,
      frame posted posted_frame⟩

/-! ### Discovery's commands (R118, R128) -/

theorem State.disc_mapDiscovery (s : State) (f : Discovery → Discovery) (ph : Phase) :
    (s.mapDiscovery f).disc ph = f (s.disc ph) := by cases ph <;> rfl

theorem Discovery.start_eq (d : Discovery) :
    d.start = if d.state = .off then
      { d with state := .probing, origin := some .direct, stack := [⟨0, 0⟩], restEnd := none } else d := rfl

theorem Discovery.stop_eq (d : Discovery) :
    d.stop = if d.state = .probing then
        { d with
          state := .off, origin := none, stack := []
          probe := d.probe.map (fun x => { x with stopped := true }) }
      else if d.state = .resting then { d with state := .off, restEnd := none } else d := by
  unfold Discovery.stop
  cases d.state <;> rfl

theorem State.restOver_iff (s : State) (ph : Phase) :
    s.restOver ph = true ↔ (s.disc ph).state = .resting ∧ ∃ x, (s.disc ph).restEnd = some x ∧ x ≤ s.elapsed := by
  unfold State.restOver
  cases (s.disc ph).restEnd <;> simp

/-- Settles O39. -/
theorem discoveryStartsStopsAndRests : Obligations.DiscoveryStartsStopsAndRests := by
  refine ⟨fun p tag s h => ⟨_, exec_of_takes h rfl, fun ph => ?_, rfl⟩,
    fun p tag s h => ⟨_, exec_of_takes h rfl, fun ph => ?_, rfl⟩, fun ph s => ⟨fun ended => ?_, fun not_ended => ?_⟩⟩
  · rw [State.disc_mapDiscovery, Discovery.start_eq]
    rfl
  · rw [State.disc_mapDiscovery, Discovery.stop_eq]
    rfl
  · have run : exec (.restEnd ph) s = .next (s.modDisc ph Discovery.cycle) :=
      congrArg _ (if_pos ((s.restOver_iff ph).mpr ended))
    exact ⟨_, run, s.disc_modDisc_self ph _, fun q hq => s.disc_modDisc_ne _ hq, rfl⟩
  · exact congrArg _ (if_neg (mt (s.restOver_iff ph).mp not_ended))

end Sys2Proof.Machine
end

section
/-! PROOFS. What every event is made of. A relation between states that is reflexive and transitive and holds over each
elementary change holds over the events composed of them; it is proved here once for the calendar's operations and once
for the channels', and each invariant then gives its elementary changes alone. -/

namespace Sys2Proof.Machine

/-- A change of an entry that touches none but its confirmation progress and its flags. -/
def Entry.Noted (f : Entry → Entry) : Prop :=
  ∀ e, f e = { e with
    timeStepped := (f e).timeStepped, cancelled := (f e).cancelled, cutShort := (f e).cutShort
    confirmation := (f e).confirmation, cutOffReached := (f e).cutOffReached, confirmStopped := (f e).confirmStopped }

/-- A part finished: its state, its finish and whether it was needed (R6, R23). -/
def Part.finished (p : Part) (f : Finish) (needed : Bool) : Part :=
  { p with state := .finished, finish := some f, finishNeeded := needed }

/-- The entry stays with or without confirmation progress, or gets it as it may: with every part finished and a repeat sent
(R9). -/
def Entry.Progresses (e x : Entry) : Prop :=
  x.confirmation.isSome = e.confirmation.isSome ∨
    (e.allFinished = true ∧ e.anySent = true ∧ x.confirmation.isSome = true)

theorem Entry.Progresses.of_map {e x : Entry} {f : Confirmation → Confirmation} (h : x.confirmation = e.confirmation.map f) :
    e.Progresses x := .inl (by rw [h, Option.isSome_map])

theorem Entry.confirming_iff (e : Entry) :
    e.confirming = true ↔ e.outcome = none ∧ e.allFinished = true ∧ e.confirmation.isSome = true := by
  unfold Entry.confirming Entry.state
  rw [decide_eq_true_eq]
  cases e.outcome <;> cases e.allFinished <;> cases e.confirmation.isSome <;> simp
  all_goals split_ifs <;> simp

/-! ### The entry with a handle -/

section
variable {s : State} {h : Nat} {e : Entry}

theorem State.entry?_handle (found : s.entry? h = some e) : e.handle = h := by
  simpa using List.find?_some (p := fun e : Entry => e.handle == h) found

theorem State.entry?_mem (found : s.entry? h = some e) : e ∈ s.calendar := List.mem_of_find?_eq_some found

theorem State.entry?_isSome_iff : (s.entry? h).isSome = true ↔ ∃ e ∈ s.calendar, e.handle = h := by
  simp [State.entry?, List.find?_isSome]

theorem State.entry?_eq_none_iff : s.entry? h = none ↔ ∀ e ∈ s.calendar, e.handle ≠ h := by
  simp [State.entry?, List.find?_eq_none]

/-- Where handles are held once, an entry of the calendar is the one with its handle (R2). -/
theorem State.entry?_of_mem (nodup : (s.calendar.map (·.handle)).Nodup) (he : e ∈ s.calendar) :
    s.entry? e.handle = some e := by
  cases found : s.entry? e.handle with
  | none => exact absurd rfl (State.entry?_eq_none_iff.mp found e he)
  | some x =>
      rw [List.inj_on_of_nodup_map nodup (State.entry?_mem found) he (State.entry?_handle found)]

/-- An entry changed with its handle kept is found again. -/
theorem State.entry?_modEntry (k : Nat) {f : Entry → Entry} (kept : ∀ e, (f e).handle = e.handle) :
    (s.modEntry k f).entry? h = (s.entry? h).map (fun e => if e.handle == k then f e else e) := by
  unfold State.entry? State.modEntry
  rw [List.find?_map]
  congr 1
  refine List.find?_congr fun x _ => ?_
  simp only [Function.comp]
  split
  · rw [kept]
  · rfl

theorem State.entry?_modEntry_self {f : Entry → Entry} (kept : ∀ e, (f e).handle = e.handle)
    (found : s.entry? h = some e) : (s.modEntry h f).entry? h = some (f e) := by
  rw [State.entry?_modEntry h kept, found, Option.map_some, if_pos (by simpa using State.entry?_handle found)]

theorem State.entry?_modEntry_ne {f : Entry → Entry} (kept : ∀ e, (f e).handle = e.handle) {k : Nat} (apart : k ≠ h) :
    (s.modEntry h f).entry? k = s.entry? k := by
  rw [State.entry?_modEntry h kept]
  cases found : s.entry? k with
  | none => rfl
  | some x => rw [Option.map_some, if_neg (by simpa [State.entry?_handle found] using apart)]

theorem State.entry?_of_same {t : State} (same : t.calendar = s.calendar) : t.entry? h = s.entry? h := by
  unfold State.entry?
  rw [same]

end

/-! ### The calendar's operations -/

/-- Progress and flags are noted for an entry without an outcome; for one with an outcome, its cut-off alone. -/
def Entry.MarkedTo (e x : Entry) : Prop := e.outcome = none ∨ x = { e with cutOffReached := x.cutOffReached }

/-- A relation that holds over the changes of the calendar that the end of a part and of a confirmation are made of
(R9, R23, R73, R74, R87). -/
structure CalSteps (R : State → State → Prop) : Prop where
  refl : ∀ s, R s s
  trans : ∀ {s t u}, R s t → R t u → R s u
  offer : ∀ s p k c, R s (s.offer p (.notice k c))
  mark : ∀ s h f, Entry.Noted f → (∀ e, s.entry? h = some e → e.Progresses (f e)) →
    (∀ e, s.entry? h = some e → e.MarkedTo (f e)) → R s (s.modEntry h f)
  conclude : ∀ s h e, s.entry? h = some e → e.allFinished = true →
    e.confirmation = none ∨ s.anyExchangeOf h = false → R s (s.decideOutcome h)

/-- A relation that holds over them, and over the counts of a confirmation, whatever the entry's outcome. -/
structure CalCounts (R : State → State → Prop) : Prop extends CalSteps R where
  note : ∀ s h f, Entry.Noted f → (∀ e, s.entry? h = some e → e.Progresses (f e)) → R s (s.modEntry h f)
  decide : ∀ s h e, s.entry? h = some e → e.allFinished = true → R s (s.decideOutcome h)
  mark := fun s h f noted progress _ => note s h f noted progress
  conclude := fun s h e found ended _ => decide s h e found ended

/-- A relation that holds over the elementary changes of the calendar that finish no part (chapter 1). -/
structure CalNotes (R : State → State → Prop) : Prop extends CalCounts R where
  join : ∀ s h, R s (s.joinRetirement h)

/-- A relation that holds over the changes of the parts too, and over what follows the last of them (R6, R14, R71). -/
structure CalEdits (R : State → State → Prop) : Prop extends CalSteps R where
  finish : ∀ s h ph f needed e, s.entry? h = some e → (e.parts.get ph).unstarted = true →
    R s (s.modPart h ph (·.finished f needed))
  stop : ∀ s h ph f e, s.entry? h = some e →
    ((e.parts.get ph).state = .suspended ∨ ((e.parts.get ph).state = .sending ∧ s.floodOf h ph = false)) →
    R s ((s.finishPart h ph f).modChan ph (·.giveUp h))
  ready : ∀ s h ph e, s.entry? h = some e → (e.parts.get ph).state = .waiting →
    R s (s.modPart h ph (fun p => { p with state := .ready }))
  wait : ∀ s h ph e, s.entry? h = some e → (e.parts.get ph).state = .ready →
    R s (s.modPart h ph (fun p => { p with state := .waiting }))
  replan : ∀ s h, R s (s.modEntry h s.replanned)

/-- A relation that holds over the elementary changes of the calendar (chapter 1). -/
structure CalKeeps (R : State → State → Prop) : Prop extends CalNotes R, CalEdits R

/-- No entry with the handle has an outcome. -/
def State.Undecided (s : State) (h : Nat) : Prop := ∀ e, s.entry? h = some e → e.outcome = none

theorem State.Undecided.modEntry {s : State} {h : Nat} {f : Entry → Entry} (open_ : s.Undecided h)
    (fixed : ∀ e, (f e).handle = e.handle ∧ (f e).outcome = e.outcome) : (s.modEntry h f).Undecided h := by
  intro x hx
  rw [State.entry?_modEntry h fun e => (fixed e).1] at hx
  obtain ⟨e, found, rfl⟩ := Option.map_eq_some_iff.mp hx
  split
  · exact (fixed e).2.trans (open_ e found)
  · exact open_ e found

namespace CalSteps

variable {R : State → State → Prop} (hR : CalSteps R)
include hR

theorem foldl {α : Type} (f : State → α → State) (hf : ∀ s a, R s (f s a)) (l : List α) (s : State) :
    R s (l.foldl f s) :=
  foldl_frame R hR.refl (hR.trans) f hf l s

theorem offerBoth (s : State) (k : NoticeKind) (c : List Byte) : R s (s.offerBoth (.notice k c)) :=
  hR.trans (hR.offer s .A k c) (hR.offer _ .B k c)

theorem retireSince_of (join : ∀ s h, R s (s.joinRetirement h)) (s before : State) : R s (s.retireSince before) :=
  hR.foldl _ join _ s

theorem markOpen {s : State} {h : Nat} {f : Entry → Entry} (noted : Entry.Noted f)
    (progress : ∀ e, s.entry? h = some e → e.Progresses (f e)) (open_ : s.Undecided h) : R s (s.modEntry h f) :=
  hR.mark s h f noted progress fun e found => .inl (open_ e found)

theorem settleConfirm (s : State) (h : Nat) : R s (s.settleConfirm h) := by
  unfold State.settleConfirm
  split
  · rename_i e found
    have goes : ¬ (!e.confirming || s.anyExchangeOf h) = true →
        (e.outcome = none ∧ e.allFinished = true) ∧ s.anyExchangeOf h = false := by
      intro waits
      rw [Bool.or_eq_true, not_or, Bool.not_eq_true', Bool.not_eq_false, Bool.not_eq_true] at waits
      obtain ⟨open_, ended, -⟩ := (Entry.confirming_iff e).mp waits.1
      exact ⟨⟨open_, ended⟩, waits.2⟩
    split_ifs with waits cancelled stopped work
    · exact hR.refl s
    · exact hR.conclude s h e found (goes waits).1.2 (.inr (goes waits).2)
    · obtain ⟨⟨open_, ended⟩, free⟩ := goes waits
      refine hR.trans (hR.markOpen (h := h) (f := s.countAllNotReached) (fun _ => rfl) (fun _ _ => .of_map rfl)
        fun x hx => ?_) ?_
      · exact Option.some.inj (hx.symm.trans found) ▸ open_
      · exact hR.conclude _ h _ (State.entry?_modEntry_self (fun _ => rfl) found) ended (.inr free)
    · exact hR.refl s
    · exact hR.conclude s h e found (goes waits).1.2 (.inr (goes waits).2)
  · exact hR.refl s

theorem judgeCutShort (s : State) (h : Nat) : R s (s.judgeCutShort h) := by
  unfold State.judgeCutShort
  split
  · rename_i e found
    split
    · rename_i cut
      unfold State.toCutShort at cut
      rw [Bool.and_eq_true, Bool.and_eq_true] at cut
      refine hR.trans (hR.markOpen (h := h) (f := fun e => { e with cutShort := true, confirmStopped := true }) (fun _ => rfl)
        (fun _ _ => .inl rfl) fun x hx => ?_) (hR.settleConfirm _ h)
      exact Option.some.inj (hx.symm.trans found) ▸ ((Entry.confirming_iff e).mp cut.1.1).1
    · exact hR.refl s
  · exact hR.refl s

theorem cutShortGroup (s : State) (g : Nat) : R s (s.cutShortGroup g) :=
  hR.foldl _ (fun s h => hR.judgeCutShort s h) _ s

/-- Confirmation ends on the phases whose channels are HALTED (R73). -/
theorem endPhases (phs : List Phase) {s : State} {h : Nat} (open_ : s.Undecided h) :
    R s (phs.foldl (fun s ph => s.modEntry h (s.endPhase ph)) s) := by
  induction phs generalizing s with
  | nil => exact hR.refl s
  | cons ph phs ih =>
      exact hR.trans (hR.markOpen (f := s.endPhase ph) (fun _ => rfl) (fun _ _ => .of_map rfl) open_)
        (ih (open_.modEntry fun _ => ⟨rfl, rfl⟩))

/-- What follows the progress of an entry that enters CONFIRMING (R9, R73, R74, R87). -/
theorem confirmingBegun (s : State) (h : Nat) (open_ : s.Undecided h) : R s
    (((phases.filter (fun ph => (s.chan ph).state = .halted)).foldl (fun s ph => s.modEntry h (s.endPhase ph)) s).judgeCutShort
      h |>.settleConfirm h) :=
  hR.trans (hR.endPhases _ open_) (hR.trans (hR.judgeCutShort _ h) (hR.settleConfirm _ h))

theorem enterConfirming (s : State) (h : Nat) (open_ : s.Undecided h)
    (ends : ∀ e, s.entry? h = some e → e.allFinished = true ∧ e.anySent = true) : R s (s.enterConfirming h) :=
  hR.trans (hR.markOpen (f := s.withProgress) (fun _ => rfl)
      (fun e found => .inr ⟨(ends e found).1, (ends e found).2, rfl⟩) open_)
    (hR.confirmingBegun _ h (open_.modEntry fun _ => ⟨rfl, rfl⟩))

theorem settleEntry (s : State) (h : Nat) : R s (s.settleEntry h) := by
  unfold State.settleEntry
  split
  · rename_i e found
    split_ifs with goes confirms
    · exact hR.refl s
    · simp only [Bool.or_eq_true, not_or, Bool.and_eq_true, Bool.not_eq_true', Bool.not_eq_false, Bool.not_eq_true] at goes confirms
      refine hR.enterConfirming s h (fun x hx => ?_) fun x hx => ?_
      · cases Option.some.inj (hx.symm.trans found)
        exact Option.isSome_eq_false_iff.mp goes.1.2 |> Option.isNone_iff_eq_none.mp
      · cases Option.some.inj (hx.symm.trans found)
        exact ⟨goes.1.1, confirms.2⟩
    · simp only [Bool.or_eq_true, not_or, Bool.not_eq_true', Bool.not_eq_false, Bool.not_eq_true] at goes
      exact hR.conclude s h e found goes.1.1
        (.inl (Option.isNone_iff_eq_none.mp (Option.isSome_eq_false_iff.mp goes.2)))
  · exact hR.refl s

theorem reviewEntry (s : State) (h : Nat) : R s (s.reviewEntry h) :=
  hR.trans (hR.settleEntry s h) (hR.judgeCutShort _ h)

end CalSteps

/-! ### The counts of a confirmation (R82 to R87) -/

/-- A relation that holds over the changes of one entry's confirmation progress. -/
structure Tallies (h : Nat) (R : State → State → Prop) : Prop where
  refl : ∀ s, R s s
  trans : ∀ {s t u}, R s t → R t u → R s u
  tally : ∀ s f, Entry.Noted f → (∀ e, ∃ g, (f e).confirmation = e.confirmation.map g) → R s (s.modEntry h f)

namespace Tallies

variable {h : Nat} {R : State → State → Prop} (hR : Tallies h R)
include hR

theorem endPhase (s t : State) (ph : Phase) : R s (s.modEntry h (t.endPhase ph)) :=
  hR.tally s _ (fun _ => rfl) fun _ => ⟨_, rfl⟩

theorem modProgress (s : State) (ph : Phase) (f : PhaseProgress → PhaseProgress) :
    R s (s.modProgress h ph f) :=
  hR.tally s _ (fun _ => rfl) fun _ => ⟨_, rfl⟩

theorem decideUnit (s : State) (ph : Phase) (f : PhaseProgress → PhaseProgress) : R s (s.decideUnit h ph f) :=
  hR.tally s _ (fun _ => rfl) fun _ => ⟨_, rfl⟩

theorem decideUnconfirmed (s : State) (ph : Phase) (i : Nat) : R s (s.decideUnconfirmed h ph i) :=
  hR.trans (hR.tally s _ (fun _ => rfl) fun _ => ⟨_, rfl⟩) (hR.decideUnit _ ph _)

theorem pollAgain (s : State) (ph : Phase) (i n : Nat) : R s (s.pollAgain h ph i n) := by
  unfold State.pollAgain
  dsimp only
  split
  · exact hR.modProgress s ph _
  · exact hR.trans (hR.modProgress s ph _) (hR.decideUnconfirmed _ ph i)

theorem pollReplied (s : State) (ph : Phase) (i : Nat) (q : Option Byte) : R s (s.pollReplied h ph i q) := by
  unfold State.pollReplied
  dsimp only
  refine hR.trans (hR.modProgress s ph (fun r => { r with attempts := r.attempts + 1 })) ?_
  split
  · split
    · exact hR.decideUnit _ ph _
    · exact hR.decideUnit _ ph _
    · split
      · exact hR.pollAgain _ ph i _
      · exact hR.modProgress _ ph _
  · exact hR.refl _

theorem pollSilent (s : State) (ph : Phase) (i : Nat) : R s (s.pollSilent h ph i) := by
  unfold State.pollSilent
  dsimp only
  refine hR.trans (hR.modProgress s ph (fun r => { r with attempts := r.attempts + 1 })) ?_
  split
  · exact hR.pollAgain _ ph i _
  · exact hR.refl _

theorem directEnded (s : State) (ph : Phase) (i : Nat) : R s (s.directEnded h ph i) := by
  unfold State.directEnded
  split
  · exact hR.pollAgain s ph i _
  · exact hR.refl s

/-- An exchange that has completed is counted, and then the entry retires if that ends its confirmation. -/
theorem countExchange (s : State) (ph : Phase) (x : Exchange) (reply : Option (Option Byte)) :
    ∃ t, R s t ∧ s.countExchange h ph x reply = t.settleConfirm h := by
  refine ⟨_, ?_, rfl⟩
  split
  · exact hR.trans (hR.modProgress s ph _) (hR.decideUnit _ ph _)
  · split
    · exact hR.directEnded s ph _
    · exact hR.pollReplied s ph _ _
    · exact hR.pollSilent s ph _

end Tallies

namespace CalCounts

variable {R : State → State → Prop} (hR : CalCounts R)
include hR

theorem endPhase (s t : State) (h : Nat) (ph : Phase) : R s (s.modEntry h (t.endPhase ph)) :=
  hR.note s h _ (fun _ => rfl) fun _ _ => .of_map rfl

theorem haltConfirmations (s : State) (ph : Phase) : R s (s.haltConfirmations ph) :=
  hR.foldl _ (fun s (e : Entry) => hR.trans (hR.endPhase s s e.handle ph) (hR.settleConfirm _ e.handle)) _ s

theorem tallies (h : Nat) : Tallies h R where
  refl := hR.refl
  trans := hR.trans
  tally s f noted map := hR.note s h f noted fun e _ => by
    obtain ⟨g, same⟩ := map e
    exact .of_map same

theorem decideUnit (s : State) (h : Nat) (ph : Phase) (f : PhaseProgress → PhaseProgress) : R s (s.decideUnit h ph f) :=
  (hR.tallies h).decideUnit s ph f

theorem decideUnconfirmed (s : State) (h : Nat) (ph : Phase) (i : Nat) : R s (s.decideUnconfirmed h ph i) :=
  (hR.tallies h).decideUnconfirmed s ph i

theorem countExchange (s : State) (h : Nat) (ph : Phase) (x : Exchange) (reply : Option (Option Byte)) :
    R s (s.countExchange h ph x reply) := by
  obtain ⟨t, counted, eq⟩ := (hR.tallies h).countExchange s ph x reply
  rw [eq]
  exact hR.trans counted (hR.settleConfirm t h)

end CalCounts

/-- An accepted CANCEL, up to the retirement of the entries whose outcomes it decides (R20 to R22). -/
def State.cancelled (s : State) (h : Nat) : State :=
  (((s.modEntry h (fun e => { e with cancelled := true })).stopParts h).settleEntry h).settleConfirm h

theorem State.cancelEntry_retires (s : State) (h : Nat) : s.cancelEntry h = (s.cancelled h).retireSince s := rfl

namespace CalEdits

variable {R : State → State → Prop} (hR : CalEdits R)
include hR

/-- A part that has not started finishes (R6, R7). -/
theorem finishPart (s : State) (h : Nat) (ph : Phase) (f : Finish)
    (waits : ∀ e, s.entry? h = some e → (e.parts.get ph).unstarted = true) : R s (s.finishPart h ph f) := by
  unfold State.finishPart
  split
  · rename_i e found
    dsimp only
    split
    · exact hR.finish s h ph f _ e found (waits e found)
    · exact hR.trans (hR.finish s h ph f _ e found (waits e found)) (hR.offer _ _ _ _)
  · exact hR.refl s

theorem stopPart (s : State) (h : Nat) (ph : Phase) : R s (s.stopPart h ph) := by
  unfold State.stopPart
  split
  · rename_i e found
    have only {p : Entry → Prop} (here : p e) : ∀ x, s.entry? h = some x → p x := fun x hx =>
      Option.some.inj (found.symm.trans hx) ▸ here
    dsimp only
    split
    · rename_i state
      exact hR.finishPart s h ph _ (only (by rw [Part.unstarted, state]; rfl))
    · rename_i state
      exact hR.finishPart s h ph _ (only (by rw [Part.unstarted, state]; rfl))
    · rename_i state
      exact hR.stop s h ph _ e found (.inl state)
    · rename_i state
      split
      · exact hR.refl s
      · rename_i free
        exact hR.stop s h ph _ e found (.inr ⟨state, by simpa using free⟩)
    · exact hR.refl s
  · exact hR.refl s

theorem stopParts (s : State) (h : Nat) : R s (s.stopParts h) :=
  hR.foldl _ (fun s ph => hR.stopPart s h ph) _ s

theorem reachCutOff (s : State) (h : Nat) : R s (s.reachCutOff h) :=
  hR.trans (hR.mark s h (fun e => { e with cutOffReached := true }) (fun _ => rfl) (fun _ _ => .inl rfl) fun _ _ => .inr rfl)
    (hR.stopParts _ h)

theorem rereadPart (s : State) (h : Nat) (ph : Phase) : R s (s.rereadPart h ph) := by
  unfold State.rereadPart
  split
  · rename_i e found
    have only {p : Entry → Prop} (here : p e) : ∀ x, s.entry? h = some x → p x := fun x hx =>
      Option.some.inj (found.symm.trans hx) ▸ here
    dsimp only
    split
    · rename_i waiting
      split_ifs
      · exact hR.ready s h ph e found waiting
      · exact hR.finishPart s h ph _ (only (by rw [Part.unstarted, waiting]; rfl))
      · exact hR.refl s
    · rename_i ready
      split_ifs
      · exact hR.finishPart s h ph _ (only (by rw [Part.unstarted, ready]; rfl))
      · exact hR.wait s h ph e found ready
      · exact hR.refl s
    · exact hR.refl s
  · exact hR.refl s

theorem rereadParts (s : State) (h : Nat) : R s (s.rereadParts h) :=
  hR.foldl _ (fun s ph => hR.rereadPart s h ph) _ s

theorem reviewParts (s : State) (recomputes cutOff : Bool) (h : Nat) : R s (s.reviewParts recomputes cutOff h) := by
  have after (t : State) : R t (if cutOff then t.reachCutOff h else t.rereadParts h) := by
    split
    · exact hR.reachCutOff t h
    · exact hR.rereadParts t h
  have replanned : R s (if recomputes then s.modEntry h s.replanned else s) := by
    split
    · exact hR.replan s h
    · exact hR.refl s
  exact hR.trans replanned (after _)

theorem review (s : State) (recomputes : Bool) (test cutOff : Entry → Bool) : R s (s.review recomputes test cutOff) :=
  hR.trans (hR.foldl _ (fun s (e : Entry) => hR.reviewParts s recomputes (cutOff e) e.handle) _ s)
    (hR.foldl _ (fun s (e : Entry) => hR.reviewEntry s e.handle) _ _)

theorem recompute (s : State) (test : Entry → Bool) : R s (s.recompute test) := hR.review s true test _

theorem recomputeAll (s : State) : R s s.recomputeAll := hR.recompute s _

theorem cancelled (s : State) (h : Nat) (open_ : s.Undecided h) : R s (s.cancelled h) :=
  hR.trans (hR.trans (hR.trans
    (hR.markOpen (f := fun e => { e with cancelled := true }) (fun _ => rfl) (fun _ _ => .inl rfl) open_) (hR.stopParts _ h))
    (hR.settleEntry _ h)) (hR.settleConfirm _ h)

end CalEdits

theorem CalNotes.retireSince {R : State → State → Prop} (hR : CalNotes R) (s before : State) :
    R s (s.retireSince before) := hR.retireSince_of hR.join s before

theorem CalKeeps.cancelEntry {R : State → State → Prop} (hR : CalKeeps R) (s : State) (h : Nat) : R s (s.cancelEntry h) :=
  hR.trans (hR.trans (hR.trans (hR.trans
    (hR.note s h (fun e => { e with cancelled := true }) (fun _ => rfl) fun _ _ => .inl rfl) (hR.stopParts _ h))
    (hR.settleEntry _ h)) (hR.settleConfirm _ h)) (hR.retireSince _ s)

/-- A part finishes with its notice, and its channel gives it up, in a relation that holds over each of the three. -/
theorem stop_of_free {R : State → State → Prop} (refl : ∀ s, R s s) (trans : ∀ {s t u}, R s t → R t u → R s u)
    (offer : ∀ s p k c, R s (s.offer p (.notice k c)))
    (finish : ∀ s h ph f needed, R s (s.modPart h ph (·.finished f needed)))
    (giveUp : ∀ s ph h, R s (s.modChan ph (·.giveUp h))) (s : State) (h : Nat) (ph : Phase) (f : Finish) :
    R s ((s.finishPart h ph f).modChan ph (·.giveUp h)) := by
  refine trans ?_ (giveUp _ ph h)
  unfold State.finishPart
  split
  · dsimp only
    split
    · exact finish s h ph f _
    · exact trans (finish s h ph f _) (offer _ _ _ _)
  · exact refl s

/-- A relation that holds over the calendar's changes whatever the entry, its parts and the channels. -/
structure FreeEdits (R : State → State → Prop) : Prop extends CalCounts R, CalEdits R where
  noteAny : ∀ s h f, Entry.Noted f → R s (s.modEntry h f)
  decideAny : ∀ s h, R s (s.decideOutcome h)
  finishAny : ∀ s h ph f needed, R s (s.modPart h ph (·.finished f needed))
  giveUp : ∀ s ph h, R s (s.modChan ph (·.giveUp h))
  note := fun s h f noted _ => noteAny s h f noted
  decide := fun s h _ _ _ => decideAny s h
  finish := fun s h ph f needed _ _ _ => finishAny s h ph f needed
  stop := fun s h ph f _ _ _ => stop_of_free refl trans offer finishAny giveUp s h ph f

/-- A relation that holds over them, and over an entry's joining its retirement queue. -/
structure FreeKeeps (R : State → State → Prop) : Prop extends CalKeeps R, FreeEdits R

theorem FreeEdits.finishAnyPart {R : State → State → Prop} (hR : FreeEdits R) (s : State) (h : Nat) (ph : Phase)
    (f : Finish) : R s (s.finishPart h ph f) := by
  unfold State.finishPart
  split
  · dsimp only
    split
    · exact hR.finishAny s h ph f _
    · exact hR.trans (hR.finishAny s h ph f _) (hR.offer _ _ _ _)
  · exact hR.refl s

/-- What becomes of a channel whose phase is lost (R57). -/
def Channel.lost (c : Channel) : Channel := { c with state := .offline, work := none, gapLeft := none, quiet := false }

/-- A channel as it becomes HALTED (R59). -/
def Channel.halted (c : Channel) : Channel :=
  { c with state := .halted, work := none, gapLeft := none, haltPending := false }

/-- A relation that holds over the elementary changes of the channels' work too (chapters 3, 4 and 6). -/
structure WorkSteps (R : State → State → Prop) : Prop extends FreeEdits R where
  post : ∀ s f, R s (s.post f)
  settleLine : ∀ s, R s s.settleLine
  markQuiet : ∀ s ph, R s (s.markQuiet ph)
  clearWork : ∀ s ph, R s (s.clearWork ph)
  halted : ∀ s ph, R s (s.modChan ph Channel.halted)
  silent : ∀ s ph, R s (s.completeQueued ph .silent)
  unregister : ∀ s ph, R s (s.modDisc ph (fun d => { d with registration := [] }))
  started : ∀ s ph c t, s.choose ph = some c → s.serve ph c = .started t → R s t
  goOn : ∀ s ph c t, s.choose ph = some c → s.serve ph c = .goOn t → R s t
  suspend : ∀ s h ph, R s (s.suspend h ph)
  send : ∀ s h ph, R s (s.sendRepeat h ph)
  floodOff : ∀ s ph, R s (s.modChan ph Channel.endFlood)
  sent : ∀ s h ph f, (s.chan ph).work = some (.flood f) → f.entry = some h →
    R s ((s.modChan ph Channel.endFlood).modPart h ph (fun p => { p with sent := p.sent + 1 }))
  closeOpen : ∀ s ph, R s (s.modChan ph (fun c => { c with openPart := none }))
  gap : ∀ s ph, R s (s.modChan ph (fun c => c.enterGap s.settings.gap))
  absent : ∀ s ph, R s (s.modChan ph (fun c => { c with absentSinceFlood := true, quiet := false }))
  lost : ∀ s ph, R s (s.modChan ph Channel.lost)
  requeue : ∀ s ph, R s (s.requeueInFlight ph)
  relist : ∀ s ph x, (s.chan ph).work = some (.exchange x) → x.owner = .registration →
    R s ((s.modChan ph Channel.lost).modDisc ph
      (fun d => { d with registration := (x.index, x.address) :: d.registration }))
  restack : ∀ s ph, R s (s.modDisc ph Discovery.abandonProbe)
  sample : ∀ s ph noise, R s (s.sampleSlot ph noise)
  count : ∀ s ph b, R s (s.modChan ph (fun c => c.countCrossing b))
  inFlight : ∀ s ph r, R s (s.completeInFlight ph r)

/-- A relation that holds over them, and over an entry's joining its retirement queue. -/
structure WorkKeeps (R : State → State → Prop) : Prop extends FreeKeeps R, WorkSteps R

namespace WorkSteps

variable {R : State → State → Prop} (hR : WorkSteps R)
include hR

theorem noteLine (s : State) (line : LineState) (hold : Duo Bool) : R s (s.noteLine line hold) := by
  unfold State.noteLine
  split
  · exact hR.refl s
  · exact hR.offerBoth s _ _

theorem checkDrained (s : State) : R s s.checkDrained := hR.trans (hR.settleLine s) (hR.noteLine _ _ _)

theorem arbitrate (n : Nat) (ph : Phase) (s : State) : R s (State.arbitrate n ph s) := by
  induction n generalizing s with
  | zero => exact hR.refl s
  | succ n ih =>
      unfold State.arbitrate
      split
      · exact hR.refl s
      · rename_i c chosen
        split
        · rename_i t served
          exact hR.started s ph c t chosen served
        · rename_i t served
          exact hR.trans (hR.goOn s ph c t chosen served) (ih t)

theorem resumeOpen (s : State) (h : Nat) (ph : Phase) : R s (s.resumeOpen h ph) := by
  unfold State.resumeOpen
  split
  · split_ifs
    · exact hR.trans (hR.stopPart s h ph) (hR.settleEntry _ h)
    · exact hR.trans (hR.suspend s h ph) (hR.arbitrate _ ph _)
    · exact hR.send s h ph
  · exact hR.refl s

theorem atCrossing (s : State) (ph : Phase) : R s (s.atCrossing ph) := by
  unfold State.atCrossing
  dsimp only
  split
  · exact hR.refl s
  · split
    · split
      · exact hR.resumeOpen s _ ph
      · exact hR.refl s
    · exact hR.arbitrate _ ph s

theorem silenceQueue (s : State) (ph : Phase) : R s (s.silenceQueue ph) :=
  hR.foldl _ (fun s _ => hR.silent s ph) _ s

theorem halt (s : State) (ph : Phase) : R s (s.halt ph) :=
  hR.trans (hR.trans (hR.trans (hR.trans (hR.halted s ph) (hR.post _ _)) (hR.silenceQueue _ ph)) (hR.unregister _ ph))
    (hR.haltConfirmations _ ph)

theorem afterWork (s : State) (ph : Phase) : R s (s.afterWork ph) := by
  have ended : R s (if (s.chan ph).haltPending then s.halt ph else s) := by
    split
    · exact hR.halt s ph
    · exact hR.refl s
  exact hR.trans (hR.trans (hR.trans ended (hR.checkDrained _)) (hR.atCrossing _ ph)) (hR.markQuiet _ ph)

theorem clearAfter (s : State) (ph : Phase) : R s ((s.clearWork ph).afterWork ph) :=
  hR.trans (hR.clearWork s ph) (hR.afterWork _ ph)

theorem afterFlood (s : State) (h : Nat) (ph : Phase) (e : Entry) : R s (s.afterFlood h ph e) := by
  unfold State.afterFlood
  dsimp only
  split_ifs
  · exact hR.trans (hR.trans (hR.trans (hR.closeOpen s ph) (hR.finishAnyPart _ h ph _)) (hR.settleEntry _ h))
      (hR.clearAfter _ ph)
  · exact hR.clearAfter s ph
  · exact hR.trans (hR.suspend s h ph) (hR.clearAfter _ ph)
  · exact hR.clearAfter s ph
  · exact hR.gap s ph

theorem endFlood (s : State) (ph : Phase) (f : Flood) (work : (s.chan ph).work = some (.flood f)) :
    R s (s.endFlood ph f) := by
  unfold State.endFlood
  dsimp only
  split
  · rename_i h entry
    refine hR.trans (hR.sent s h ph f work entry) ?_
    split
    · exact hR.afterFlood _ h ph _
    · exact hR.clearAfter _ ph
  · exact hR.trans (hR.floodOff s ph) (hR.clearAfter _ ph)

theorem endGap (s : State) (h : Nat) (ph : Phase) : R s (s.endGap h ph) := by
  unfold State.endGap
  split
  · split
    · exact hR.trans (hR.trans (hR.stopPart s h ph) (hR.settleEntry _ h)) (hR.markQuiet _ ph)
    · exact hR.send s h ph
  · exact hR.refl s

theorem abandonFlood (s : State) (ph : Phase) (f : Flood) : R s (s.abandonFlood ph f) := by
  unfold State.abandonFlood
  split
  · split
    · split
      · exact hR.trans (hR.trans (hR.closeOpen s ph) (hR.finishAnyPart _ _ ph _)) (hR.settleEntry _ _)
      · exact hR.refl s
    · exact hR.refl s
  · exact hR.refl s

theorem abandonWork (s : State) (ph : Phase) : R s (s.abandonWork ph) := by
  unfold State.abandonWork
  dsimp only
  split
  · exact hR.trans (hR.lost s ph) (hR.abandonFlood _ ph _)
  · rename_i x work
    unfold State.abandonExchange
    split
    · refine hR.trans (hR.lost s ph) ?_
      split
      · split
        · exact hR.refl _
        · exact hR.settleConfirm _ _
      · exact hR.refl _
    · exact hR.lost s ph
    · exact hR.trans (hR.lost s ph) (hR.requeue _ ph)
    · rename_i owner
      exact hR.relist s ph x work owner
  · exact hR.trans (hR.lost s ph) (hR.restack _ ph)
  · exact hR.lost s ph

/-- The loss of a phase, once its record is that of start-up (R57, R158). -/
theorem losePhase (s : State) (ph : Phase) : R (s.setPhaseRec ph PhaseRec.fresh) (s.losePhase ph) := by
  have ended (t : State) : R t (if (t.chan ph).state = .halted then t
      else if ((t.abandonWork ph).chan ph).haltPending then (t.abandonWork ph).halt ph else t.abandonWork ph) := by
    split_ifs
    · exact hR.refl t
    · exact hR.trans (hR.abandonWork t ph) (hR.halt _ ph)
    · exact hR.abandonWork t ph
  exact hR.trans (hR.trans (hR.trans (hR.absent _ ph) (ended _)) (hR.post _ _)) (hR.checkDrained _)

theorem handCrossing (s : State) (ph : Phase) (noise : Int) (b : Bool) : R s (s.handCrossing ph noise b) :=
  hR.trans (hR.trans (hR.trans (hR.sample s ph noise) (hR.count _ ph b)) (hR.atCrossing _ ph)) (hR.markQuiet _ ph)

/-- The end of an exchange, from the roster's effect on. -/
theorem endExchange {s : State} {ph : Phase} {x : Exchange}
    (replied : ∀ r uplink seed, R s (s.applyReply ph x r uplink seed)) (silence : R s (s.applySilence x.index x.address))
    (reply : Option (ReplyReading × Nat)) : R s (s.endExchange ph x reply) := by
  unfold State.endExchange
  dsimp only
  refine hR.trans ?_ (hR.afterWork _ ph)
  have effect (t : State) (ht : R s t) (q : Option (Option Byte)) (z : PingResult) :
      R s (match x.owner with
        | .confirm (some h) => (t.clearWork ph).countExchange h ph x q
        | .confirm none => t.clearWork ph
        | .ping => (t.clearWork ph).completeInFlight ph z
        | .registration => t.clearWork ph) := by
    have cleared := hR.trans ht (hR.clearWork t ph)
    split
    · exact hR.trans cleared (hR.countExchange _ _ ph x q)
    · exact cleared
    · exact hR.trans cleared (hR.inFlight _ ph z)
    · exact cleared
  cases reply with
  | none => exact effect _ silence none .silent
  | some y => exact effect _ (replied y.1 y.2 _) (some y.1.sequence) (State.pingReplied _ x y.1 y.2)

end WorkSteps

end Sys2Proof.Machine
end

section
/-! PROOFS. What each command can change: the blocks of the state by name, the blocks a command touches, and an invariant
that reads some of them kept by every step once it is kept by the commands that touch these. -/

namespace Sys2Proof.Machine

/-! ### The blocks of the state -/

/-- The fields of `State`. -/
inductive Block where
  | pending | elapsed | freeCount | clock | mains | fPlan | excursion | ports | calendar | lastHandle | retirement | line
  | hold | channels | testMasks | pings | roster | readCursors | groups | discovery | levels | settings | store
  | identity | faults | surveys
deriving DecidableEq

/-- The block is the same in both states. -/
def Block.same (s t : State) : Block → Prop
  | .pending => t.pending = s.pending
  | .elapsed => t.elapsed = s.elapsed
  | .freeCount => t.freeCount = s.freeCount
  | .clock => t.clock = s.clock
  | .mains => t.mains = s.mains
  | .fPlan => t.fPlan = s.fPlan
  | .excursion => t.excursion = s.excursion
  | .ports => t.ports = s.ports
  | .calendar => t.calendar = s.calendar
  | .lastHandle => t.lastHandle = s.lastHandle
  | .retirement => t.retirement = s.retirement
  | .line => t.line = s.line
  | .hold => t.hold = s.hold
  | .channels => t.channels = s.channels
  | .testMasks => t.testMasks = s.testMasks
  | .pings => t.pings = s.pings
  | .roster => t.roster = s.roster
  | .readCursors => t.readCursors = s.readCursors
  | .groups => t.groups = s.groups
  | .discovery => t.discovery = s.discovery
  | .levels => t.levels = s.levels
  | .settings => t.settings = s.settings
  | .store => t.store = s.store
  | .identity => t.identity = s.identity
  | .faults => t.faults = s.faults
  | .surveys => t.surveys = s.surveys

theorem Block.same_refl (s : State) (b : Block) : b.same s s := by cases b <;> rfl

theorem Block.same_trans {s t u : State} {b : Block} (h : b.same s t) (k : b.same t u) : b.same s u := by
  cases b <;> exact Eq.trans k h

/-- Two states differ in these blocks alone. -/
def Within (bs : List Block) (s t : State) : Prop := ∀ b, b ∉ bs → b.same s t

theorem Within.refl (bs : List Block) (s : State) : Within bs s s := fun b _ => b.same_refl s

section
variable {bs cs : List Block} {s t u : State}

theorem Within.trans (h : Within bs s t) (k : Within bs t u) : Within bs s u :=
  fun b hb => Block.same_trans (h b hb) (k b hb)

theorem Within.mono (h : Within bs s t) (sub : bs ⊆ cs) : Within cs s t := fun b hb => h b (fun hm => hb (sub hm))

/-- A change within some blocks, then one within others. -/
theorem Within.then (h : Within bs s t) (k : Within cs t u) {ds : List Block} (sub : bs ++ cs ⊆ ds) : Within ds s u :=
  (h.mono fun _ hb => sub (List.mem_append_left _ hb)).trans (k.mono fun _ hb => sub (List.mem_append_right _ hb))

theorem PortsFrame.within (h : PortsFrame s t) : Within [.ports] s t := by
  intro b hb
  rw [h]
  cases b <;> first | rfl | exact absurd (by decide) hb

theorem FaultFrame.within (h : FaultFrame s t) : Within [.ports, .faults] s t := by
  intro b hb
  rw [h]
  cases b <;> first | rfl | exact absurd (by decide) hb

theorem CalFrame.within (h : CalFrame s t) : Within [.ports, .calendar, .retirement] s t := by
  intro b hb
  rw [h]
  cases b <;> first | rfl | exact absurd (by decide) hb

theorem ChanFrame.within (h : ChanFrame s t) : Within [.ports, .calendar, .retirement, .channels] s t := by
  intro b hb
  rw [h]
  cases b <;> first | rfl | exact absurd (by decide) hb

theorem RosterFrame.within (h : RosterFrame s t) :
    Within [.ports, .calendar, .retirement, .groups, .roster, .levels] s t := by
  intro b hb
  rw [h]
  cases b <;> first | rfl | exact absurd (by decide) hb

/-- The blocks the work of a channel can change. -/
def workBlocks : List Block :=
  [.ports, .calendar, .retirement, .groups, .roster, .levels, .channels, .pings, .discovery, .faults, .line, .surveys]

theorem WorkFrame.within (h : WorkFrame s t) : Within workBlocks s t := by
  intro b hb
  rw [h]
  cases b <;> first | rfl | exact absurd (by decide) hb

end

/-! ### What the arbiter's choice comes to -/

/-- A choice of the arbiter that starts work, and the state in which it has started (R64, R70, R81, R92, R120, R126). -/
inductive Starts (s : State) (ph : Phase) : Choice → State → Prop
  | part (h : Nat) : Starts s ph (.part h) (s.startPart h ph)
  | resume (h : Nat) : Starts s ph (.resume h) (s.resumePart h ph)
  | confirm (h : Nat) (e : Entry) (r : PhaseProgress) (i : Nat) (a : Address) (u : UnitRec) :
      s.entry? h = some e → s.progress? h ph = some r → r.current = some (i, a) → s.unit? i = some u →
      (u.address = a ∧ u.member e.group = true ∧ u.phase = ph) → u.state ≠ .lost →
      Starts s ph (.confirm h)
        (s.startExchange ph (.confirm (some h)) (match r.nextFrame with | .poll => .poll | .direct => .direct) (some e) i u)
  | ping (r : PingRec) (u : UnitRec) :
      oldestQueued (s.pingQueue ph) = some r → s.unit? r.index = some u → u.address = r.address ∧ u.phase = ph →
      Starts s ph .ping ((s.modPings ph (setOldestQueued .inFlight)).startExchange ph .ping .ping none r.index u)
  | registration (i : Nat) (a : Address) (rest : List (Nat × Address)) (u : UnitRec) :
      (s.disc ph).registration = (i, a) :: rest → s.unit? i = some u → u.address = a ∧ u.phase = ph →
      Starts s ph .registration
        ((s.modDisc ph (fun d => { d with registration := rest })).startExchange ph .registration .ping none i u)
  | probe (f : ProbeFilter) (rest : List ProbeFilter) (o : Origin) (route : List Nat) :
      (s.disc ph).stack = f :: rest → (s.disc ph).origin = some o → s.probeRoute ph (some o) = some route →
      Starts s ph .probe (s.startProbe ph o f route)

/-- A choice of the arbiter that starts none, and the state in which it goes on choosing. -/
inductive GoesOn (s : State) (ph : Phase) : Choice → State → Prop
  | idle (c : Choice) : GoesOn s ph c s
  | notReached (h : Nat) (e : Entry) (r : PhaseProgress) (i : Nat) (a : Address) :
      s.entry? h = some e → s.progress? h ph = some r → r.current = some (i, a) →
      (∀ u, s.unit? i = some u → ¬ (u.address = a ∧ u.member e.group = true ∧ u.phase = ph)) →
      GoesOn s ph (.confirm h) ((s.decideNotReached h ph).settleConfirm h)
  | unconfirmed (h : Nat) (e : Entry) (r : PhaseProgress) (i : Nat) (a : Address) (u : UnitRec) :
      s.entry? h = some e → s.progress? h ph = some r → r.current = some (i, a) → s.unit? i = some u →
      (u.address = a ∧ u.member e.group = true ∧ u.phase = ph) → u.state = .lost →
      GoesOn s ph (.confirm h) ((s.decideUnconfirmed h ph i).settleConfirm h)
  | notSent (r : PingRec) :
      oldestQueued (s.pingQueue ph) = some r →
      (∀ u, s.unit? r.index = some u → ¬ (u.address = r.address ∧ u.phase = ph)) →
      GoesOn s ph .ping (s.completeQueued ph .notSent)
  | discarded (i : Nat) (a : Address) (rest : List (Nat × Address)) :
      (s.disc ph).registration = (i, a) :: rest →
      (∀ u, s.unit? i = some u → ¬ (u.address = a ∧ u.phase = ph)) →
      GoesOn s ph .registration (s.modDisc ph (fun d => { d with registration := rest }))
  | origin :
      (∀ o, (s.disc ph).origin = some o → (s.disc ph).stack ≠ [] → s.probeRoute ph (some o) = none) →
      GoesOn s ph .probe ((s.modDisc ph (fun d => { d with stack := [] })).advanceOrigin ph)

/-- What serving a choice comes to. -/
theorem State.serve_cases (s : State) (ph : Phase) (c : Choice) :
    (∃ t, s.serve ph c = .started t ∧ Starts s ph c t) ∨ ∃ t, s.serve ph c = .goOn t ∧ GoesOn s ph c t := by
  cases c with
  | part h => exact .inl ⟨_, rfl, .part h⟩
  | resume h => exact .inl ⟨_, rfl, .resume h⟩
  | confirm h =>
      simp only [State.serve, State.serveConfirm]
      split
      · rename_i e r entry progress
        split
        · rename_i i a current
          split
          · rename_i u unit
            split_ifs with gone lost
            · refine .inr ⟨_, rfl, .notReached h e r i a entry progress current ?_⟩
              rintro v hv ⟨ha, hm, hp⟩
              cases unit.symm.trans hv
              simp [ha, hm, hp] at gone
            · refine .inr ⟨_, rfl, .unconfirmed h e r i a u entry progress current unit ?_ lost⟩
              simpa [and_assoc] using gone
            · refine .inl ⟨_, rfl, .confirm h e r i a u entry progress current unit ?_ lost⟩
              simpa [and_assoc] using gone
          · rename_i unit
            exact .inr ⟨_, rfl, .notReached h e r i a entry progress current (fun u hu => by cases unit.symm.trans hu)⟩
        · exact .inr ⟨_, rfl, .idle _⟩
      · exact .inr ⟨_, rfl, .idle _⟩
  | ping =>
      simp only [State.serve, State.servePing]
      split
      · rename_i r oldest
        split
        · rename_i u unit
          split_ifs with gone
          · refine .inr ⟨_, rfl, .notSent r oldest ?_⟩
            rintro v hv ⟨ha, hp⟩
            cases unit.symm.trans hv
            simp [ha, hp] at gone
          · exact .inl ⟨_, rfl, .ping r u oldest unit (by simpa using gone)⟩
        · rename_i unit
          exact .inr ⟨_, rfl, .notSent r oldest (fun u hu => by cases unit.symm.trans hu)⟩
      · exact .inr ⟨_, rfl, .idle _⟩
  | registration =>
      simp only [State.serve, State.serveRegistration]
      split
      · rename_i i a rest listed
        have unit_eq : (s.modDisc ph (fun d => { d with registration := rest })).unit? i = s.unit? i := rfl
        split
        · rename_i u unit
          rw [unit_eq] at unit
          split_ifs with gone
          · refine .inr ⟨_, rfl, .discarded i a rest listed ?_⟩
            rintro v hv ⟨ha, hp⟩
            cases unit.symm.trans hv
            simp [ha, hp] at gone
          · exact .inl ⟨_, rfl, .registration i a rest u listed unit (by simpa using gone)⟩
        · rename_i unit
          rw [unit_eq] at unit
          exact .inr ⟨_, rfl, .discarded i a rest listed (fun u hu => by cases unit.symm.trans hu)⟩
      · exact .inr ⟨_, rfl, .idle _⟩
  | probe =>
      simp only [State.serve, State.serveProbe]
      split
      · rename_i f rest o route stack origin serves
        rw [origin] at serves
        exact .inl ⟨_, rfl, .probe f rest o route stack origin serves⟩
      · rename_i none_serves
        refine .inr ⟨_, rfl, .origin fun o origin stack => ?_⟩
        cases hs : (s.disc ph).stack with
        | nil => exact absurd hs stack
        | cons f rest =>
            cases hr : s.probeRoute ph (some o) with
            | none => rfl
            | some route => exact absurd (origin ▸ hr) (none_serves f rest o route hs origin)

theorem Starts.of_serve {s t : State} {ph : Phase} {c : Choice} (h : s.serve ph c = .started t) : Starts s ph c t := by
  obtain ⟨u, served, starts⟩ | ⟨u, served, -⟩ := s.serve_cases ph c <;> rw [h] at served <;> cases served
  exact starts

theorem GoesOn.of_serve {s t : State} {ph : Phase} {c : Choice} (h : s.serve ph c = .goOn t) : GoesOn s ph c t := by
  obtain ⟨u, served, -⟩ | ⟨u, served, goesOn⟩ := s.serve_cases ph c <;> rw [h] at served <;> cases served
  exact goesOn

/-! ### Relations that read some blocks -/

/-- A relation over which changes of the ports, the calendar and the channels say nothing holds over the calendar's
operations. -/
theorem FreeKeeps.of_frame {R : State → State → Prop} (refl : ∀ s, R s s)
    (trans : ∀ {s t u}, R s t → R t u → R s u) (frame : ∀ s t, ChanFrame s t → R s t) : FreeKeeps R where
  refl := refl
  trans := trans
  offer s p k c := frame _ _ (s.offer_ports p _).cal.chan
  join s h := frame _ _ (s.joinRetirement_cal h).chan
  noteAny _ _ _ _ := frame _ _ rfl
  decideAny _ _ := frame _ _ rfl
  finishAny _ _ _ _ _ := frame _ _ rfl
  ready _ _ _ _ _ _ := frame _ _ rfl
  wait _ _ _ _ _ _ := frame _ _ rfl
  replan _ _ := frame _ _ rfl
  giveUp _ _ _ := frame _ _ rfl

/-- What the notices of the ports and the queues of the pings and the surveys cannot change. -/
theorem State.offerHeld_cases (s : State) (p : Port) (o : HeldOwner) :
    s.offerHeld p o = s.modPort p (fun r => { r with held := r.held ++ [o] }) ∨ s.offerHeld p o = s ∨
      ∃ i, s.heldItem p o = some i ∧ s.offerHeld p o = (s.pushItem p i).completeHeld p o := by
  unfold State.offerHeld
  split
  · unfold State.queueHeld
    split
    · rename_i i item
      exact .inr (.inr ⟨i, item, rfl⟩)
    · exact .inr (.inl rfl)
  · exact .inl rfl

/-- The blocks a channel's work can change but for an exchange's and a window's effect on the roster. -/
def lineBlocks : List Block :=
  [.ports, .calendar, .retirement, .groups, .levels, .channels, .pings, .discovery, .faults, .line, .surveys]

theorem Within.line_of_work {s t : State} (h : WorkFrame s t) (roster : t.roster = s.roster) : Within lineBlocks s t := by
  intro b hb
  by_cases hr : b = .roster
  · subst hr
    exact roster
  · exact h.within b (by cases b <;> first | exact absurd rfl hr | exact absurd (by decide) hb | decide)

end Sys2Proof.Machine
end

section
/-! PROOFS. The blocks each command touches, and the invariants kept by every step that are kept by the commands that
touch the blocks they read. -/

namespace Sys2Proof.Machine

/-! ### The roster under the channels' work -/

theorem State.sendRepeat_roster (s : State) (h : Nat) (ph : Phase) : (s.sendRepeat h ph).roster = s.roster := by
  unfold State.sendRepeat
  split <;> rfl

theorem State.offer_roster (s : State) (p : Port) (i : Item) : (s.offer p i).roster = s.roster := by
  rw [s.offer_ports]

theorem State.beginSending_roster (s : State) (e : Entry) : (s.beginSending e).roster = s.roster :=
  State.offer_roster _ _ _

theorem State.startPart_roster (s : State) (h : Nat) (ph : Phase) : (s.startPart h ph).roster = s.roster := by
  unfold State.startPart
  split
  · refine (State.sendRepeat_roster _ _ _).trans ?_
    rename_i e _
    change (if e.sequence.isNone then s.beginSending e else s).roster = s.roster
    split
    · exact s.beginSending_roster e
    · rfl
  · rfl

theorem State.offerHeld_ping_roster (s : State) (p : Port) (ph : Phase) :
    (s.offerHeld p (.ping ph)).roster = s.roster := by
  obtain h | h | ⟨i, -, h⟩ := s.offerHeld_cases p (.ping ph) <;> rw [h] <;> rfl

theorem State.completeQueued_roster (s : State) (ph : Phase) (r : PingResult) :
    (s.completeQueued ph r).roster = s.roster := by
  unfold State.completeQueued
  split
  · exact State.offerHeld_ping_roster _ _ _
  · rfl

theorem State.completeInFlight_roster (s : State) (ph : Phase) (r : PingResult) :
    (s.completeInFlight ph r).roster = s.roster := by
  unfold State.completeInFlight
  split
  · split
    · rfl
    · exact State.offerHeld_ping_roster _ _ _
  · rfl

theorem State.settleConfirm_roster (s : State) (h : Nat) : (s.settleConfirm h).roster = s.roster := by
  rw [s.settleConfirm_cal]

theorem State.advanceOrigin_roster (s : State) (ph : Phase) : (s.advanceOrigin ph).roster = s.roster := by
  unfold State.advanceOrigin
  dsimp only
  split <;> rfl

theorem Starts.roster {s t : State} {ph : Phase} {c : Choice} (h : Starts s ph c t) : t.roster = s.roster := by
  cases h with
  | part h => exact s.startPart_roster h ph
  | resume h => exact State.sendRepeat_roster _ h ph
  | _ => rfl

theorem GoesOn.roster {s t : State} {ph : Phase} {c : Choice} (h : GoesOn s ph c t) : t.roster = s.roster := by
  cases h with
  | notReached => exact State.settleConfirm_roster _ _
  | unconfirmed => exact State.settleConfirm_roster _ _
  | notSent => exact s.completeQueued_roster ph _
  | origin => exact State.advanceOrigin_roster _ ph
  | _ => rfl

theorem State.sampleSlot_roster (s : State) (ph : Phase) (noise : Int) : (s.sampleSlot ph noise).roster = s.roster := by
  unfold State.sampleSlot State.offerSurvey
  dsimp only
  split
  · split
    · split
      · rename_i p _
        obtain h | h | ⟨i, -, h⟩ := State.offerHeld_cases ((s.modSurvey ph _).modSurvey ph _) p (.survey ph) <;>
          rw [h] <;> rfl
      · rfl
    · rfl
  · rfl

/-- The work of the channels leaves the roster as it is. -/
theorem roster_workKeeps : WorkKeeps (fun s t => t.roster = s.roster) where
  toFreeKeeps := FreeKeeps.of_frame (fun _ => rfl) (fun h k => k.trans h) (fun s t h => by rw [h])
  post s f := by rw [s.post_fault]
  settleLine s := by rw [s.settleLine_work]
  markQuiet _ _ := rfl
  clearWork _ _ := rfl
  halted _ _ := rfl
  silent s ph := s.completeQueued_roster ph _
  unregister _ _ := rfl
  started _ _ _ _ _ h := (Starts.of_serve h).roster
  goOn _ _ _ _ _ h := (GoesOn.of_serve h).roster
  suspend _ _ _ := rfl
  send s h ph := s.sendRepeat_roster h ph
  floodOff _ _ := rfl
  sent _ _ _ _ _ _ := rfl
  closeOpen _ _ := rfl
  gap _ _ := rfl
  absent _ _ := rfl
  lost _ _ := rfl
  requeue s ph := by unfold State.requeueInFlight; split <;> (try split) <;> rfl
  relist _ _ _ _ _ := rfl
  restack _ _ := rfl
  sample s ph noise := s.sampleSlot_roster ph noise
  count _ _ _ := rfl
  inFlight s ph r := s.completeInFlight_roster ph r

theorem frame_workKeeps : WorkKeeps WorkFrame where
  toFreeKeeps := FreeKeeps.of_frame WorkFrame.refl WorkFrame.trans (fun _ _ h => h.work)
  post s f := (s.post_fault f).work
  settleLine s := by
    refine Eq.trans s.settleLine_work ?_
    rw [s.settleLine_work]
  markQuiet _ _ := rfl
  clearWork _ _ := rfl
  halted _ _ := rfl
  silent s ph := s.completeQueued_work ph _
  unregister _ _ := rfl
  started s ph c t _ h := by simpa [h] using s.serve_work ph c
  goOn s ph c t _ h := by simpa [h] using s.serve_work ph c
  suspend _ _ _ := rfl
  send s h ph := s.sendRepeat_work h ph
  floodOff _ _ := rfl
  sent _ _ _ _ _ _ := rfl
  closeOpen _ _ := rfl
  gap _ _ := rfl
  absent _ _ := rfl
  lost _ _ := rfl
  requeue s ph := s.requeueInFlight_work ph
  relist _ _ _ _ _ := rfl
  restack _ _ := rfl
  sample s ph noise := s.sampleSlot_work ph noise
  count _ _ _ := rfl
  inFlight s ph r := s.completeInFlight_work ph r

/-! ### The events of the channels -/

section
variable (s : State) (ph : Phase)

theorem State.endFlood_within (f : Flood) (work : (s.chan ph).work = some (.flood f)) :
    Within lineBlocks s (s.endFlood ph f) :=
  .line_of_work (frame_workKeeps.endFlood s ph f work) (roster_workKeeps.endFlood s ph f work)

theorem State.endGap_within (h : Nat) : Within lineBlocks s (s.endGap h ph) :=
  .line_of_work (frame_workKeeps.endGap s h ph) (roster_workKeeps.endGap s h ph)

theorem State.losePhase_within : Within (.mains :: lineBlocks) s (s.losePhase ph) := by
  have fresh : Within [.mains] s (s.setPhaseRec ph PhaseRec.fresh) := by
    intro b hb
    cases b <;> first | rfl | exact absurd (by decide) hb
  exact fresh.then (.line_of_work (frame_workKeeps.losePhase s ph) (roster_workKeeps.losePhase s ph)) (by decide)

theorem State.handCrossing_within (noise : Int) (b : Bool) : Within lineBlocks s (s.handCrossing ph noise b) :=
  .line_of_work (frame_workKeeps.handCrossing s ph noise b) (roster_workKeeps.handCrossing s ph noise b)

theorem State.setPhaseRec_within (r : PhaseRec) : Within [.mains] s (s.setPhaseRec ph r) := by
  intro b hb
  cases b <;> first | rfl | exact absurd (by decide) hb

theorem State.returnPhase_within : Within [.channels] s (s.returnPhase ph) := by
  intro b hb
  cases b <;> first | rfl | exact absurd (by decide) hb

theorem State.acceptCrossing_within (c : Crossing) (d : Nat) (noise : Int) (b : Bool) :
    Within (.mains :: lineBlocks) s (s.acceptCrossing ph c d noise b) := by
  unfold State.acceptCrossing
  dsimp only
  split_ifs
  · exact (s.setPhaseRec_within ph _).then (State.handCrossing_within _ ph noise b) (by decide)
  · exact (s.setPhaseRec_within ph _).then (State.handCrossing_within _ ph noise b) (by decide)
  · exact ((s.setPhaseRec_within ph _).then (cs := [.channels]) (State.returnPhase_within _ ph) (List.Subset.refl _)).then
      (State.handCrossing_within _ ph noise b) (by decide)
  · exact (s.setPhaseRec_within ph _).mono (by decide)
  · exact (s.setPhaseRec_within ph _).mono (by decide)

theorem State.reportCrossing_within (instant : Nat) (noise : Int) (b : Bool) :
    Within (.mains :: lineBlocks) s (s.reportCrossing ph instant noise b) := by
  unfold State.reportCrossing
  dsimp only
  split
  · exact (s.setPhaseRec_within ph _).mono (by decide)
  · split_ifs
    · exact Within.refl _ s
    · exact (s.losePhase_within ph).then (State.setPhaseRec_within _ ph _) (by decide)
    · exact s.acceptCrossing_within ph _ _ noise b

theorem State.retireSince_within (before : State) : Within [.ports, .calendar, .retirement] s (s.retireSince before) :=
  (s.retireSince_cal before).within

theorem State.register_within (i : Nat) (a : Address) : Within [.discovery] s (s.register ph i a) := by
  unfold State.register
  split
  · exact Within.refl _ s
  · intro b hb
    cases b <;> first | rfl | exact absurd (by decide) hb

theorem State.roster_within (r : Roster) : Within [.roster] s { s with roster := r } := by
  intro b hb
  cases b <;> first | rfl | exact absurd (by decide) hb

theorem State.modDisc_within (f : Discovery → Discovery) : Within [.discovery] s (s.modDisc ph f) := by
  intro b hb
  cases b <;> first | rfl | exact absurd (by decide) hb

theorem State.modChan_within (f : Channel → Channel) : Within [.channels] s (s.modChan ph f) := by
  intro b hb
  cases b <;> first | rfl | exact absurd (by decide) hb

theorem State.applyWindow_within (p : ProbeInFlight) (window : Nat) (r : WindowResult) :
    Within workBlocks s (s.applyWindow ph p window r) := by
  unfold State.applyWindow
  split
  · split
    · rename_i r uplink ago x _
      unfold State.updateFound
      dsimp only
      generalize (if (x.2.route != _ || _) = true then invalidateFrom x.1 _ else _ : Roster) = after
      have noted : Within workBlocks s
          (((State.noticeLost { s with roster := after } s.roster .route).register ph x.1 x.2.address)) :=
        ((s.roster_within after).then (cs := [.ports]) (State.noticeLost_ports _ _ _).within (List.Subset.refl _)).then
          (State.register_within _ ph _ _) (by decide)
      split
      · exact noted.then (State.recomputeGroups_roster _ _).within (by decide)
      · exact noted
    · unfold State.recordFound
      split
      · exact (State.post_fault _ _).within.mono (by decide)
      · dsimp only
        refine Within.then (bs := [.roster, .discovery, .ports]) ?_ (State.recomputeGroups_roster _ _).within (by decide)
        exact ((s.roster_within _).then (cs := [.discovery]) (State.register_within _ ph _ _) (List.Subset.refl _)).then
          (State.offerBoth_ports _ _).within (by decide)
  · exact (s.modDisc_within ph _).mono (by decide)
  · exact Within.refl _ s

theorem State.advanceOrigin_within : Within [.discovery] s (s.advanceOrigin ph) := by
  unfold State.advanceOrigin
  dsimp only
  split <;> exact s.modDisc_within ph _

theorem State.endProbe_within : Within workBlocks s (s.endProbe ph) := by
  unfold State.endProbe
  dsimp only
  have searched (t : State) : Within [.discovery] t
      (if (t.disc ph).state = .probing ∧ (t.disc ph).stack = [] then t.advanceOrigin ph else t) := by
    split
    · exact t.advanceOrigin_within ph
    · exact Within.refl _ t
  exact ((s.modDisc_within ph _).trans (searched _)).then (frame_workKeeps.clearAfter _ ph).within (by decide)

theorem State.endWindow_within (r : ProbeRun) (p : ProbeInFlight) (heard : List WindowFrame) :
    Within workBlocks s (s.endWindow ph r p heard) := by
  unfold State.endWindow
  dsimp only
  split
  · exact (s.applyWindow_within ph p _ _).trans (State.endProbe_within _ ph)
  · exact (s.applyWindow_within ph p _ _).then (State.modChan_within _ ph _) (by decide)

theorem State.endExchange_within (x : Exchange) (reply : Option (ReplyReading × Nat)) :
    Within workBlocks s (s.endExchange ph x reply) := (s.endExchange_work ph x reply).within

end

end Sys2Proof.Machine
end

section
/-! PROOFS. The blocks each command touches, and the invariants kept by every step once they are kept by the commands
that touch the blocks they read. -/

namespace Sys2Proof.Machine

/-- The blocks of a start-up. -/
def startBlocks : List Block :=
  [.clock, .mains, .fPlan, .excursion, .ports, .calendar, .lastHandle, .retirement, .line, .hold, .channels, .testMasks,
    .pings, .roster, .readCursors, .groups, .discovery, .levels, .settings, .store, .faults, .surveys]

/-- The blocks a command touches, for every command but a COMMAND and a FETCH transfer, which carry out others. -/
def touches : Instr → List Block
  | .powerOn .. | .pinReset .. => startBlocks
  | .commandTransfer .. | .fetchTransfer .. => []
  | .ignoredTransfer .. => [.ports, .freeCount]
  | .submit .. => [.ports, .calendar, .retirement, .lastHandle]
  | .cancel .. => [.ports, .calendar, .retirement, .channels]
  | .runLine .. => [.ports, .line]
  | .holdLine .. => [.ports, .line, .hold, .channels]
  | .releaseLine .. => [.ports, .line, .hold]
  | .applyProfile .. | .setParameter .. => [.ports, .settings, .levels, .calendar, .retirement]
  | .setGroupPermit .. => [.ports, .settings]
  | .setQuota .. => [.ports, .settings, .store]
  | .addUnit .. | .editUnit .. | .retireUnit .. => [.ports, .calendar, .retirement, .groups, .roster]
  | .readNext .. => [.ports, .readCursors]
  | .pingUnit .. => [.ports, .pings]
  | .startDiscovery .. | .stopDiscovery .. => [.ports, .discovery]
  | .setTestMask .. => [.ports, .testMasks]
  | .setTime .. => [.ports, .clock, .calendar, .retirement, .channels, .groups]
  | .saveSettings .. | .saveRoster .. => [.ports, .store]
  | .writeSystemCode .. => [.ports, .identity]
  | .clearFaults .. => [.ports, .faults]
  | .startSurvey .. => [.ports, .surveys]
  | .resetPort .. =>
      [.ports, .calendar, .retirement, .channels, .pings, .readCursors, .store, .surveys, .hold, .line]
  | .heldNoticeQueued .. => [.ports, .calendar, .retirement, .pings, .store, .surveys]
  | .zeroCrossing .. | .phaseLoss .. => .mains :: lineBlocks
  | .secondBoundary =>
      [.elapsed, .clock, .fPlan, .excursion, .faults, .ports, .calendar, .retirement, .channels, .groups]
  | .esReached .. | .lsReached .. => [.ports, .calendar, .retirement]
  | .floodEnd .. | .repeatGapEnd .. => lineBlocks
  | .outboundSpanEnd .. => [.channels]
  | .replyReceived .. | .silencePoint .. | .probeWindowEnd .. => workBlocks
  | .restEnd .. => [.discovery]
  | .eraseEnd => [.store]
  | .writeEnd .. => [.store, .ports, .faults]
  | .frameRefused .. | .readEntry .. | .listEntries .. | .readUnit .. | .findUnit .. | .readGroup .. | .readDiscovery ..
  | .readLevel .. | .readTime .. | .readIdentity .. | .readSettings .. | .readFaults .. | .readSurvey .. | .status ..
  | .selectAsserted .. => [.ports]

/-- A client command touches what it does once its frame is gone. -/
theorem Within.of_taken {bs : List Block} {s t : State} {p : Port} {i : Instr} {f : State → State}
    (run : whenTaken s p i f = .next t) (ports : Block.ports ∈ bs) (h : ∀ u, Within bs u (f u)) : Within bs s t := by
  obtain ⟨-, rfl⟩ | ⟨-, rfl⟩ := whenTaken_cases run
  · refine Within.trans (t := s.popFrame p) ?_ (h _)
    exact (PortsFrame.within (s := s) (t := s.popFrame p) rfl).mono (by simpa using ports)
  · exact Within.refl bs _

theorem State.reply_within (s : State) (p : Port) (c t : Byte) (o : ReplyCode) (x : List Byte) :
    Within [.ports] s (s.reply p c t o x) := (s.reply_ports p c t o x).within

theorem State.completeHeld_within (s : State) (p : Port) (o : HeldOwner) :
    Within [.calendar, .retirement, .pings, .store, .surveys] s (s.completeHeld p o) := by
  intro b hb
  cases o <;> cases b <;> first | rfl | exact absurd (by decide) hb

theorem State.queueHeld_within (s : State) (p : Port) (o : HeldOwner) :
    Within [.ports, .calendar, .retirement, .pings, .store, .surveys] s (s.queueHeld p o) := by
  unfold State.queueHeld
  split
  · exact (State.pushItem_ports s p _).within.then (State.completeHeld_within _ p o) (List.Subset.refl _)
  · exact Within.refl _ s

theorem State.abandonSurvey_within (s : State) (ph : Phase) : Within [.ports, .surveys] s (s.abandonSurvey ph) := by
  unfold State.abandonSurvey State.offerSurvey
  dsimp only
  split
  · rename_i q _ _
    obtain h | h | ⟨i, -, h⟩ := State.offerHeld_cases (s.modSurvey ph _) q (.survey ph) <;> rw [h] <;>
      (intro b hb; cases b <;> first | rfl | exact absurd (by decide) hb)
  · exact Within.refl _ s

theorem State.addHold_within (s : State) (p : Port) : Within [.line, .hold, .channels] s (s.addHold p) := by
  unfold State.addHold
  dsimp only
  split_ifs
  · rw [State.settleLine_work]
    intro b hb
    cases b <;> first | rfl | exact absurd (by decide) hb
  · intro b hb
    cases b <;> first | rfl | exact absurd (by decide) hb
  · intro b hb
    cases b <;> first | rfl | exact absurd (by decide) hb

theorem State.judgeExcursion_within (s : State) : Within [.excursion, .ports, .faults] s s.judgeExcursion := by
  have flag (b : Bool) : Within [.excursion] s { s with excursion := b } := by
    intro b hb
    cases b <;> first | rfl | exact absurd (by decide) hb
  unfold State.judgeExcursion
  split
  · split_ifs
    · exact Within.refl _ s
    · exact (flag true).then (State.post_fault _ _).within (List.Subset.refl _)
    · exact (flag false).mono (by decide)
  · exact (flag false).mono (by decide)

theorem State.dropField_within (s : State) (leaves : Nat → Bool) : Within [.groups] s (s.dropField leaves) := by
  intro b hb
  cases b <;> first | rfl | exact absurd (by decide) hb

theorem State.crossSecond_within (s : State) (second : Nat) :
    Within [.fPlan, .excursion, .faults, .ports, .calendar, .retirement, .channels, .groups] s (s.crossSecond second) := by
  have planned : Within [.fPlan] s { s with fPlan := s.refreshedPlanFrequency } := by
    intro b hb
    cases b <;> first | rfl | exact absurd (by decide) hb
  have judged := planned.then (ds := [.fPlan, .excursion, .ports, .faults]) (State.judgeExcursion_within _) (by decide)
  have reviewed := judged.then (ds := [.fPlan, .excursion, .ports, .faults, .calendar, .retirement, .channels])
    (State.review_chan _ true (fun _ => true) (fun e => e.cutOff = second)).within (by decide)
  have dropped := reviewed.then (ds := [.fPlan, .excursion, .ports, .faults, .calendar, .retirement, .channels, .groups])
    (State.dropField_within _ (· = second)) (by decide)
  exact dropped.then (State.retireSince_within _ s) (by decide)

theorem State.stepClock_within (s : State) (second : Nat) :
    Within [.ports, .calendar, .retirement, .channels, .groups] s (s.stepClock second) := by
  have flagged : Within [.calendar] s
      { s with
        calendar := s.calendar.map (fun (e : Entry) => { e with timeStepped := e.timeStepped || e.sequence.isSome }) } := by
    intro b hb
    cases b <;> first | rfl | exact absurd (by decide) hb
  have reviewed := flagged.then (ds := [.ports, .calendar, .retirement, .channels])
    (State.review_chan _ false (fun _ => true) (fun e => e.cutOff ≤ second)).within (by decide)
  have dropped := reviewed.then (ds := [.ports, .calendar, .retirement, .channels, .groups])
    (State.dropField_within _ (· ≤ second)) (by decide)
  exact dropped.then (State.retireSince_within _ s) (by decide)

theorem State.parameterEffects_within (s : State) (q : Parameter) :
    Within [.ports, .calendar, .retirement, .levels] s (s.parameterEffects q) := by
  have level (ph : Phase) (f : LevelRec → LevelRec) :
      Within [.ports, .calendar, .retirement, .levels] s (s.modLevel ph f) := by
    intro b hb
    cases b <;> first | rfl | exact absurd (by decide) hb
  cases q <;>
    first
    | exact (State.recomputeAll_cal s).within.mono (by decide)
    | exact level _ _
    | exact Within.refl _ s

theorem State.settings_within (s : State) (v : Settings) : Within [.settings] s { s with settings := v } := by
  intro b hb
  cases b <;> first | rfl | exact absurd (by decide) hb

theorem State.startSave_within (s : State) (p : Port) (tag : Byte) (v : Snapshot) :
    Within [.store] s (s.startSave p tag v) := by
  intro b hb
  cases b <;> first | rfl | exact absurd (by decide) hb

theorem State.withdrawRelay_within (s : State) (i : Nat) : Within [.ports, .roster] s (s.withdrawRelay i) :=
  (s.roster_within _).then (State.noticeLost_ports _ _ _).within (by decide)

theorem State.modUnit_within (s : State) (i : Nat) (f : UnitRec → UnitRec) : Within [.roster] s (s.modUnit i f) := by
  intro b hb
  cases b <;> first | rfl | exact absurd (by decide) hb

/-- The recomputation of groups changes neither the roster nor the levels. -/
theorem State.recomputeGroups_within (s : State) (gs : List Nat) :
    Within [.ports, .calendar, .retirement, .groups] s (s.recomputeGroups gs) := by
  obtain ⟨roster, levels⟩ := s.recomputeGroups_keeps gs
  intro b hb
  cases b with
  | roster => exact roster
  | levels => exact levels
  | _ => exact (State.recomputeGroups_roster s gs).within _ (by first | decide | exact absurd (by decide) hb)

theorem State.editUnit_within (s : State) (i : Nat) (u v : UnitRec) :
    Within [.ports, .calendar, .retirement, .groups, .roster] s (s.editUnit i u v) := by
  have written : Within [.ports, .roster] s
      (if u.withdrawn v then (s.modUnit i (fun _ => v)).withdrawRelay i else s.modUnit i (fun _ => v)) := by
    split
    · exact (s.modUnit_within i _).then (ds := [.ports, .roster]) (State.withdrawRelay_within _ i) (by decide)
    · exact (s.modUnit_within i _).mono (by decide)
  unfold State.editUnit
  dsimp only
  generalize (if u.withdrawn v then (s.modUnit i (fun _ => v)).withdrawRelay i else s.modUnit i (fun _ => v)) = w
    at written ⊢
  have recomputed (gs : List Nat) : Within [.ports, .calendar, .retirement, .groups, .roster] s
      (w.recomputeGroups gs) := written.then (State.recomputeGroups_within w gs) (by decide)
  split
  · exact written.mono (by decide)
  · exact (recomputed _).then (State.retireSince_within _ s) (by decide)

theorem State.retireUnit_within (s : State) (i : Nat) (u : UnitRec) :
    Within [.ports, .calendar, .retirement, .groups, .roster] s (s.retireUnit i u) := by
  unfold State.retireUnit
  dsimp only
  exact (((s.roster_within _).then (ds := [.ports, .roster]) (State.withdrawRelay_within _ i) (by decide)).then
    (ds := [.ports, .calendar, .retirement, .groups, .roster])
    (State.recomputeGroups_within _ _) (by decide)).then (State.retireSince_within _ s) (by decide)

theorem State.record_within (s : State) (i : Nat) (u : UnitRec) :
    Within [.ports, .calendar, .retirement, .groups, .roster] s (s.record i u) :=
  ((s.roster_within _).then (ds := [.ports, .calendar, .retirement, .groups, .roster])
    (State.recomputeGroups_within _ _) (by decide)).then (State.retireSince_within _ s) (by decide)

theorem State.startUp_within (s : State) (a b : Bool) (faults : FaultRec) :
    Within startBlocks s (s.startUp a b faults) := by
  have starting : Within startBlocks s (s.starting (s.store.atStart a b) faults) := by
    intro b hb
    cases b <;> first | rfl | exact absurd (by decide) hb
  have loadSettings (t : State) : Within [.settings, .store, .ports, .faults] t t.loadSettings := by
    unfold State.loadSettings
    split
    · intro b hb
      cases b <;> first | rfl | exact absurd (by decide) hb
    · exact (t.settings_within _).then (State.post_fault _ _).within (by decide)
  have loadRoster (t : State) : Within [.roster, .groups, .store, .ports, .faults] t t.loadRoster := by
    unfold State.loadRoster
    split
    · dsimp only
      have loaded (r : Roster) (g : List GroupRec) (w : Store) :
          Within [.roster, .groups, .store] t { t with roster := r, groups := g, store := w } := by
        intro b hb
        cases b <;> first | rfl | exact absurd (by decide) hb
      split
      · exact (loaded _ _ _).then (State.post_fault _ _).within (by decide)
      · exact (loaded _ _ _).mono (by decide)
    · exact (State.post_fault t _).within.mono (by decide)
  have figureAll (t : State) : Within [.groups] t t.figureAll := by
    refine foldl_frame (Within [.groups]) (Within.refl _) Within.trans _ (fun u g => ?_) _ t
    intro b hb
    cases b <;> first | rfl | exact absurd (by decide) hb
  have applySettings (t : State) : Within [.fPlan, .levels] t t.applySettings := by
    intro b hb
    cases b <;> first | rfl | exact absurd (by decide) hb
  exact starting.then ((loadSettings _).then ((loadRoster _).then ((figureAll _).then (applySettings _)
    (List.Subset.refl _)) (List.Subset.refl _)) (List.Subset.refl _)) (by decide)

theorem State.line_within (s : State) (l : LineState) : Within [.line] s { s with line := l } := by
  intro b hb
  cases b <;> first | rfl | exact absurd (by decide) hb

theorem State.releaseHold_within (s : State) (p : Port) : Within [.line, .hold] s (s.releaseHold p) := by
  intro b hb
  cases b <;> first | rfl | exact absurd (by decide) hb

theorem State.reacquireAll_within (s : State) : Within [.levels] s s.reacquireAll := by
  intro b hb
  cases b <;> first | rfl | exact absurd (by decide) hb

theorem State.modSurvey_within (s : State) (ph : Phase) (f : Survey → Survey) :
    Within [.surveys] s (s.modSurvey ph f) := by
  intro b hb
  cases b <;> first | rfl | exact absurd (by decide) hb

theorem State.completeQueued_within (s : State) (ph : Phase) (r : PingResult) :
    Within [.ports, .pings] s (s.completeQueued ph r) := by
  unfold State.completeQueued
  split
  · rename_i q _
    obtain h | h | ⟨i, -, h⟩ := State.offerHeld_cases (s.modPings ph (setOldestQueued (.held r))) q.origin (.ping ph) <;>
      rw [h] <;> (intro b hb; cases b <;> first | rfl | exact absurd (by decide) hb)
  · exact Within.refl _ s

theorem State.endWrite_within (s : State) (v : Save) (ok : Bool) :
    Within [.store, .ports, .faults] s (s.endWrite v ok) := by
  have written : Within [.store, .ports, .faults] s
      (if ok then { s with store := s.store.written v ok }
       else ({ s with store := s.store.written v ok } : State).post (.storeWrite v.snapshot.image)) := by
    have stored : Within [.store] s { s with store := s.store.written v ok } := by
      intro b hb
      cases b <;> first | rfl | exact absurd (by decide) hb
    split
    · exact stored.mono (by decide)
    · exact stored.then (State.post_fault _ _).within (by decide)
  unfold State.endWrite
  dsimp only
  refine written.then (cs := [.store, .ports]) ?_ (by decide)
  generalize (if ok then _ else _ : State) = w
  obtain h | h | ⟨i, -, h⟩ := w.offerHeld_cases v.origin .storeDone <;> rw [h] <;>
    (intro b hb; cases b <;> first | rfl | exact absurd (by decide) hb)

/-! ### Every command -/

/-- The transfers of a port that can serve its waiting work. -/
def serves : Instr → Bool
  | .commandTransfer .. | .fetchTransfer .. => true
  | _ => false

/-- A port's waiting work carries out a command that is no transfer, or nothing. -/
theorem State.carryOut_or (s : State) (c : Instr) :
    (serves c = false ∧ s.carryOut c = exec c s) ∨ s.carryOut c = .next s := by
  cases c <;> first | exact .inl ⟨rfl, rfl⟩ | exact .inr rfl

theorem exec_within_of_not_serves {c : Instr} {s t : State} (plain : serves c = false) (run : exec c s = .next t) :
    Within (touches c) s t := by
  cases c <;> dsimp only [touches]
  case commandTransfer | fetchTransfer => cases plain
  case powerOn a b => cases run; exact s.startUp_within a b _
  case pinReset a b => cases run; exact s.startUp_within a b _
  case ignoredTransfer p k n =>
    cases run
    split
    · intro b hb
      cases b <;> first | rfl | exact absurd (by decide) hb
    · exact Within.refl _ s
  case selectAsserted p l =>
    cases run
    split
    · exact Within.refl _ s
    · exact (s.modPort_ports p _).within
  case frameRefused p =>
    cases run
    split
    · split
      · exact (PortsFrame.within (s := s) (t := s.popFrame p) rfl).trans (State.reply_within _ p _ _ _ _)
      · exact Within.refl _ s
    · exact Within.refl _ s
  case heldNoticeQueued p =>
    cases run
    split
    · split
      · exact (s.modPort_ports p _).within.then (State.queueHeld_within _ p _) (by decide)
      · exact Within.refl _ s
    · exact Within.refl _ s
  case submit p tag a =>
    refine Within.of_taken run (by decide) fun u => ?_
    split
    · exact (u.reply_within p _ _ _ _).mono (by decide)
    · rw [u.admit_cal]
      intro b hb
      cases b <;> first | rfl | exact absurd (by decide) hb
    · exact (u.reply_within p _ _ _ _).mono (by decide)
  case cancel p tag h =>
    refine Within.of_taken run (by decide) fun u => ?_
    split
    · exact (u.reply_within p _ _ _ _).mono (by decide)
    · split
      · exact (u.reply_within p _ _ _ _).mono (by decide)
      · exact (u.reply_within p _ _ _ _).then (State.cancelEntry_chan _ _).within (by decide)
  case runLine p tag =>
    refine Within.of_taken run (by decide) fun u => ?_
    split_ifs
    · exact (u.reply_within p _ _ _ _).mono (by decide)
    · exact (u.reply_within p _ _ _ _).mono (by decide)
    · exact ((u.reply_within p _ _ _ _).then (ds := [.ports, .line]) (State.line_within _ _) (by decide)).then
        (State.noteLine_ports _ _ _).within (by decide)
    · exact ((u.reply_within p _ _ _ _).then (ds := [.ports, .line]) (State.line_within _ _) (by decide)).then
        (State.noteLine_ports _ _ _).within (by decide)
  case holdLine p tag =>
    refine Within.of_taken run (by decide) fun u => ?_
    split
    · exact (u.reply_within p _ _ _ _).mono (by decide)
    · exact ((u.reply_within p _ _ _ _).then (ds := [.ports, .line, .hold, .channels]) (State.addHold_within _ p)
        (by decide)).then (State.noteLine_ports _ _ _).within (by decide)
  case releaseLine p tag =>
    refine Within.of_taken run (by decide) fun u => ?_
    split
    · exact ((u.reply_within p _ _ _ _).then (ds := [.ports, .line, .hold]) (State.releaseHold_within _ p)
        (by decide)).then (State.noteLine_ports _ _ _).within (by decide)
    · exact (u.reply_within p _ _ _ _).mono (by decide)
  case applyProfile p tag q =>
    refine Within.of_taken run (by decide) fun u => ?_
    split
    · exact (u.reply_within p _ _ _ _).mono (by decide)
    · split
      · exact ((((u.reply_within p _ _ _ _).then (ds := [.ports, .settings]) (State.settings_within _ _) (by decide)).then
          (ds := [.ports, .settings, .levels]) (State.reacquireAll_within _) (by decide)).then
          (ds := [.ports, .settings, .levels, .calendar, .retirement]) (State.recomputeAll_cal _).within
          (by decide)).then (State.retireSince_within _ u) (by decide)
      · exact (u.reply_within p _ _ _ _).mono (by decide)
  case setParameter p tag a =>
    refine Within.of_taken run (by decide) fun u => ?_
    split
    · exact (u.reply_within p _ _ _ _).mono (by decide)
    · split
      · exact (((u.reply_within p _ _ _ _).then (ds := [.ports, .settings]) (State.settings_within _ _) (by decide)).then
          (ds := [.ports, .settings, .levels, .calendar, .retirement]) (State.parameterEffects_within _ _)
          (by decide)).then (State.retireSince_within _ u) (by decide)
      · exact (u.reply_within p _ _ _ _).mono (by decide)
  case setGroupPermit p tag g q =>
    refine Within.of_taken run (by decide) fun u => ?_
    split
    · exact (u.reply_within p _ _ _ _).mono (by decide)
    · split
      · split
        · exact (u.reply_within p _ _ _ _).mono (by decide)
        · exact (u.reply_within p _ _ _ _).then (State.settings_within _ _) (by decide)
      · exact (u.reply_within p _ _ _ _).mono (by decide)
  case setQuota p tag l qa qb =>
    refine Within.of_taken run (by decide) fun u => ?_
    split
    · exact (u.reply_within p _ _ _ _).mono (by decide)
    · split
      · exact (u.reply_within p _ _ _ _).mono (by decide)
      · split
        · exact (u.reply_within p _ _ _ _).mono (by decide)
        · exact ((u.reply_within p _ _ _ _).then (ds := [.ports, .settings]) (State.settings_within _ _)
            (by decide)).then (State.startSave_within _ p tag _) (by decide)
  case addUnit p tag a =>
    refine Within.of_taken run (by decide) fun u => ?_
    split
    · exact (u.reply_within p _ _ _ _).mono (by decide)
    · exact (u.reply_within p _ _ _ _).then (State.record_within _ _ _) (by decide)
  case editUnit p tag a =>
    refine Within.of_taken run (by decide) fun u => ?_
    split
    · exact (u.reply_within p _ _ _ _).mono (by decide)
    · exact (u.reply_within p _ _ _ _).then (State.editUnit_within _ _ _ _) (by decide)
  case retireUnit p tag i =>
    refine Within.of_taken run (by decide) fun u => ?_
    split
    · exact (u.reply_within p _ _ _ _).mono (by decide)
    · split
      · exact (u.reply_within p _ _ _ _).mono (by decide)
      · exact (u.reply_within p _ _ _ _).then (State.retireUnit_within _ _ _) (by decide)
  case readNext p tag r =>
    refine Within.of_taken run (by decide) fun u => ?_
    intro b hb
    cases b <;> first | rfl | exact absurd (by decide) hb
  case pingUnit p tag i r =>
    refine Within.of_taken run (by decide) fun u => ?_
    split
    · exact (u.reply_within p _ _ _ _).mono (by decide)
    · have joined (ph : Phase) (f : List PingRec → List PingRec) (x : List Byte) : Within [.ports, .pings] u
          ((u.reply p 0x12 tag .ok x).modPings ph f) := by
        intro b hb
        cases b <;> first | rfl | exact absurd (by decide) hb
      dsimp only
      split
      · exact (joined _ _ _).then (State.completeQueued_within _ _ _) (by decide)
      · exact joined _ _ _
  case startDiscovery p tag | stopDiscovery p tag =>
    refine Within.of_taken run (by decide) fun u => ?_
    intro b hb
    cases b <;> first | rfl | exact absurd (by decide) hb
  case setTestMask p tag ch m =>
    refine Within.of_taken run (by decide) fun u => ?_
    split
    · intro b hb
      cases b <;> first | rfl | exact absurd (by decide) hb
    · exact (u.reply_within p _ _ _ _).mono (by decide)
  case setTime p tag sec ms =>
    refine Within.of_taken run (by decide) fun u => ?_
    split
    · exact (u.reply_within p _ _ _ _).mono (by decide)
    · have stood (x : List Byte) (k : Clock) : Within [.ports, .clock] u
          { u.reply p 0x19 tag .ok x with clock := k } := by
        intro b hb
        cases b <;> first | rfl | exact absurd (by decide) hb
      exact (stood _ _).then (State.stepClock_within _ _) (by decide)
  case saveSettings p tag | saveRoster p tag =>
    refine Within.of_taken run (by decide) fun u => ?_
    split
    · exact (u.reply_within p _ _ _ _).mono (by decide)
    · exact (u.reply_within p _ _ _ _).then (State.startSave_within _ p tag _) (by decide)
  case writeSystemCode p tag code =>
    refine Within.of_taken run (by decide) fun u => ?_
    split_ifs
    · exact (u.reply_within p _ _ _ _).mono (by decide)
    · exact (u.reply_within p _ _ _ _).mono (by decide)
    · intro b hb
      cases b <;> first | rfl | exact absurd (by decide) hb
  case clearFaults p tag g k =>
    refine Within.of_taken run (by decide) fun u => ?_
    split
    · exact (u.reply_within p _ _ _ _).mono (by decide)
    · intro b hb
      cases b <;> first | rfl | exact absurd (by decide) hb
  case startSurvey p tag ch n =>
    refine Within.of_taken run (by decide) fun u => ?_
    split
    · exact (u.reply_within p _ _ _ _).mono (by decide)
    · split
      · exact (u.reply_within p _ _ _ _).mono (by decide)
      · exact ((u.reply_within p _ _ _ _).then (ds := [.ports, .surveys]) (State.abandonSurvey_within _ _)
          (by decide)).then (State.modSurvey_within _ _ _) (by decide)
  case resetPort p tag =>
    refine Within.of_taken run (by decide) fun u => ?_
    have reset : Within [.ports, .calendar, .retirement, .channels, .pings, .readCursors, .store, .surveys] u
        (((u.modPort p PortRec.reset).resetOwned p).reply p 0x25 tag .ok []) := by
      intro b hb
      cases b <;> first | rfl | exact absurd (by decide) hb
    exact (reset.then
      (ds := [.ports, .calendar, .retirement, .channels, .pings, .readCursors, .store, .surveys, .hold, .line])
      (State.releaseHold_within _ p) (by decide)).then (State.noteLine_ports _ _ _).within (by decide)
  case zeroCrossing ph us n b =>
    cases run
    exact (s.reportCrossing_within ph _ n b).then (State.retireSince_within _ s) (by decide)
  case phaseLoss ph =>
    cases run
    split
    · exact (s.losePhase_within ph).then (State.retireSince_within _ s) (by decide)
    · exact Within.refl _ s
  case secondBoundary =>
    cases run
    split
    · exact Within.refl _ s
    · have stood : Within [.elapsed, .clock] s s.toNextSecond := by
        intro b hb
        cases b <;> first | rfl | exact absurd (by decide) hb
      exact stood.then (State.crossSecond_within _ _) (by decide)
  case esReached h ph =>
    cases run
    split
    · exact (((s.rereadPart_cal h ph).trans (State.settleEntry_cal _ _)).trans (State.retireSince_cal _ s)).within
    · exact Within.refl _ s
  case lsReached h ph =>
    cases run
    split
    · split
      · exact ((s.cutShortGroup_cal _).trans (State.retireSince_cal _ s)).within
      · exact Within.refl _ s
    · exact Within.refl _ s
  case floodEnd ph =>
    cases run
    split
    · rename_i f work
      split
      · exact (s.endFlood_within ph f work).then (State.retireSince_within _ s) (by decide)
      · exact Within.refl _ s
    · exact Within.refl _ s
  case repeatGapEnd ph =>
    cases run
    split
    · exact (s.endGap_within ph _).then (State.retireSince_within _ s) (by decide)
    · exact Within.refl _ s
  case outboundSpanEnd ph =>
    cases run
    split
    · split
      · exact s.modChan_within ph _
      · exact Within.refl _ s
    · exact Within.refl _ s
  case replyReceived ph x =>
    cases run
    split
    · split
      · exact (s.endExchange_within ph _ _).then (State.retireSince_within _ s) (by decide)
      · exact Within.refl _ s
    · exact Within.refl _ s
  case silencePoint ph =>
    cases run
    split
    · split
      · exact (s.endExchange_within ph _ _).then (State.retireSince_within _ s) (by decide)
      · exact Within.refl _ s
    · exact Within.refl _ s
  case probeWindowEnd ph x =>
    cases run
    split
    · split
      · exact (s.endWindow_within ph _ _ _).then (State.retireSince_within _ s) (by decide)
      · exact Within.refl _ s
    · exact Within.refl _ s
  case restEnd ph =>
    cases run
    split
    · exact s.modDisc_within ph _
    · exact Within.refl _ s
  case eraseEnd =>
    cases run
    split
    · intro b hb
      cases b <;> first | rfl | exact absurd (by decide) hb
    · exact Within.refl _ s
  case writeEnd ok =>
    cases run
    split
    · split
      · exact s.endWrite_within _ ok
      · exact Within.refl _ s
    · exact Within.refl _ s
  all_goals
    refine Within.of_taken run (by decide) fun u => ?_
    first
    | exact u.reply_within _ _ _ _ _
    | (split <;> first | exact u.reply_within _ _ _ _ _ | (split <;> exact u.reply_within _ _ _ _ _))

/-! ### The transfers -/

theorem State.portDue_cases {s t : State} {p : Port} {c : Instr} (h : s.portDue p = some (c, t)) :
    ((c = .heldNoticeQueued p ∧ s.heldDue p = true) ∨ s.frameDue p = some c) ∧ (t = s ∨ t = { s with freeCount := s.freeCount + 1 }) := by
  unfold State.portDue at h
  split at h
  · split at h
    · rename_i held
      cases h
      exact ⟨.inl ⟨rfl, held⟩, .inl rfl⟩
    · cases h
  · rename_i i due
    split at h
    · rename_i held
      cases h
      refine ⟨?_, .inr rfl⟩
      split
      · exact .inr due
      · exact .inl ⟨rfl, held⟩
    · cases h
      exact ⟨.inr due, .inl rfl⟩

/-- The commands that start the block up (R185). -/
def restarts : Instr → Bool
  | .powerOn _ _ => true
  | .pinReset _ _ => true
  | _ => false

/-- No frame of a port starts the block up. -/
theorem State.portDue_runs {s t : State} {p : Port} {c : Instr} (h : s.portDue p = some (c, t)) : restarts c = false := by
  obtain ⟨⟨rfl, -⟩ | due, -⟩ := State.portDue_cases h
  · rfl
  · unfold State.frameDue at due
    split at due
    · cases due
    · rename_i i reading
      split at due
      · cases due
        unfold State.headReading at reading
        split at reading
        · cases reading
        · obtain ⟨k, tag, x, client⟩ := client_of_readFrame (Option.some.inj reading)
          cases c <;> first | rfl | cases client
      · cases due
    · split at due <;> cases due
      rfl

/-- A property kept by every command that is neither a transfer nor a start-up, and that reads no count of free values, is
kept by a port's waiting work. -/
theorem State.servePort_keeps {J : State → Prop} {p : Port} (drawn : ∀ s n, J s → J { s with freeCount := n })
    (command : ∀ c s t, serves c = false → restarts c = false → exec c s = .next t → J s → J t) :
    ∀ (n : Nat) (s : State), J s → J (State.servePort n p s)
  | 0, _, hs => hs
  | n + 1, s, hs => by
      unfold State.servePort
      split
      · rename_i i t due
        have ht : J t := by
          obtain ⟨-, rfl | rfl⟩ := State.portDue_cases due
          · exact hs
          · exact drawn s _ hs
        split
        · rename_i u run
          refine State.servePort_keeps drawn command n u ?_
          obtain ⟨plain, h⟩ | h := t.carryOut_or i <;> rw [h] at run
          · exact command i t u plain (State.portDue_runs due) run ht
          · cases run; exact ht
        · exact ht
      · exact hs

/-- What the transfers of a port keep: a property that reads neither the ports, nor the Fault Record, nor the count of
free values, and that every other command but a start-up keeps. -/
theorem exec_keeps_of_serves {J : State → Prop} {c : Instr} {s t : State}
    (blind : ∀ {s t}, Within [.ports, .freeCount, .faults] s t → J s → J t)
    (command : ∀ c s t, serves c = false → restarts c = false → exec c s = .next t → J s → J t)
    (run : exec c s = .next t) (hs : J s) (transfer : serves c = true) : J t := by
  have port (s : State) (p : Port) (f : PortRec → PortRec) : J s → J (s.modPort p f) :=
    blind ((s.modPort_ports p f).within.mono (by decide))
  have drawn (s : State) (n : Nat) : J s → J { s with freeCount := n } :=
    blind (by intro b hb; cases b <;> first | rfl | exact absurd (by decide) hb)
  have served (s : State) (p : Port) : J s → J (s.tryWaiting p) := State.servePort_keeps drawn command _ s
  cases c with
  | commandTransfer p bytes =>
      cases run
      split
      · dsimp only
        split
        · exact port s p _ hs
        · unfold State.arrive
          split
          · exact served _ p (port _ p _ (port s p _ hs))
          · exact blind ((State.post_fault _ _).within.mono (by decide)) (port _ p _ (port s p _ hs))
      · exact hs
  | fetchTransfer p n =>
      cases run
      split
      · dsimp only
        split
        · exact served _ p (port _ p _ (port s p _ hs))
        · exact port s p _ hs
      · exact hs
  | _ => cases transfer

/-- The event due inside the block is due in the state as it stands, or with a free value drawn. -/
theorem State.eventDue_state {s t : State} {c : Instr} (h : s.eventDue = some (c, t)) :
    t = s ∨ t = { s with freeCount := s.freeCount + 1 } := by
  unfold State.eventDue at h
  cases ha : s.portDue .A with
  | some x =>
      rw [ha] at h
      cases h
      exact (State.portDue_cases ha).2
  | none =>
      cases hb : s.portDue .B with
      | some x =>
          rw [ha, hb] at h
          cases h
          exact (State.portDue_cases hb).2
      | none =>
          rw [ha, hb, Option.none_or, Option.none_or] at h
          obtain ⟨i, -, hi⟩ := Option.map_eq_some_iff.mp h
          cases hi
          exact .inl rfl

/-- A property that reads some blocks, the ports, the Fault Record, the clock and the model's own counts not among them, is
kept by every step once it is kept by the commands that touch one of these blocks. -/
theorem step_keeps {J : State → Prop} (reads : List Block) {s t : State}
    (apart : ∀ b ∈ [Block.pending, .ports, .freeCount, .faults, .elapsed, .clock], b ∉ reads)
    (blind : ∀ {s t}, (∀ b ∈ reads, b.same s t) → J s → J t)
    (command : ∀ c s t, serves c = false → (touches c).any reads.contains = true → exec c s = .next t → J s → J t)
    (hs : J s) (run : step s = .next t) : J t := by
  have within {bs : List Block} {s t : State} (h : Within bs s t) (hb : ∀ b ∈ bs, b ∉ reads) : J s → J t :=
    blind fun b hr => h b (fun hm => hb b hm hr)
  have plain (c : Instr) (s t : State) (hc : serves c = false) (run : exec c s = .next t) (hs : J s) : J t := by
    by_cases touched : (touches c).any reads.contains = true
    · exact command c s t hc touched run hs
    · refine within (exec_within_of_not_serves hc run) (fun b hb hr => touched ?_) hs
      exact List.any_eq_true.mpr ⟨b, hb, by simpa using hr⟩
  have every (c : Instr) (s t : State) (run : exec c s = .next t) (hs : J s) : J t := by
    by_cases hc : serves c = true
    · refine exec_keeps_of_serves (fun h => within h fun b hb => apart b ?_) (fun c s t hc _ => plain c s t hc) run hs hc
      exact (by decide : [Block.ports, .freeCount, .faults] ⊆ [.pending, .ports, .freeCount, .faults, .elapsed, .clock]) hb
    · exact plain c s t (by simpa using hc) run hs
  unfold step at run
  split at run
  · refine every _ _ t run (within (bs := [.pending]) ?_ (fun b hb => apart b ?_) hs)
    · intro b hb
      cases b <;> first | rfl | exact absurd (by decide) hb
    · exact (by decide : [Block.pending] ⊆ [.pending, .ports, .freeCount, .faults, .elapsed, .clock]) hb
  · split at run
    · rename_i c u due
      refine every c u t run ?_
      obtain rfl | rfl := State.eventDue_state due
      · exact hs
      · refine within (bs := [.freeCount]) ?_ (fun b hb => apart b ?_) hs
        · intro b hb
          cases b <;> first | rfl | exact absurd (by decide) hb
        · exact (by decide : [Block.freeCount] ⊆ [.pending, .ports, .freeCount, .faults, .elapsed, .clock]) hb
    · cases run
      refine within (bs := [.elapsed, .clock]) ?_ (fun b hb => apart b ?_) hs
      · intro b hb
        cases b <;> first | rfl | exact absurd (by decide) hb
      · exact (by decide : [Block.elapsed, .clock] ⊆ [.pending, .ports, .freeCount, .faults, .elapsed, .clock]) hb

end Sys2Proof.Machine
end

section
/-! PROOFS. The block right after reset, and what only one command can change: the identity area (R186). -/

namespace Sys2Proof.Machine

/-! ### Reset -/

theorem State.reset_queues : PortsTried State.reset :=
  ⟨by decide, ⟨.inl rfl, .inl rfl⟩, .inl rfl, .inl rfl⟩

theorem State.reset_settings : SettingsInRange State.reset := ⟨by decide, trivial, trivial⟩

theorem State.reset_levels : LevelsInRange State.reset := ⟨State.reset_settings, by decide⟩

theorem State.reset_fPlan : PlanFrequencyInRange State.reset := ⟨State.reset_settings, by decide⟩

theorem State.reset_roster : RosterLawful State.reset := ⟨by decide, ⟨trivial, trivial⟩, by decide⟩

theorem State.reset_figures : FiguresCurrent State.reset := by
  refine ⟨State.reset_roster, by decide, fun g below => ?_⟩
  have group : State.reset.group g = GroupRec.fresh := List.getD_replicate _ below
  rw [group]
  rfl

theorem State.reset_plans : PlansCurrent State.reset := fun _ he => absurd he List.not_mem_nil

/-- A channel after start-up owns nothing. -/
theorem Channel.fresh_owns (s : State) (ph : Phase) : Channel.fresh.owns s ph :=
  ⟨fun _ h => absurd h (by simp [Channel.fresh]), fun _ h => absurd h (by simp [Channel.fresh]), trivial⟩

theorem State.reset_calendar : CalendarCoherent State.reset :=
  ⟨by decide, fun _ he => absurd he List.not_mem_nil, Channel.fresh_owns _ .L1, Channel.fresh_owns _ .L2,
    Channel.fresh_owns _ .L3⟩

theorem State.reset_outcomes : OutcomesRecorded State.reset := by
  refine ⟨State.reset_calendar, fun ph h flying => ?_, fun _ he => absurd he List.not_mem_nil⟩
  cases ph <;> cases flying

theorem State.reset_work : WorkBounded State.reset := by
  have disc : Discovery.fresh.bounded none := ⟨by decide, by decide⟩
  exact ⟨by decide, by decide, by decide, by decide, disc, disc, disc⟩

/-- Settles O60: the reset state has an empty calendar, an empty roster, idle channels and the factory settings. -/
theorem resetMeetsTheInvariants : Obligations.ResetMeetsTheInvariants :=
  ⟨⟨State.reset_queues.1, State.reset_queues⟩, ⟨State.reset_settings, State.reset_levels, State.reset_fPlan⟩, by decide,
    ⟨State.reset_roster, State.reset_figures, State.reset_plans⟩,
    ⟨⟨State.reset_calendar, fun _ he => absurd he List.not_mem_nil⟩, State.reset_outcomes⟩, by decide, State.reset_work⟩

/-! ### The identity area (R186) -/

/-- What a state keeps of an identity area: its serial, its revision, and its code once written. -/
def KeepsIdentity (i : Identity) (s : State) : Prop :=
  (i.code ≠ 0xFFFF → s.identity.code = i.code) ∧ s.identity.serial = i.serial ∧ s.identity.revision = i.revision

theorem execWriteSystemCode_keepsIdentity {i : Identity} {p : Port} {tag : Byte} {code : Word16} {s t : State}
    (run : exec (.writeSystemCode p tag code) s = .next t) (hs : KeepsIdentity i s) : KeepsIdentity i t := by
  obtain ⟨-, rfl⟩ | ⟨-, rfl⟩ := whenTaken_cases run
  · split_ifs with unset locked
    · exact hs
    · exact hs
    · refine ⟨fun written => absurd (hs.1 written) ?_, hs.2⟩
      have blank : s.identity.code = 0xFFFF := not_not.mp locked
      rw [blank]
      exact fun h => written h.symm
  · exact hs

/-- Settles O25: only WRITE SYSTEM CODE touches the identity area, and it refuses a part that has its code. -/
theorem systemCodeIsWrittenOnceAndPermanent : Obligations.SystemCodeIsWrittenOnceAndPermanent := by
  refine ⟨fun s t run => ?_, fun p tag code s h => ⟨fun unset => ?_, fun given written => ?_, fun given blank => ?_⟩⟩
  · refine step_keeps (J := KeepsIdentity s.identity) [.identity] (by decide) ?_ ?_ ⟨fun _ => rfl, rfl, rfl⟩ run
    · intro s t same hs
      have identity : t.identity = s.identity := same .identity (by decide)
      simpa only [KeepsIdentity, identity] using hs
    · intro c s t _ touched run
      cases c with
      | writeSystemCode => exact execWriteSystemCode_keepsIdentity run
      | _ => cases touched
  · exact (exec_of_takes h rfl).trans (congrArg _ (if_pos unset))
  · exact (exec_of_takes h rfl).trans (congrArg _ ((if_neg given).trans (if_pos written)))
  · exact (exec_of_takes h rfl).trans (congrArg _ ((if_neg given).trans (if_neg (not_not.mpr blank))))

end Sys2Proof.Machine
end

section
/-! PROOFS. What an event does to the ports (R167 to R172): their FIFOs stay, their out-queues grow by items that find
room, and their held-notice lists grow where a notice finds none. -/

namespace Sys2Proof.Machine

/-! ### A port that grows -/

/-- The port has the same FIFO; behind its items stand new ones, which have the property `P` and keep the bounds of R169;
and behind its held notices stand more, but only where an earlier one or a full out-queue is in their way (R172). -/
structure PortGrows (P : Item → Prop) (r r' : PortRec) : Prop where
  fifo : r'.fifo = r.fifo
  outq : ∃ new, r'.outq = r.outq ++ new ∧ (∀ i ∈ new, P i) ∧
    (new ≠ [] → r'.outq.length ≤ 16 ∧ noticeCount r'.outq ≤ 15)
  held : ∃ more, r'.held = r.held ++ more ∧ (more ≠ [] → r.held ≠ [] ∨ noticeRoom r'.outq = false)

/-- Both ports grow. -/
def Grows (P : Item → Prop) (s t : State) : Prop := ∀ p, PortGrows P (s.port p) (t.port p)

theorem noticeRoom_append {q new : List Item} (h : noticeRoom q = false) : noticeRoom (q ++ new) = false := by
  rw [noticeRoom_eq_false_iff] at h ⊢
  rw [List.length_append, noticeCount_append]
  omega

section
variable {P : Item → Prop} {r r' r'' : PortRec} {s t u : State}

theorem PortGrows.refl (r : PortRec) : PortGrows P r r :=
  ⟨rfl, ⟨[], by simp, by simp, fun h => absurd rfl h⟩, [], by simp, fun h => absurd rfl h⟩

theorem PortGrows.room (h : PortGrows P r r') (full : noticeRoom r.outq = false) : noticeRoom r'.outq = false := by
  obtain ⟨new, e, -, -⟩ := h.outq
  rw [e]
  exact noticeRoom_append full

theorem PortGrows.trans (h : PortGrows P r r') (k : PortGrows P r' r'') : PortGrows P r r'' := by
  refine ⟨k.fifo.trans h.fifo, ?_, ?_⟩
  · obtain ⟨new, e, hp, bound⟩ := h.outq
    obtain ⟨new', e', hp', bound'⟩ := k.outq
    refine ⟨new ++ new', by rw [e', e, List.append_assoc], ?_, fun grown => ?_⟩
    · intro i hi
      exact (List.mem_append.mp hi).elim (hp i) (hp' i)
    · by_cases none_new : new' = []
      · rw [none_new, List.append_nil] at e' grown
        rw [e']
        exact bound grown
      · exact bound' none_new
  · obtain ⟨more, e, full⟩ := h.held
    obtain ⟨more', e', full'⟩ := k.held
    refine ⟨more ++ more', by rw [e', e, List.append_assoc], fun grown => ?_⟩
    by_cases none_more : more = []
    · rw [none_more, List.append_nil] at e
      rw [none_more, List.nil_append] at grown
      rw [← e]
      exact full' grown
    · exact (full none_more).imp id k.room

theorem PortGrows.mono {Q : Item → Prop} (h : PortGrows P r r') (sub : ∀ i, P i → Q i) : PortGrows Q r r' := by
  obtain ⟨new, e, hp, bound⟩ := h.outq
  exact ⟨h.fifo, ⟨new, e, fun i hi => sub i (hp i hi), bound⟩, h.held⟩

/-- What is no part of the queues may change. -/
theorem PortGrows.of_queues (fifo : r'.fifo = r.fifo) (outq : r'.outq = r.outq) (held : r'.held = r.held) :
    PortGrows P r r' :=
  ⟨fifo, ⟨[], by simp [outq], by simp, fun h => absurd rfl h⟩, [], by simp [held], fun h => absurd rfl h⟩

/-- An item that finds room is queued. -/
theorem PortGrows.push {i : Item} (room : noticeRoom r.outq = true) (hp : P i) :
    PortGrows P r { r with outq := r.outq ++ [i] } := by
  obtain ⟨length, notices⟩ := (noticeRoom_iff _).mp room
  refine ⟨rfl, ⟨[i], rfl, by simpa using hp, fun _ => ⟨by simpa using length, ?_⟩⟩, [], by simp, fun h => absurd rfl h⟩
  have one : noticeCount [i] ≤ 1 := by cases i <;> simp
  dsimp only
  rw [noticeCount_append]
  omega

/-- A notice joins the list behind earlier ones, or where it finds no room. -/
theorem PortGrows.hold {o : HeldOwner} (blocked : r.held ≠ [] ∨ noticeRoom r.outq = false) :
    PortGrows P r { r with held := r.held ++ [o] } :=
  ⟨rfl, ⟨[], by simp, by simp, fun h => absurd rfl h⟩, [o], rfl, fun _ => blocked⟩

theorem Grows.refl (s : State) : Grows P s s := fun _ => PortGrows.refl _
theorem Grows.trans (h : Grows P s t) (k : Grows P t u) : Grows P s u := fun p => (h p).trans (k p)
theorem Grows.mono {Q : Item → Prop} (h : Grows P s t) (sub : ∀ i, P i → Q i) : Grows Q s t := fun p => (h p).mono sub

theorem Grows.of_ports (h : t.ports = s.ports) : Grows P s t := by
  intro p
  have same : t.port p = s.port p := by rw [State.port, h]; rfl
  rw [same]
  exact PortGrows.refl _

/-- What grows from a state with the same ports grows from this one. -/
theorem Grows.after (k : Grows P t u) (h : t.ports = s.ports) : Grows P s u := (Grows.of_ports h).trans k

/-- A change of one port. -/
theorem Grows.of_port {p : Port} {f : PortRec → PortRec} (h : PortGrows P (s.port p) (f (s.port p))) :
    Grows P s (s.modPort p f) := by
  intro q
  by_cases hq : q = p
  · subst hq
    rwa [State.port_modPort_self]
  · rw [s.port_modPort_ne f hq]
    exact PortGrows.refl _

theorem State.offer_grows (s : State) (p : Port) {i : Item} (hp : P i) : Grows P s (s.offer p i) := by
  obtain ⟨room, h⟩ | ⟨-, h⟩ := s.offer_cases p i <;> rw [h]
  · exact Grows.of_port (PortGrows.push room hp)
  · exact Grows.of_port (PortGrows.of_queues rfl rfl rfl)

theorem State.offerBoth_grows (s : State) {i : Item} (hp : P i) : Grows P s (s.offerBoth i) :=
  (s.offer_grows .A hp).trans (State.offer_grows _ .B hp)

theorem State.completeHeld_ports (s : State) (p : Port) (o : HeldOwner) : (s.completeHeld p o).ports = s.ports := by
  cases o <;> rfl

theorem State.offerHeld_grows (s : State) (p : Port) (o : HeldOwner) (hp : ∀ i, s.heldItem p o = some i → P i) :
    Grows P s (s.offerHeld p o) := by
  unfold State.offerHeld
  split
  · rename_i free
    obtain ⟨-, room⟩ := Bool.and_eq_true_iff.mp free
    unfold State.queueHeld
    split
    · rename_i i item
      exact (Grows.of_port (PortGrows.push room (hp i item))).trans (Grows.of_ports (State.completeHeld_ports _ p o))
    · exact Grows.refl s
  · rename_i blocked
    refine Grows.of_port (PortGrows.hold ?_)
    by_cases none_held : (s.port p).held = []
    · exact .inr (by simpa [none_held] using blocked)
    · exact .inl none_held

theorem State.post_grows (s : State) (f : FaultReport) (notice : ∀ k c, P (.notice k c)) : Grows P s (s.post f) := by
  unfold State.post
  exact Grows.after (State.offerBoth_grows _ (notice _ _)) rfl

/-- The calendar's operations queue notices alone. -/
theorem grows_calKeeps (notice : ∀ k c, P (.notice k c)) : FreeKeeps (Grows P) where
  refl := Grows.refl
  trans := Grows.trans
  offer s p k c := s.offer_grows p (notice k c)
  join s h := by
    unfold State.joinRetirement
    split
    · refine Grows.after (State.offerHeld_grows _ _ _ fun i item => ?_) rfl
      obtain ⟨x, -, rfl⟩ := Option.map_eq_some_iff.mp item
      exact notice _ _
    · exact Grows.refl s
  noteAny _ _ _ _ := Grows.of_ports rfl
  decideAny _ _ := Grows.of_ports rfl
  finishAny _ _ _ _ _ := Grows.of_ports rfl
  ready _ _ _ _ _ _ := Grows.of_ports rfl
  wait _ _ _ _ _ _ := Grows.of_ports rfl
  replan _ _ := Grows.of_ports rfl
  giveUp _ _ _ := Grows.of_ports rfl

theorem State.offerPing_grows (s : State) (p : Port) (ph : Phase) (notice : ∀ k c, P (.notice k c)) :
    Grows P s (s.offerHeld p (.ping ph)) := by
  refine State.offerHeld_grows s p _ fun i item => ?_
  obtain ⟨x, -, rfl⟩ := Option.map_eq_some_iff.mp item
  exact notice _ _

theorem State.completeQueued_grows (s : State) (ph : Phase) (r : PingResult) (notice : ∀ k c, P (.notice k c)) :
    Grows P s (s.completeQueued ph r) := by
  unfold State.completeQueued
  split
  · exact Grows.after (State.offerPing_grows _ _ ph notice) rfl
  · exact Grows.refl s

theorem State.completeInFlight_grows (s : State) (ph : Phase) (r : PingResult) (notice : ∀ k c, P (.notice k c)) :
    Grows P s (s.completeInFlight ph r) := by
  unfold State.completeInFlight
  split
  · split
    · exact Grows.of_ports rfl
    · exact Grows.after (State.offerPing_grows _ _ ph notice) rfl
  · exact Grows.refl s

theorem State.sendRepeat_ports (s : State) (h : Nat) (ph : Phase) : (s.sendRepeat h ph).ports = s.ports := by
  unfold State.sendRepeat
  split <;> rfl

theorem State.startPart_grows (s : State) (h : Nat) (ph : Phase) (notice : ∀ k c, P (.notice k c)) :
    Grows P s (s.startPart h ph) := by
  unfold State.startPart
  split
  · rename_i e _
    have begun : Grows P s (if e.sequence.isNone then s.beginSending e else s) := by
      split
      · exact Grows.after (State.offer_grows _ _ (notice _ _)) rfl
      · exact Grows.refl s
    exact begun.trans (Grows.of_ports (State.sendRepeat_ports _ h ph))
  · exact Grows.refl s

theorem State.advanceOrigin_ports (s : State) (ph : Phase) : (s.advanceOrigin ph).ports = s.ports := by
  unfold State.advanceOrigin
  dsimp only
  split <;> rfl

theorem Starts.grows {ph : Phase} {c : Choice} (h : Starts s ph c t) (notice : ∀ k c, P (.notice k c)) :
    Grows P s t := by
  cases h with
  | part h => exact s.startPart_grows h ph notice
  | resume h => exact Grows.of_ports (State.sendRepeat_ports _ h ph)
  | _ => exact Grows.of_ports rfl

theorem GoesOn.grows {ph : Phase} {c : Choice} (h : GoesOn s ph c t) (notice : ∀ k c, P (.notice k c)) :
    Grows P s t := by
  cases h with
  | notReached h => exact Grows.after ((grows_calKeeps notice).settleConfirm _ h) rfl
  | unconfirmed h => exact Grows.after ((grows_calKeeps notice).settleConfirm _ h) rfl
  | notSent => exact s.completeQueued_grows ph _ notice
  | origin => exact Grows.of_ports (State.advanceOrigin_ports _ ph)
  | _ => exact Grows.of_ports rfl

theorem State.offerSurvey_grows (s : State) (ph : Phase) (p : Port) (i : Item) :
    Grows (fun _ => True) s (s.offerSurvey ph p i) :=
  Grows.after (State.offerHeld_grows _ _ _ fun _ _ => trivial) rfl

theorem State.sampleSlot_grows (s : State) (ph : Phase) (noise : Int) :
    Grows (fun _ => True) s (s.sampleSlot ph noise) := by
  unfold State.sampleSlot
  dsimp only
  split
  · split
    · split
      · exact Grows.after (State.offerSurvey_grows _ ph _ _) rfl
      · exact Grows.of_ports rfl
    · exact Grows.of_ports rfl
  · exact Grows.refl s

end

/-- The work of the channels lets the ports grow. -/
theorem grows_workKeeps : WorkKeeps (Grows fun _ => True) where
  toFreeKeeps := grows_calKeeps fun _ _ => trivial
  post s f := s.post_grows f fun _ _ => trivial
  settleLine s := Grows.of_ports (by rw [s.settleLine_work])
  markQuiet _ _ := Grows.of_ports rfl
  clearWork _ _ := Grows.of_ports rfl
  halted _ _ := Grows.of_ports rfl
  silent s ph := s.completeQueued_grows ph _ fun _ _ => trivial
  unregister _ _ := Grows.of_ports rfl
  started _ _ _ _ _ h := (Starts.of_serve h).grows fun _ _ => trivial
  goOn _ _ _ _ _ h := (GoesOn.of_serve h).grows fun _ _ => trivial
  suspend _ _ _ := Grows.of_ports rfl
  send s h ph := Grows.of_ports (s.sendRepeat_ports h ph)
  floodOff _ _ := Grows.of_ports rfl
  sent _ _ _ _ _ _ := Grows.of_ports rfl
  closeOpen _ _ := Grows.of_ports rfl
  gap _ _ := Grows.of_ports rfl
  absent _ _ := Grows.of_ports rfl
  lost _ _ := Grows.of_ports rfl
  requeue s ph := Grows.of_ports (by unfold State.requeueInFlight; split <;> (try split) <;> rfl)
  relist _ _ _ _ _ := Grows.of_ports rfl
  restack _ _ := Grows.of_ports rfl
  sample s ph noise := s.sampleSlot_grows ph noise
  count _ _ _ := Grows.of_ports rfl
  inFlight s ph r := s.completeInFlight_grows ph r fun _ _ => trivial

/-! ### The events on the roster -/

section
variable {P : Item → Prop} (notice : ∀ k c, P (.notice k c)) (s : State)
include notice

theorem State.noticeLost_grows (before : Roster) (c : LostCause) : Grows P s (s.noticeLost before c) :=
  foldl_frame (Grows P) Grows.refl Grows.trans _ (fun s _ => s.offerBoth_grows (notice _ _)) _ s

theorem State.recomputeGroups_grows (gs : List Nat) : Grows P s (s.recomputeGroups gs) := by
  refine Grows.trans ?_ ((grows_calKeeps notice).recompute _ _)
  exact foldl_frame (Grows P) Grows.refl Grows.trans State.refigure (fun s g => Grows.of_ports rfl) _ s

theorem State.withdrawRelay_grows (i : Nat) : Grows P s (s.withdrawRelay i) :=
  Grows.after (State.noticeLost_grows notice _ _ _) rfl

theorem State.applySilence_grows (i : Nat) (a : Address) : Grows P s (s.applySilence i a) := by
  unfold State.applySilence
  split
  · exact Grows.refl s
  · split
    · rename_i u _
      have lost (v : UnitRec) : Grows P s ((s.modUnit i (fun _ => v)).noticeLost s.roster .silence) :=
        Grows.after (State.noticeLost_grows notice _ _ _) rfl
      dsimp only
      split
      · exact (lost _).trans (State.recomputeGroups_grows notice _ _)
      · exact lost _
    · exact Grows.refl s

theorem State.applyReply_grows (ph : Phase) (x : Exchange) (r : ReplyReading) (uplink : Nat) (seed : Bool) :
    Grows P s (s.applyReply ph x r uplink seed) := by
  unfold State.applyReply
  split
  · exact Grows.refl s
  · split
    · dsimp only
      have sampled (v : UnitRec) (b : Prop) [Decidable b] (f : LevelRec → LevelRec) :
          Grows P s (if b then (s.modUnit x.index (fun _ => v)).modLevel ph f else s.modUnit x.index (fun _ => v)) := by
        split <;> exact Grows.of_ports rfl
      split
      · exact (sampled _ _ _).trans (State.recomputeGroups_grows notice _ _)
      · exact sampled _ _ _
    · exact Grows.refl s

omit notice in
theorem State.register_ports (ph : Phase) (i : Nat) (a : Address) : (s.register ph i a).ports = s.ports := by
  unfold State.register
  split <;> rfl

theorem State.updateFound_grows (ph : Phase) (p : ProbeInFlight) (r : ProbeReplyReading) (uplink ago i : Nat)
    (u : UnitRec) : Grows P s (s.updateFound ph p r uplink ago i u) := by
  have noted (after : Roster) (a : Address) :
      Grows P s ((State.noticeLost { s with roster := after } s.roster .route).register ph i a) := by
    refine Grows.trans ?_ (Grows.of_ports (State.register_ports _ ph i a))
    exact Grows.after (State.noticeLost_grows notice _ s.roster .route) rfl
  unfold State.updateFound
  dsimp only
  split
  · exact (noted _ _).trans (State.recomputeGroups_grows notice _ _)
  · exact noted _ _

theorem State.recordFound_grows (ph : Phase) (p : ProbeInFlight) (r : ProbeReplyReading) (uplink ago : Nat) :
    Grows P s (s.recordFound ph p r uplink ago) := by
  unfold State.recordFound
  split
  · exact s.post_grows _ notice
  · dsimp only
    refine Grows.trans ?_ (State.recomputeGroups_grows notice _ _)
    exact Grows.after (State.offerBoth_grows _ (notice _ _)) (State.register_ports _ ph _ _)

theorem State.applyWindow_grows (ph : Phase) (p : ProbeInFlight) (window : Nat) (r : WindowResult) :
    Grows P s (s.applyWindow ph p window r) := by
  unfold State.applyWindow
  split
  · split
    · exact s.updateFound_grows notice ph p _ _ _ _ _
    · exact s.recordFound_grows notice ph p _ _ _
  · exact Grows.of_ports rfl
  · exact Grows.refl s

theorem State.retireUnit_grows (i : Nat) (u : UnitRec) : Grows P s (s.retireUnit i u) := by
  refine Grows.trans ?_ ((grows_calKeeps notice).retireSince _ s)
  refine Grows.trans ?_ (State.recomputeGroups_grows notice _ _)
  exact Grows.after (State.withdrawRelay_grows notice _ i) rfl

theorem State.record_grows (i : Nat) (u : UnitRec) : Grows P s (s.record i u) := by
  refine Grows.trans ?_ ((grows_calKeeps notice).retireSince _ s)
  exact Grows.after (State.recomputeGroups_grows notice _ _) rfl

theorem State.editUnit_grows (i : Nat) (u v : UnitRec) : Grows P s (s.editUnit i u v) := by
  have written : Grows P s
      (if u.withdrawn v then (s.modUnit i (fun _ => v)).withdrawRelay i else s.modUnit i (fun _ => v)) := by
    split
    · exact Grows.after (State.withdrawRelay_grows notice _ i) rfl
    · exact Grows.of_ports rfl
  unfold State.editUnit
  dsimp only
  generalize (if u.withdrawn v then (s.modUnit i (fun _ => v)).withdrawRelay i else s.modUnit i (fun _ => v)) = w
    at written ⊢
  split
  · exact written
  · exact (written.trans (State.recomputeGroups_grows notice _ _)).trans ((grows_calKeeps notice).retireSince _ s)

theorem State.noteLine_grows (line : LineState) (hold : Duo Bool) : Grows P s (s.noteLine line hold) := by
  unfold State.noteLine
  split
  · exact Grows.refl s
  · exact s.offerBoth_grows (notice _ _)

theorem State.stepClock_grows (second : Nat) : Grows P s (s.stepClock second) := by
  refine Grows.trans (Grows.trans ?_ (Grows.of_ports rfl)) ((grows_calKeeps notice).retireSince _ s)
  exact Grows.after ((grows_calKeeps notice).review _ _ _ _) rfl

theorem State.judgeExcursion_grows : Grows P s s.judgeExcursion := by
  unfold State.judgeExcursion
  split
  · split_ifs
    · exact Grows.refl s
    · exact Grows.after (State.post_grows _ _ notice) rfl
    · exact Grows.of_ports rfl
  · exact Grows.of_ports rfl

theorem State.crossSecond_grows (second : Nat) : Grows P s (s.crossSecond second) := by
  refine Grows.trans (Grows.trans ?_ (Grows.of_ports rfl)) ((grows_calKeeps notice).retireSince _ s)
  refine Grows.trans ?_ ((grows_calKeeps notice).review _ _ _ _)
  exact Grows.after (State.judgeExcursion_grows notice _) rfl

end

end Sys2Proof.Machine
end

section
/-! PROOFS. What a client command puts in the out-queue of its port, and the ports at the end of every step (R167 to
R172). -/

namespace Sys2Proof.Machine

/-! ### What every command does to the ports -/

/-- A function of the state answers at a port: it queues a reply there, and from then on the ports grow. -/
def Answers (p : Port) (f : State → State) : Prop :=
  ∀ u, ∃ code tag outcome contents, Grows (fun _ => True) (u.reply p code tag outcome contents) (f u)

/-- Admission queues its reply, and notices alone after it. -/
theorem State.admitted_grows {P : Item → Prop} (s : State) (notice : ∀ k c, P (.notice k c)) (p : Port) (tag : Byte)
    (a : SubmitArgs) (x : Action) (c : EntryClass) :
    Grows P
      (s.reply p 0x01 tag .ok
        (be 2 (s.admittedEntry p tag a x c).handle ++ be 6 (s.admittedEntry p tag a x c).firstLs ++
          [flagByte (s.admittedEntry p tag a x c).lateAdmission]))
      (s.admitted p tag a x c) := by
  unfold State.admitted
  dsimp only
  refine Grows.trans ?_ ((grows_calKeeps notice).retireSince _ s)
  refine Grows.trans ?_ ((grows_calKeeps notice).settleEntry _ _)
  refine Grows.trans ?_ ((grows_calKeeps notice).rereadParts _ _)
  exact Grows.of_ports rfl

theorem State.parameterEffects_grows {P : Item → Prop} (notice : ∀ k c, P (.notice k c)) (s : State) (q : Parameter) :
    Grows P s (s.parameterEffects q) := by
  cases q <;> first | exact (grows_calKeeps notice).recomputeAll s | exact Grows.of_ports rfl

theorem State.abandonSurvey_grows (s : State) (ph : Phase) : Grows (fun _ => True) s (s.abandonSurvey ph) := by
  unfold State.abandonSurvey
  dsimp only
  split
  · exact s.offerSurvey_grows ph _ _
  · exact Grows.refl s

/-- A client command other than RESET PORT answers at its port. -/
theorem exec_answers {c : Instr} {p : Port} {code tag : Byte} {params : List Byte}
    (h : clientCommand c = some (p, code, tag, params)) (other : isResetPort c = false) :
    ∃ f, (∀ s, exec c s = whenTaken s p c f) ∧ Answers p f := by
  have notice (k : NoticeKind) (x : List Byte) : (fun _ : Item => True) (.notice k x) := trivial
  cases c <;> cases h <;> refine ⟨_, fun s => rfl, fun u => ?_⟩
  case submit a =>
    split
    · exact ⟨_, _, _, _, Grows.refl _⟩
    · exact ⟨_, _, _, _, u.admitted_grows notice p tag a _ _⟩
    · exact ⟨_, _, _, _, Grows.refl _⟩
  case cancel h =>
    split
    · exact ⟨_, _, _, _, Grows.refl _⟩
    · split
      · exact ⟨_, _, _, _, Grows.refl _⟩
      · exact ⟨_, _, _, _, (grows_calKeeps notice).cancelEntry _ _⟩
  case runLine =>
    split_ifs
    · exact ⟨_, _, _, _, Grows.refl _⟩
    · exact ⟨_, _, _, _, Grows.refl _⟩
    · exact ⟨_, _, _, _, Grows.after (State.noteLine_grows notice _ _ _) rfl⟩
    · exact ⟨_, _, _, _, Grows.after (State.noteLine_grows notice _ _ _) rfl⟩
  case holdLine =>
    split
    · exact ⟨_, _, _, _, Grows.refl _⟩
    · exact ⟨_, _, _, _, Grows.after (State.noteLine_grows notice _ _ _) (State.addHold_within _ p .ports (by decide))⟩
  case releaseLine =>
    split
    · exact ⟨_, _, _, _, Grows.after (State.noteLine_grows notice _ _ _) rfl⟩
    · exact ⟨_, _, _, _, Grows.refl _⟩
  case applyProfile q =>
    split
    · exact ⟨_, _, _, _, Grows.refl _⟩
    · split
      · refine ⟨0x08, tag, .ok, [], ?_⟩
        refine Grows.trans ?_ ((grows_calKeeps notice).retireSince _ u)
        exact Grows.after ((grows_calKeeps notice).recomputeAll _) rfl
      · exact ⟨_, _, _, _, Grows.refl _⟩
  case setParameter a =>
    split
    · exact ⟨_, _, _, _, Grows.refl _⟩
    · split
      · rename_i q _
        refine ⟨0x09, tag, .ok, be 2 (q.written u.settings a.value.toNat), ?_⟩
        refine Grows.trans ?_ ((grows_calKeeps notice).retireSince _ u)
        exact Grows.after (State.parameterEffects_grows notice _ q) rfl
      · exact ⟨_, _, _, _, Grows.refl _⟩
  case setGroupPermit g q =>
    split
    · exact ⟨_, _, _, _, Grows.refl _⟩
    · split
      · split
        · exact ⟨_, _, _, _, Grows.refl _⟩
        · exact ⟨_, _, _, _, Grows.of_ports rfl⟩
      · exact ⟨_, _, _, _, Grows.refl _⟩
  case setQuota l qa qb =>
    split_ifs
    · exact ⟨_, _, _, _, Grows.refl _⟩
    · exact ⟨_, _, _, _, Grows.refl _⟩
    · exact ⟨_, _, _, _, Grows.refl _⟩
    · exact ⟨_, _, _, _, Grows.of_ports rfl⟩
  case addUnit a =>
    split
    · exact ⟨_, _, _, _, Grows.refl _⟩
    · exact ⟨_, _, _, _, State.record_grows notice _ _ _⟩
  case editUnit a =>
    split
    · exact ⟨_, _, _, _, Grows.refl _⟩
    · exact ⟨_, _, _, _, State.editUnit_grows notice _ _ _ _⟩
  case retireUnit i =>
    split
    · exact ⟨_, _, _, _, Grows.refl _⟩
    · split
      · exact ⟨_, _, _, _, Grows.refl _⟩
      · exact ⟨_, _, _, _, State.retireUnit_grows notice _ _ _⟩
  case pingUnit i r =>
    split
    · exact ⟨_, _, _, _, Grows.refl _⟩
    · dsimp only
      split
      · exact ⟨_, _, _, _, Grows.after (State.completeQueued_grows _ _ _ notice) rfl⟩
      · exact ⟨_, _, _, _, Grows.of_ports rfl⟩
  case setTime sec ms =>
    split
    · exact ⟨_, _, _, _, Grows.refl _⟩
    · exact ⟨_, _, _, _, Grows.after (State.stepClock_grows notice _ _) rfl⟩
  case startSurvey ch n =>
    split
    · exact ⟨_, _, _, _, Grows.refl _⟩
    · split
      · exact ⟨_, _, _, _, Grows.refl _⟩
      · exact ⟨0x22, tag, .ok, be 2 (max 1 n.toNat), (State.abandonSurvey_grows _ _).trans (Grows.of_ports rfl)⟩
  case resetPort => cases other
  all_goals
    first
    | exact ⟨_, _, _, _, Grows.of_ports rfl⟩
    | (split <;> first | exact ⟨_, _, _, _, Grows.of_ports rfl⟩ | (split <;> exact ⟨_, _, _, _, Grows.of_ports rfl⟩))

section
variable (s : State) (ph : Phase)

theorem State.losePhase_grows : Grows (fun _ => True) s (s.losePhase ph) :=
  Grows.after (grows_workKeeps.losePhase s ph) rfl

theorem State.acceptCrossing_grows (c : Crossing) (d : Nat) (noise : Int) (b : Bool) :
    Grows (fun _ => True) s (s.acceptCrossing ph c d noise b) := by
  unfold State.acceptCrossing
  dsimp only
  split_ifs
  · exact Grows.after (grows_workKeeps.handCrossing _ ph noise b) rfl
  · exact Grows.after (grows_workKeeps.handCrossing _ ph noise b) rfl
  · exact Grows.after (grows_workKeeps.handCrossing _ ph noise b) rfl
  · exact Grows.of_ports rfl
  · exact Grows.of_ports rfl

theorem State.firstCrossing_grows (c : Crossing) : Grows (fun _ => True) s (s.firstCrossing ph c) := Grows.of_ports rfl

theorem State.reportCrossing_grows (instant : Nat) (noise : Int) (b : Bool) :
    Grows (fun _ => True) s (s.reportCrossing ph instant noise b) := by
  unfold State.reportCrossing
  dsimp only
  split
  · exact Grows.of_ports rfl
  · split_ifs
    · exact Grows.refl s
    · exact (s.losePhase_grows ph).trans (State.firstCrossing_grows _ ph _)
    · exact s.acceptCrossing_grows ph _ _ noise b

theorem State.endProbe_grows : Grows (fun _ => True) s (s.endProbe ph) := by
  have searched (t : State) : Grows (fun _ => True) t
      (if (t.disc ph).state = .probing ∧ (t.disc ph).stack = [] then t.advanceOrigin ph else t) := by
    split
    · exact Grows.of_ports (t.advanceOrigin_ports ph)
    · exact Grows.refl t
  unfold State.endProbe
  dsimp only
  refine Grows.trans ?_ (grows_workKeeps.clearAfter _ ph)
  exact Grows.after (searched _) rfl

theorem State.endWindow_grows (r : ProbeRun) (p : ProbeInFlight) (heard : List WindowFrame) :
    Grows (fun _ => True) s (s.endWindow ph r p heard) := by
  have applied (w : WindowResult) : Grows (fun _ => True) s (s.applyWindow ph p r.next w) :=
    State.applyWindow_grows (fun _ _ => trivial) s ph p _ w
  unfold State.endWindow
  dsimp only
  split
  · exact (applied _).trans (State.endProbe_grows _ ph)
  · exact (applied _).trans (Grows.of_ports rfl)

theorem State.endWrite_grows (v : Save) (ok : Bool) : Grows (fun _ => True) s (s.endWrite v ok) := by
  unfold State.endWrite
  dsimp only
  refine Grows.trans ?_ (State.offerHeld_grows _ _ _ fun _ _ => trivial)
  split
  · exact Grows.of_ports rfl
  · exact Grows.after (State.post_grows _ _ fun _ _ => trivial) rfl

end

/-- The events that do more to the ports than let them grow, or may start a command that does. -/
def settlesPorts : Instr → Bool
  | .powerOn .. | .pinReset .. | .commandTransfer .. | .fetchTransfer .. | .frameRefused .. | .heldNoticeQueued .. => true
  | _ => false

/-- Under every other event the ports grow. -/
theorem exec_grows {c : Instr} {s t : State} (event : clientCommand c = none) (plain : settlesPorts c = false)
    (run : exec c s = .next t) : Grows (fun _ => True) s t := by
  have notice (k : NoticeKind) (x : List Byte) : (fun _ : Item => True) (.notice k x) := trivial
  have retired (u : State) (h : Grows (fun _ => True) s u) : Grows (fun _ => True) s (u.retireSince s) :=
    h.trans ((grows_calKeeps notice).retireSince u s)
  cases c
  case powerOn | pinReset | commandTransfer | fetchTransfer | frameRefused | heldNoticeQueued => cases plain
  case ignoredTransfer p k n =>
    cases run
    split
    · exact Grows.after (Grows.of_port (PortGrows.of_queues rfl rfl rfl)) rfl
    · exact Grows.refl s
  case selectAsserted p l =>
    cases run
    split
    · exact Grows.refl s
    · exact Grows.of_port (PortGrows.of_queues rfl rfl rfl)
  case zeroCrossing ph us n b =>
    cases run
    exact retired _ (s.reportCrossing_grows ph _ n b)
  case phaseLoss ph =>
    cases run
    split
    · exact retired _ (s.losePhase_grows ph)
    · exact Grows.refl s
  case secondBoundary =>
    cases run
    split
    · exact Grows.refl s
    · exact Grows.after (State.crossSecond_grows notice _ _) rfl
  case esReached h ph =>
    cases run
    split
    · exact retired _ (((grows_calKeeps notice).rereadPart s h ph).trans ((grows_calKeeps notice).settleEntry _ h))
    · exact Grows.refl s
  case lsReached h ph =>
    cases run
    split
    · split
      · exact retired _ ((grows_calKeeps notice).cutShortGroup s _)
      · exact Grows.refl s
    · exact Grows.refl s
  case floodEnd ph =>
    cases run
    split
    · rename_i f work
      split
      · exact retired _ (grows_workKeeps.endFlood s ph f work)
      · exact Grows.refl s
    · exact Grows.refl s
  case repeatGapEnd ph =>
    cases run
    split
    · exact retired _ (grows_workKeeps.endGap s _ ph)
    · exact Grows.refl s
  case outboundSpanEnd ph =>
    cases run
    split
    · split
      · exact Grows.of_ports rfl
      · exact Grows.refl s
    · exact Grows.refl s
  case replyReceived ph x =>
    cases run
    split
    · split
      · exact retired _ (grows_workKeeps.endExchange (fun r up seed => State.applyReply_grows notice s ph _ r up seed)
          (State.applySilence_grows notice s _ _) _)
      · exact Grows.refl s
    · exact Grows.refl s
  case silencePoint ph =>
    cases run
    split
    · split
      · exact retired _ (grows_workKeeps.endExchange (fun r up seed => State.applyReply_grows notice s ph _ r up seed)
          (State.applySilence_grows notice s _ _) _)
      · exact Grows.refl s
    · exact Grows.refl s
  case probeWindowEnd ph x =>
    cases run
    split
    · split
      · exact retired _ (s.endWindow_grows ph _ _ _)
      · exact Grows.refl s
    · exact Grows.refl s
  case restEnd ph =>
    cases run
    split
    · exact Grows.of_ports rfl
    · exact Grows.refl s
  case eraseEnd =>
    cases run
    split
    · exact Grows.of_ports rfl
    · exact Grows.refl s
  case writeEnd ok =>
    cases run
    split
    · split
      · exact s.endWrite_grows _ ok
      · exact Grows.refl s
    · exact Grows.refl s
  all_goals cases event

end Sys2Proof.Machine
end

section
/-! PROOFS. The queues of the ports at the end of every step: within their bounds, and with the waiting work tried (R167
to R172). -/

namespace Sys2Proof.Machine

/-! ### Ports within their bounds, ports that have tried their work -/

theorem queuesBounded_iff (s : State) : QueuesBounded s ↔ ∀ p, (s.port p).bounded :=
  ⟨fun h p => by cases p; exacts [h.1, h.2], fun h => ⟨h .A, h .B⟩⟩

theorem portsTried_iff (s : State) : PortsTried s ↔ ∀ p, (s.port p).bounded ∧ (s.port p).tried p :=
  ⟨fun h p => by cases p; exacts [⟨h.1.1, h.2.1⟩, ⟨h.1.2, h.2.2⟩], fun h => ⟨⟨(h .A).1, (h .B).1⟩, (h .A).2, (h .B).2⟩⟩

section
variable {P : Item → Prop} {r r' : PortRec}

theorem PortGrows.length_le (h : PortGrows P r r') : r.outq.length ≤ r'.outq.length := by
  obtain ⟨new, e, -, -⟩ := h.outq
  rw [e, List.length_append]
  exact Nat.le_add_right _ _

theorem PortGrows.bounded (h : PortGrows P r r') (hr : r.bounded) : r'.bounded := by
  obtain ⟨length, notices, fifo, frames⟩ := hr
  obtain ⟨new, e, -, bound⟩ := h.outq
  have queue : r'.outq.length ≤ 16 ∧ noticeCount r'.outq ≤ 15 := by
    by_cases none_new : new = []
    · rw [e, none_new, List.append_nil]
      exact ⟨length, notices⟩
    · exact bound none_new
  exact ⟨queue.1, queue.2, h.fifo ▸ fifo, h.fifo ▸ frames⟩

/-- A held notice waits behind a full out-queue alone. -/
theorem PortGrows.heldTried (h : PortGrows P r r') (hr : r.held = [] ∨ noticeRoom r.outq = false) :
    r'.held = [] ∨ noticeRoom r'.outq = false := by
  obtain ⟨more, e, full⟩ := h.held
  obtain none_held | no_room := hr
  · by_cases none_more : more = []
    · exact .inl (by rw [e, none_held, none_more, List.append_nil])
    · exact .inr ((full none_more).resolve_left (not_not.mpr none_held))
  · exact .inr (h.room no_room)

theorem PortRec.tried_iff (p : Port) (r : PortRec) :
    r.tried p ↔
      (r.fifo = [] ∨ (16 ≤ r.outq.length ∧ ¬ resetWaits p r.fifo)) ∧ (r.held = [] ∨ noticeRoom r.outq = false) := by
  rw [noticeRoom_eq_false_iff]

theorem PortGrows.tried {p : Port} (h : PortGrows P r r') (hr : r.tried p) : r'.tried p := by
  rw [PortRec.tried_iff] at hr ⊢
  rw [h.fifo]
  exact ⟨hr.1.imp_right fun x => ⟨x.1.trans h.length_le, x.2⟩, h.heldTried hr.2⟩

end

/-! ### A frame taken, a port reset -/

/-- The port has a place for a reply; its oldest frame has left, its answer is queued, and from then on the ports have
grown. -/
def TookFrame (p : Port) (s t : State) : Prop :=
  (s.port p).outq.length < 16 ∧
    ∃ code tag outcome contents, Grows (fun _ => True) (s.answered p code tag outcome contents) t

/-- The port has been reset, the reply queued, and from then on the ports have grown. -/
def ClearedPort (p : Port) (s t : State) : Prop :=
  ∃ tag, Grows (fun _ => True) ((s.modPort p PortRec.reset).reply p 0x25 tag .ok []) t

theorem State.port_answered_self (s : State) (p : Port) (code tag : Byte) (o : ReplyCode) (x : List Byte) :
    (s.answered p code tag o x).port p =
      { s.port p with fifo := (s.port p).fifo.tail, outq := (s.port p).outq ++ [.reply code tag o x] } := by
  simp [State.answered, State.reply, State.popFrame]

theorem State.port_answered_ne (s : State) {p q : Port} (code tag : Byte) (o : ReplyCode) (x : List Byte) (h : q ≠ p) :
    (s.answered p code tag o x).port q = s.port q := by
  rw [State.answered, State.reply, State.port_pushItem_ne _ _ h, State.popFrame, State.port_modPort_ne _ _ h]

theorem State.port_cleared_self (s : State) (p : Port) (tag : Byte) :
    ((s.modPort p PortRec.reset).reply p 0x25 tag .ok []).port p =
      { (s.port p).reset with outq := [.reply 0x25 tag .ok []] } := by
  simp [State.reply, PortRec.reset]

theorem State.port_cleared_ne (s : State) {p q : Port} (tag : Byte) (h : q ≠ p) :
    ((s.modPort p PortRec.reset).reply p 0x25 tag .ok []).port q = s.port q := by
  rw [State.reply, State.port_pushItem_ne _ _ h, State.port_modPort_ne _ _ h]

section
variable {p : Port} {s t : State}

theorem PortRec.bounded_answered {r : PortRec} (h : r.bounded) (place : r.outq.length < 16) (code tag : Byte)
    (o : ReplyCode) (x : List Byte) :
    PortRec.bounded { r with fifo := r.fifo.tail, outq := r.outq ++ [.reply code tag o x] } := by
  obtain ⟨-, notices, fifo, frames⟩ := h
  refine ⟨by simpa using place, ?_, ?_, fun f hf => frames f (List.mem_of_mem_tail hf)⟩
  · simpa [noticeCount_append] using notices
  · rw [List.length_tail]
    exact (Nat.sub_le _ _).trans fifo

theorem TookFrame.bounded (h : TookFrame p s t) (hs : QueuesBounded s) : QueuesBounded t := by
  rw [queuesBounded_iff] at hs ⊢
  obtain ⟨place, code, tag, o, x, grown⟩ := h
  intro q
  by_cases hq : q = p
  · subst hq
    exact (grown q).bounded (s.port_answered_self q code tag o x ▸ PortRec.bounded_answered (hs q) place code tag o x)
  · exact (grown q).bounded (s.port_answered_ne code tag o x hq ▸ hs q)

theorem ClearedPort.bounded (h : ClearedPort p s t) (hs : QueuesBounded s) : QueuesBounded t := by
  rw [queuesBounded_iff] at hs ⊢
  obtain ⟨tag, grown⟩ := h
  intro q
  by_cases hq : q = p
  · subst hq
    exact (grown q).bounded (s.port_cleared_self q tag ▸ ⟨Nat.le_of_ble_eq_true rfl, Nat.le_of_ble_eq_true rfl,
      Nat.zero_le _, fun _ hf => absurd hf List.not_mem_nil⟩)
  · exact (grown q).bounded (s.port_cleared_ne tag hq ▸ hs q)

/-- A port that has been reset has no waiting work. -/
theorem ClearedPort.empty (h : ClearedPort p s t) : (t.port p).fifo = [] ∧ (t.port p).tried p := by
  obtain ⟨tag, grown⟩ := h
  have fresh : ((s.modPort p PortRec.reset).reply p 0x25 tag .ok []).port p |>.tried p :=
    s.port_cleared_self p tag ▸ ⟨.inl rfl, .inl rfl⟩
  exact ⟨(grown p).fifo.trans (by rw [s.port_cleared_self]; rfl), (grown p).tried fresh⟩

theorem ClearedPort.tried_ne (h : ClearedPort p s t) {q : Port} (hq : q ≠ p) (hs : (s.port q).tried q) :
    (t.port q).tried q := by
  obtain ⟨tag, grown⟩ := h
  exact (grown q).tried (s.port_cleared_ne tag hq ▸ hs)

theorem TookFrame.tried_ne (h : TookFrame p s t) {q : Port} (hq : q ≠ p) (hs : (s.port q).tried q) :
    (t.port q).tried q := by
  obtain ⟨-, code, tag, o, x, grown⟩ := h
  exact (grown q).tried (s.port_answered_ne code tag o x hq ▸ hs)

theorem TookFrame.fifo (h : TookFrame p s t) : (t.port p).fifo = (s.port p).fifo.tail := by
  obtain ⟨-, code, tag, o, x, grown⟩ := h
  exact (grown p).fifo.trans (by rw [s.port_answered_self])

theorem TookFrame.length_lt (h : TookFrame p s t) : (s.port p).outq.length < (t.port p).outq.length := by
  obtain ⟨-, code, tag, o, x, grown⟩ := h
  have := (grown p).length_le
  rw [s.port_answered_self, List.length_append, List.length_singleton] at this
  exact this

theorem TookFrame.heldTried (h : TookFrame p s t) (hs : (s.port p).held = [] ∨ noticeRoom (s.port p).outq = false) :
    (t.port p).held = [] ∨ noticeRoom (t.port p).outq = false := by
  obtain ⟨-, code, tag, o, x, grown⟩ := h
  refine (grown p).heldTried ?_
  rw [s.port_answered_self]
  exact hs.imp_right noticeRoom_append

end

/-! ### What each command comes to at the ports -/

theorem State.replyRoom_iff (s : State) (p : Port) (c : Instr) :
    s.replyRoom p c = true ↔ (s.port p).outq.length < 16 ∨ isResetPort c = true := by
  rw [State.replyRoom, Bool.or_eq_true]
  exact or_congr_left decide_eq_true_iff

theorem replyRoom_of_takes {s : State} {p : Port} {c : Instr} (h : s.takes p c) (other : isResetPort c = false) :
    (s.port p).outq.length < 16 := by
  exact ((s.replyRoom_iff p c).mp h.1).resolve_right (by simp [other])

/-- RESET PORT empties its port before its reply (R175). -/
theorem execResetPort_cleared {p : Port} {tag : Byte} {s t : State} (taken : s.takes p (.resetPort p tag))
    (run : exec (.resetPort p tag) s = .next t) : ClearedPort p s t := by
  refine ⟨tag, ?_⟩
  rw [exec_of_takes taken rfl] at run
  cases run
  refine Grows.after (State.noteLine_grows (fun _ _ => trivial) _ _ _) ?_
  change (((s.popFrame p).modPort p PortRec.reset).reply p 0x25 tag .ok []).ports =
    ((s.modPort p PortRec.reset).reply p 0x25 tag .ok []).ports
  cases p <;> rfl

/-- A client command leaves the state as it is, answers the oldest frame, or resets its port. -/
theorem exec_client_cases {c : Instr} {p : Port} {code tag : Byte} {params : List Byte} {s t : State}
    (h : clientCommand c = some (p, code, tag, params)) (run : exec c s = .next t) :
    (¬ s.takes p c ∧ t = s) ∨
      (s.takes p c ∧ ((isResetPort c = false ∧ TookFrame p s t) ∨ (isResetPort c = true ∧ ClearedPort p s t))) := by
  by_cases taken : s.takes p c
  · refine .inr ⟨taken, ?_⟩
    by_cases other : isResetPort c = false
    · obtain ⟨f, arm, answers⟩ := exec_answers h other
      rw [exec_of_takes taken (arm s)] at run
      cases run
      exact .inl ⟨other, replyRoom_of_takes taken other, answers _⟩
    · cases c with
      | resetPort q tag =>
          cases h
          exact .inr ⟨rfl, execResetPort_cleared taken run⟩
      | _ => exact absurd rfl other
  · obtain ⟨f, arm⟩ := exec_client h s
    rw [arm, whenTaken_of_not_takes f taken] at run
    cases run
    exact .inl ⟨taken, rfl⟩

/-- A refusal answers the oldest frame where it fails a test and there is a place, and else does nothing. -/
theorem execFrameRefused_cases {p : Port} {s t : State} (run : exec (.frameRefused p) s = .next t) :
    t = s ∨ ((s.port p).fifo ≠ [] ∧ TookFrame p s t) := by
  cases run
  split
  · rename_i code tag o refused
    split
    · rename_i place
      refine .inr ⟨fun empty => ?_, place, code, tag, o, [], Grows.refl _⟩
      simp [State.headReading, empty] at refused
    · exact .inl rfl
  · exact .inl rfl

theorem State.queueHeld_held (s : State) (p q : Port) (o : HeldOwner) :
    ((s.queueHeld p o).port q).held = (s.port q).held := by
  unfold State.queueHeld
  split
  · rw [State.port, State.completeHeld_ports]
    change ((s.pushItem p _).port q).held = _
    by_cases hq : q = p
    · subst hq
      rw [State.port_pushItem_self]
    · rw [State.port_pushItem_ne _ _ hq]
  · rfl

/-- The port's list goes on by a notice that finds room, or nothing happens (R172). -/
theorem execHeldNoticeQueued_cases {p : Port} {s t : State} (run : exec (.heldNoticeQueued p) s = .next t) :
    (s.heldDue p = false ∧ t = s) ∨
      ((s.port p).held ≠ [] ∧ noticeRoom (s.port p).outq = true ∧ (t.port p).held = (s.port p).held.tail ∧
        Grows (fun _ => True) (s.modPort p (fun r => { r with held := (s.port p).held.tail })) t) := by
  cases run
  split
  · rename_i o rest held
    split
    · rename_i room
      refine .inr ⟨by simp [held], room, ?_, ?_⟩
      · rw [State.queueHeld_held, State.port_modPort_self, held, List.tail_cons]
      rw [held, List.tail_cons]
      unfold State.queueHeld
      split
      · refine Grows.trans ?_ (Grows.of_ports (State.completeHeld_ports _ p o))
        exact Grows.of_port (PortGrows.push (by simpa using room) trivial)
      · exact Grows.refl _
    · rename_i full
      exact .inl ⟨by simp [State.heldDue, full], rfl⟩
  · rename_i none_held
    exact .inl ⟨by simp [State.heldDue, none_held], rfl⟩

/-- A start-up lets the ports grow from their start-up values. -/
theorem State.startUp_grows (s : State) (a b : Bool) (f : FaultRec) :
    Grows (fun _ => True) (s.starting (s.store.atStart a b) f) (s.startUp a b f) := by
  have loadSettings (t : State) : Grows (fun _ => True) t t.loadSettings := by
    unfold State.loadSettings
    split
    · exact Grows.of_ports rfl
    · exact Grows.after (State.post_grows _ _ fun _ _ => trivial) rfl
  have loadRoster (t : State) : Grows (fun _ => True) t t.loadRoster := by
    unfold State.loadRoster
    split
    · dsimp only
      split
      · exact Grows.after (State.post_grows _ _ fun _ _ => trivial) rfl
      · exact Grows.of_ports rfl
    · exact State.post_grows _ _ fun _ _ => trivial
  have figureAll (t : State) : Grows (fun _ => True) t t.figureAll :=
    foldl_frame _ Grows.refl Grows.trans State.refigure (fun s g => Grows.of_ports rfl) _ t
  have applySettings (t : State) : Grows (fun _ => True) t t.applySettings := Grows.of_ports rfl
  exact (((loadSettings _).trans (loadRoster _)).trans (figureAll _)).trans (applySettings _)

theorem State.startUp_tried (s : State) (a b : Bool) (f : FaultRec) : PortsTried (s.startUp a b f) := by
  rw [portsTried_iff]
  intro p
  have fresh : (s.starting (s.store.atStart a b) f).port p = PortRec.fresh := by cases p <;> rfl
  have grown := s.startUp_grows a b f p
  rw [fresh] at grown
  exact ⟨grown.bounded ⟨Nat.zero_le _, Nat.zero_le _, Nat.zero_le _, fun _ hf => absurd hf List.not_mem_nil⟩,
    grown.tried ⟨.inl rfl, .inl rfl⟩⟩

theorem Grows.queuesBounded {P : Item → Prop} {s t : State} (h : Grows P s t) (hs : QueuesBounded s) :
    QueuesBounded t := by
  rw [queuesBounded_iff] at hs ⊢
  exact fun p => (h p).bounded (hs p)

theorem Grows.portsTried {P : Item → Prop} {s t : State} (h : Grows P s t) (hs : PortsTried s) : PortsTried t := by
  rw [portsTried_iff] at hs ⊢
  exact fun p => ⟨(h p).bounded (hs p).1, (h p).tried (hs p).2⟩

/-- Every command that is no transfer keeps the bounds of the queues. -/
theorem exec_queuesBounded {c : Instr} {s t : State} (plain : serves c = false) (run : exec c s = .next t)
    (hs : QueuesBounded s) : QueuesBounded t := by
  cases client : clientCommand c with
  | some x =>
      obtain ⟨-, rfl⟩ | ⟨-, ⟨-, took⟩ | ⟨-, cleared⟩⟩ := exec_client_cases client run
      · exact hs
      · exact took.bounded hs
      · exact cleared.bounded hs
  | none =>
      by_cases settles : settlesPorts c = false
      · exact (exec_grows client settles run).queuesBounded hs
      · cases c with
        | powerOn a b => cases run; exact (s.startUp_tried a b _).1
        | pinReset a b => cases run; exact (s.startUp_tried a b _).1
        | frameRefused p =>
            obtain rfl | ⟨-, took⟩ := execFrameRefused_cases run
            · exact hs
            · exact took.bounded hs
        | heldNoticeQueued p =>
            obtain ⟨-, rfl⟩ | ⟨-, -, -, grown⟩ := execHeldNoticeQueued_cases run
            · exact hs
            · refine grown.queuesBounded ((queuesBounded_iff _).mpr fun q => ?_)
              have hq := (queuesBounded_iff s).mp hs q
              by_cases same : q = p
              · subst same
                rwa [State.port_modPort_self]
              · rwa [State.port_modPort_ne _ _ same]
        | commandTransfer | fetchTransfer => cases plain
        | _ => exact absurd rfl settles

/-- Every command that is no transfer leaves ports that have tried their work so. -/
theorem exec_portsTried {c : Instr} {s t : State} (plain : serves c = false) (run : exec c s = .next t)
    (hs : PortsTried s) : PortsTried t := by
  have tried := (portsTried_iff s).mp hs
  cases client : clientCommand c with
  | some x =>
      obtain ⟨p, code, tag, params⟩ := x
      obtain ⟨-, rfl⟩ | ⟨taken, ⟨other, took⟩ | ⟨-, cleared⟩⟩ := exec_client_cases client run
      · exact hs
      · have empty : (s.port p).fifo = [] :=
          (tried p).2.1.resolve_right fun full => absurd (replyRoom_of_takes taken other) (Nat.not_lt.mpr full.1)
        refine ⟨took.bounded hs.1, ((portsTried_iff t).mpr fun q => ⟨(queuesBounded_iff t).mp (took.bounded hs.1) q, ?_⟩).2⟩
        by_cases hq : q = p
        · subst hq
          rw [PortRec.tried_iff]
          refine ⟨.inl (by rw [took.fifo, empty]; rfl), took.heldTried ?_⟩
          exact ((PortRec.tried_iff _ _).mp (tried q).2).2
        · exact took.tried_ne hq (tried q).2
      · refine (portsTried_iff t).mpr fun q => ⟨(queuesBounded_iff t).mp (cleared.bounded hs.1) q, ?_⟩
        by_cases hq : q = p
        · subst hq
          exact cleared.empty.2
        · exact cleared.tried_ne hq (tried q).2
  | none =>
      by_cases settles : settlesPorts c = false
      · exact (exec_grows client settles run).portsTried hs
      · cases c with
        | powerOn a b => cases run; exact s.startUp_tried a b _
        | pinReset a b => cases run; exact s.startUp_tried a b _
        | frameRefused p =>
            obtain rfl | ⟨waits, took⟩ := execFrameRefused_cases run
            · exact hs
            · exact absurd took.1 (Nat.not_lt.mpr ((tried p).2.1.resolve_left waits).1)
        | heldNoticeQueued p =>
            obtain ⟨-, rfl⟩ | ⟨held, room, -⟩ := execHeldNoticeQueued_cases run
            · exact hs
            · have full := ((PortRec.tried_iff _ _).mp (tried p).2).2.resolve_left held
              rw [room] at full
              cases full
        | commandTransfer | fetchTransfer => cases plain
        | _ => exact absurd rfl settles

/-! ### A port that goes on with its waiting work -/

/-- What the oldest frame of a FIFO comes to, where the port can take it. -/
theorem State.frameDue_cons {s : State} {p : Port} {f : Frame} {rest : List Frame} (fifo : (s.port p).fifo = f :: rest) :
    s.frameDue p =
      match readFrame p f.overLong f.bytes with
      | .command i => if s.replyRoom p i then some i else none
      | _ => if (s.port p).outq.length < 16 then some (.frameRefused p) else none := by
  simp only [State.frameDue, State.headReading, fifo]
  cases readFrame p f.overLong f.bytes <;> rfl

theorem State.frameDue_nil {s : State} {p : Port} (fifo : (s.port p).fifo = []) : s.frameDue p = none := by
  unfold State.frameDue State.headReading
  rw [fifo]

/-- No frame is due exactly where none waits, or the out-queue is full and the oldest is no RESET PORT. -/
theorem State.frameDue_eq_none_iff (s : State) (p : Port) :
    s.frameDue p = none ↔ (s.port p).fifo = [] ∨ (16 ≤ (s.port p).outq.length ∧ ¬ resetWaits p (s.port p).fifo) := by
  cases fifo : (s.port p).fifo with
  | nil => simp [State.frameDue_nil fifo]
  | cons f rest =>
      rw [State.frameDue_cons fifo]
      have reset : resetWaits p (f :: rest) ↔ ∃ tag, readFrame p f.overLong f.bytes = .command (.resetPort p tag) := by
        simp [resetWaits]
      rw [reset]
      cases reading : readFrame p f.overLong f.bytes with
      | command i =>
          obtain ⟨k, t, x, client⟩ := client_of_readFrame reading
          have isReset : isResetPort i = true ↔ ∃ tag, i = .resetPort p tag := by
            cases i <;> cases client <;> simp [isResetPort]
          simp only [ite_eq_right_iff, reduceCtorEq, imp_false, State.replyRoom_iff, isReset, not_or, not_lt, false_or,
            FrameReading.command.injEq]
      | _ => simp

/-- A port has tried its waiting work exactly where none is due. -/
theorem State.portDue_eq_none_iff (s : State) (p : Port) : s.portDue p = none ↔ (s.port p).tried p := by
  rw [PortRec.tried_iff, ← s.frameDue_eq_none_iff]
  have held : s.heldDue p = false ↔ (s.port p).held = [] ∨ noticeRoom (s.port p).outq = false := by
    cases list : (s.port p).held <;> simp [State.heldDue, list]
  rw [← held]
  unfold State.portDue
  cases s.frameDue p <;> cases s.heldDue p <;> simp

/-- The frame that is due leaves the FIFO answered, or it is a RESET PORT and clears its port. -/
theorem State.frameDue_run {s t u : State} {p : Port} {c : Instr} (due : s.frameDue p = some c) (same : t.ports = s.ports)
    (run : t.carryOut c = .next u) : TookFrame p t u ∨ (resetWaits p (t.port p).fifo ∧ ClearedPort p t u) := by
  have port : s.port p = t.port p := by unfold State.port; rw [same]
  cases fifo : (s.port p).fifo with
  | nil => rw [State.frameDue_nil fifo] at due; cases due
  | cons f rest =>
      have head : t.headReading p = some (readFrame p f.overLong f.bytes) := by
        unfold State.headReading
        rw [← port, fifo]
      have refused (refusal : FrameReading.refusal (readFrame p f.overLong f.bytes) ≠ none) (place : (s.port p).outq.length < 16)
          (run : t.carryOut (.frameRefused p) = .next u) : TookFrame p t u := by
        obtain ⟨⟨code, tag, o⟩, h⟩ := Option.ne_none_iff_exists'.mp refusal
        have answered := execFrameRefused_of_refusal (port ▸ fifo) (port ▸ place) h
        change exec (.frameRefused p) t = .next u at run
        rw [answered] at run
        cases run
        exact ⟨port ▸ place, code, tag, o, [], Grows.refl _⟩
      rw [State.frameDue_cons fifo] at due
      cases reading : readFrame p f.overLong f.bytes with
      | command i =>
          rw [reading] at due
          dsimp only at due
          split at due
          · rename_i room
            cases due
            obtain ⟨k, tag, x, client⟩ := client_of_readFrame reading
            rw [t.carryOut_client client] at run
            have room' : t.replyRoom p c = true := by
              unfold State.replyRoom
              rw [← port]
              exact room
            have taken : t.takes p c := ⟨room', .inr (by rw [head, reading])⟩
            obtain ⟨untaken, -⟩ | ⟨-, ⟨-, took⟩ | ⟨reset, cleared⟩⟩ := exec_client_cases client run
            · exact absurd taken untaken
            · exact .inl took
            · refine .inr ⟨⟨f, tag, by rw [← port, fifo]; rfl, ?_⟩, cleared⟩
              cases c with
              | resetPort => cases client; exact reading
              | _ => cases reset
          · cases due
      | badFrame code tag =>
          rw [reading] at due refused
          dsimp only at due
          split at due
          · cases due
            exact .inl (refused (by simp [FrameReading.refusal]) (by assumption) run)
          · cases due
      | badParameter code tag =>
          rw [reading] at due refused
          dsimp only at due
          split at due
          · cases due
            exact .inl (refused (by simp [FrameReading.refusal]) (by assumption) run)
          · cases due

theorem State.carryOut_next (s : State) (c : Instr) : ∃ t, s.carryOut c = .next t := by
  obtain ⟨-, h⟩ | h := s.carryOut_or c
  · obtain ⟨t, ht⟩ := exec_next c s
    exact ⟨t, h.trans ht⟩
  · exact ⟨s, h⟩

/-- One place has come free at most: frames wait behind an out-queue with one place, and the oldest is no RESET PORT. -/
def PortRec.freed (p : Port) (r : PortRec) : Prop :=
  r.fifo = [] ∨ (15 ≤ r.outq.length ∧ ¬ resetWaits p r.fifo)

/-- A port that has tried its work has had one round more or less. -/
theorem State.servePort_of_tried (n : Nat) {s : State} {p : Port} (h : (s.port p).tried p) : State.servePort n p s = s :=
  State.servePort_idle n (s.portDue_eq_none_iff p |>.mpr h)

/-- Once a port has been reset it has nothing to go on with. -/
theorem State.servePort_portsTried_of_cleared (n : Nat) {p : Port} {s t : State} (h : ClearedPort p s t)
    (bounded : QueuesBounded s) (others : ∀ q ≠ p, (s.port q).tried q) : PortsTried (State.servePort n p t) := by
  rw [State.servePort_of_tried n h.empty.2, portsTried_iff]
  intro q
  refine ⟨(queuesBounded_iff t).mp (h.bounded bounded) q, ?_⟩
  by_cases hq : q = p
  · subst hq
    exact h.empty.2
  · exact h.tried_ne hq (others q hq)

/-- Once the oldest frame has been answered and the out-queue is full, only a RESET PORT behind it can go on. -/
theorem State.servePort_portsTried_of_took (n : Nat) {p : Port} {s t : State} (h : TookFrame p s t)
    (bounded : QueuesBounded s) (others : ∀ q ≠ p, (s.port q).tried q)
    (full : (s.port p).fifo.tail = [] ∨ 15 ≤ (s.port p).outq.length)
    (held : (s.port p).held = [] ∨ noticeRoom (s.port p).outq = false ∨ 15 ≤ (s.port p).outq.length) :
    PortsTried (State.servePort (n + 1) p t) := by
  have grown := h.length_lt
  have heldTried : (t.port p).held = [] ∨ noticeRoom (t.port p).outq = false := by
    obtain none_held | no_room | most := held
    · exact h.heldTried (.inl none_held)
    · exact h.heldTried (.inr no_room)
    · exact .inr ((noticeRoom_eq_false_iff _).mpr (.inl (by omega)))
  have others' : ∀ q ≠ p, (t.port q).tried q := fun q hq => h.tried_ne hq (others q hq)
  by_cases tried : (t.port p).tried p
  · rw [State.servePort_of_tried _ tried, portsTried_iff]
    intro q
    refine ⟨(queuesBounded_iff t).mp (h.bounded bounded) q, ?_⟩
    by_cases hq : q = p
    · exact hq ▸ tried
    · exact others' q hq
  · have reset : (s.port p).fifo.tail ≠ [] ∧ 16 ≤ (t.port p).outq.length ∧ resetWaits p (t.port p).fifo := by
      rw [PortRec.tried_iff, h.fifo] at tried
      rw [h.fifo]
      have waits : (s.port p).fifo.tail ≠ [] := fun e => tried ⟨.inl e, heldTried⟩
      have no_place : 16 ≤ (t.port p).outq.length := by
        have := full.resolve_left waits
        omega
      exact ⟨waits, no_place, by_contra fun no_reset => tried ⟨.inr ⟨no_place, no_reset⟩, heldTried⟩⟩
    obtain ⟨-, no_place, waits⟩ := reset
    have no_held : t.heldDue p = false := by
      have no_room : noticeRoom (t.port p).outq = false := (noticeRoom_eq_false_iff _).mpr (.inl no_place)
      simp [State.heldDue, no_room]
    cases due : t.frameDue p with
    | none => exact absurd waits ((t.frameDue_eq_none_iff p).mp due |>.elim (fun e => by simp [resetWaits, e]) And.right)
    | some c =>
        have round : t.portDue p = some (c, t) := by simp [State.portDue, due, no_held]
        obtain ⟨u, run⟩ := t.carryOut_next c
        rw [State.servePort_round n round run]
        obtain took | ⟨-, cleared⟩ := State.frameDue_run due rfl run
        · exact absurd took.1 (Nat.not_lt.mpr no_place)
        · exact State.servePort_portsTried_of_cleared n cleared (h.bounded bounded) others'

/-- A port at which at most one place has come free has tried its work once it has had a round for each held notice, one
for a frame and one for a RESET PORT behind it. -/
theorem State.servePort_portsTried {p : Port} (n : Nat) : ∀ s : State, QueuesBounded s → (s.port p).freed p →
    (∀ q ≠ p, (s.port q).tried q) → (s.port p).held.length + 2 ≤ n → PortsTried (State.servePort n p s) := by
  induction n with
  | zero => intro s _ _ _ rounds; omega
  | succ n ih =>
      intro s bounded freed others rounds
      cases due : s.portDue p with
      | none =>
          rw [State.servePort_idle _ due, portsTried_iff]
          intro q
          refine ⟨(queuesBounded_iff s).mp bounded q, ?_⟩
          by_cases hq : q = p
          · exact hq ▸ (s.portDue_eq_none_iff p).mp due
          · exact others q hq
      | some x =>
          obtain ⟨c, t⟩ := x
          obtain ⟨what, drawn⟩ := State.portDue_cases due
          have ports : t.ports = s.ports := by obtain rfl | rfl := drawn <;> rfl
          have port (q : Port) : t.port q = s.port q := by unfold State.port; rw [ports]
          have bounded' : QueuesBounded t := by unfold QueuesBounded; rw [ports]; exact bounded
          obtain ⟨u, run⟩ := t.carryOut_next c
          rw [State.servePort_round n due run]
          obtain ⟨rfl, heldDue⟩ | frame := what
          · change exec (.heldNoticeQueued p) t = .next u at run
            have heldDue' : t.heldDue p = true := by unfold State.heldDue; rw [port p]; exact heldDue
            obtain ⟨none_due, -⟩ | ⟨held, -, shorter, grown⟩ := execHeldNoticeQueued_cases run
            · rw [heldDue'] at none_due
              cases none_due
            · have fewer : (u.port p).held.length + 1 = (t.port p).held.length := by
                rw [shorter, List.length_tail]
                have := List.length_pos_of_ne_nil held
                omega
              have popped (q : Port) (hq : q ≠ p) :
                  (t.modPort p (fun r => { r with held := (t.port p).held.tail })).port q = s.port q :=
                (t.port_modPort_ne _ hq).trans (port q)
              refine ih u (grown.queuesBounded ?_) ?_ (fun q hq => (grown q).tried (popped q hq ▸ others q hq)) ?_
              · refine (queuesBounded_iff _).mpr fun q => ?_
                by_cases hq : q = p
                · subst hq
                  rw [State.port_modPort_self]
                  exact (queuesBounded_iff t).mp bounded' q
                · exact popped q hq ▸ (queuesBounded_iff s).mp bounded q
              · have fifo := (grown p).fifo
                have length := (grown p).length_le
                rw [State.port_modPort_self] at fifo length
                rw [port p] at fifo length
                unfold PortRec.freed
                rw [fifo]
                exact freed.imp_right fun h => ⟨h.1.trans length, h.2⟩
              · rw [port p] at fewer
                omega
          · obtain took | ⟨waits, -⟩ := State.frameDue_run frame ports run
            · obtain ⟨m, rfl⟩ : ∃ m, n = m + 1 := ⟨n - 1, by omega⟩
              have waiting : (s.port p).fifo ≠ [] := fun e => by rw [State.frameDue_nil e] at frame; cases frame
              have most := (freed.resolve_left waiting).1
              refine State.servePort_portsTried_of_took m took bounded' (fun q hq => port q ▸ others q hq) ?_ ?_
              · exact .inr (port p ▸ most)
              · exact .inr (.inr (port p ▸ most))
            · rw [port p] at waits
              obtain empty | ⟨-, no_reset⟩ := freed
              · simp [resetWaits, empty] at waits
              · exact absurd waits no_reset

/-! ### The transfers -/

theorem resetWaits_append {p : Port} {fifo : List Frame} (h : fifo ≠ []) (f : Frame) :
    resetWaits p (fifo ++ [f]) ↔ resetWaits p fifo := by
  unfold resetWaits
  rw [List.head?_append_of_ne_nil _ h]

/-- A port as a frame joins its FIFO. -/
def PortRec.joined (r : PortRec) (f : Frame) : PortRec := { r with fifo := r.fifo ++ [f] }

theorem State.joined_bounded {s : State} {p : Port} {f : Frame} (hs : QueuesBounded s)
    (place : (s.port p).fifo.length < 4) (short : f.bytes.length ≤ 64) : QueuesBounded (s.modPort p (·.joined f)) := by
  rw [queuesBounded_iff] at hs ⊢
  intro q
  by_cases hq : q = p
  · subst hq
    rw [State.port_modPort_self]
    obtain ⟨length, notices, -, frames⟩ := hs q
    refine ⟨length, notices, by simpa [PortRec.joined] using place, fun g hg => ?_⟩
    obtain h | h := List.mem_append.mp hg
    · exact frames g h
    · rw [List.mem_singleton.mp h]
      exact short
  · rw [State.port_modPort_ne _ _ hq]
    exact hs q

/-- A frame that joins at a port that has tried its work waits behind others, waits for a place, or is the one due. -/
theorem State.joined_due {s : State} {p : Port} {f : Frame} (tried : (s.port p).tried p) :
    ((s.modPort p (·.joined f)).portDue p = none) ∨
      ((s.port p).fifo = [] ∧ ∃ c, (s.modPort p (·.joined f)).frameDue p = some c ∧
        (s.modPort p (·.joined f)).portDue p = some (c, s.modPort p (·.joined f))) := by
  rw [PortRec.tried_iff] at tried
  obtain ⟨frames, held⟩ := tried
  have port : (s.modPort p (·.joined f)).port p = (s.port p).joined f := s.port_modPort_self p _
  have no_held : (s.modPort p (·.joined f)).heldDue p = false := by
    unfold State.heldDue
    rw [port]
    obtain h | h := held <;> simp [PortRec.joined, h]
  cases due : (s.modPort p (·.joined f)).frameDue p with
  | none => exact .inl (by simp [State.portDue, due, no_held])
  | some c =>
      refine .inr ⟨?_, c, rfl, by simp [State.portDue, due, no_held]⟩
      by_contra waits
      obtain ⟨full, no_reset⟩ := frames.resolve_left waits
      have none_due : (s.modPort p (·.joined f)).frameDue p = none := by
        rw [State.frameDue_eq_none_iff, port]
        exact .inr ⟨full, fun h => no_reset ((resetWaits_append waits f).mp h)⟩
      rw [due] at none_due
      cases none_due

/-- A frame that finds no place is counted and posted (R167). -/
theorem State.overflowed_grows (s : State) (p : Port) :
    Grows (fun _ => True) s
      ((s.modPort p (fun r => { r with overflow := saturatingSucc Config.counterTop r.overflow })).post
        (.portOverflow p)) := by
  refine Grows.trans ?_ (State.post_grows _ _ fun _ _ => trivial)
  exact Grows.of_port (PortGrows.of_queues rfl rfl rfl)

theorem State.tryWaiting_queuesBounded {s : State} (p : Port) (hs : QueuesBounded s) : QueuesBounded (s.tryWaiting p) :=
  State.servePort_keeps (fun _ _ h => h) (fun _ _ _ plain _ => exec_queuesBounded plain) _ s hs

theorem State.arrive_queuesBounded {s : State} {p : Port} {f : Frame} (hs : QueuesBounded s)
    (short : f.bytes.length ≤ 64) : QueuesBounded (s.arrive p f) := by
  unfold State.arrive
  split
  · rename_i place
    exact State.tryWaiting_queuesBounded p (State.joined_bounded hs place short)
  · exact (s.overflowed_grows p).queuesBounded hs

theorem State.arrive_portsTried {s : State} {p : Port} {f : Frame} (hs : PortsTried s) (short : f.bytes.length ≤ 64) :
    PortsTried (s.arrive p f) := by
  have tried := (portsTried_iff s).mp hs
  unfold State.arrive
  split
  · rename_i place
    change PortsTried (State.tryWaiting (s.modPort p (·.joined f)) p)
    have bounded := State.joined_bounded hs.1 place short
    have others : ∀ q ≠ p, ((s.modPort p (·.joined f)).port q).tried q := fun q hq => by
      rw [State.port_modPort_ne _ _ hq]
      exact (tried q).2
    have port : (s.modPort p (·.joined f)).port p = (s.port p).joined f := s.port_modPort_self p _
    unfold State.tryWaiting
    obtain none_due | ⟨empty, c, frame, due⟩ := State.joined_due (f := f) (tried p).2
    · rw [State.servePort_idle _ none_due, portsTried_iff]
      intro q
      refine ⟨(queuesBounded_iff _).mp bounded q, ?_⟩
      by_cases hq : q = p
      · exact hq ▸ (State.portDue_eq_none_iff _ p).mp none_due
      · exact others q hq
    · obtain ⟨u, run⟩ := (s.modPort p (·.joined f)).carryOut_next c
      obtain ⟨m, rounds⟩ : ∃ m, (s.modPort p (·.joined f)).portRounds p = m + 2 :=
        ⟨30 + ((s.modPort p (·.joined f)).port p).held.length, by unfold State.portRounds; omega⟩
      rw [rounds, State.servePort_round _ due run]
      obtain took | ⟨-, cleared⟩ := State.frameDue_run frame rfl run
      · refine State.servePort_portsTried_of_took _ took bounded others (.inl ?_) ?_
        · rw [port, PortRec.joined, empty]
          rfl
        · rw [port]
          exact ((PortRec.tried_iff _ _).mp (tried p).2).2.imp_right .inl
      · exact State.servePort_portsTried_of_cleared _ cleared bounded others
  · exact (s.overflowed_grows p).portsTried hs

theorem frameOf_length (bytes : List Byte) : (frameOf bytes).bytes.length ≤ 64 := by
  simp [frameOf, Config.frameBytes]

/-- A port as the completion of a FETCH takes its oldest item. -/
def PortRec.taken (r : PortRec) : PortRec := { r with outq := r.outq.tail }

theorem State.taken_bounded {s : State} (p : Port) (hs : QueuesBounded s) : QueuesBounded (s.modPort p PortRec.taken) := by
  rw [queuesBounded_iff] at hs ⊢
  intro q
  by_cases hq : q = p
  · subst hq
    rw [State.port_modPort_self]
    obtain ⟨length, notices, fifo, frames⟩ := hs q
    refine ⟨?_, ?_, fifo, frames⟩
    · simp only [PortRec.taken, List.length_tail]
      omega
    · exact ((List.tail_sublist _).filter _).length_le.trans notices
  · rw [State.port_modPort_ne _ _ hq]
    exact hs q

theorem State.taken_portsTried {s : State} (p : Port) (hs : PortsTried s) :
    PortsTried (State.tryWaiting (s.modPort p PortRec.taken) p) := by
  have tried := (portsTried_iff s).mp hs
  refine State.servePort_portsTried _ _ (State.taken_bounded p hs.1) ?_ (fun q hq => ?_) ?_
  · rw [State.port_modPort_self]
    refine (tried p).2.1.imp_right fun h => ⟨?_, h.2⟩
    simp only [PortRec.taken, List.length_tail]
    omega
  · rw [State.port_modPort_ne _ _ hq]
    exact (tried q).2
  · unfold State.portRounds
    omega

theorem State.endTransfer_grows (s : State) (p : Port) (out : List Byte) :
    Grows (fun _ => True) s (s.modPort p (·.endTransfer out)) :=
  Grows.of_port (PortGrows.of_queues rfl rfl rfl)

/-- Every command keeps the bounds of the queues, and leaves ports that have tried their work so. -/
theorem exec_ports {c : Instr} {s t : State} (run : exec c s = .next t) :
    (QueuesBounded s → QueuesBounded t) ∧ (PortsTried s → PortsTried t) := by
  cases c with
  | commandTransfer p bytes =>
      cases run
      split
      · rename_i x _
        have ended := s.endTransfer_grows p (List.replicate (bytes.length + 1) (byteOf x.fifoFill))
        dsimp only
        split
        · exact ⟨ended.queuesBounded, ended.portsTried⟩
        · exact ⟨fun hs => State.arrive_queuesBounded (ended.queuesBounded hs) (frameOf_length bytes),
            fun hs => State.arrive_portsTried (ended.portsTried hs) (frameOf_length bytes)⟩
      · exact ⟨id, id⟩
  | fetchTransfer p n =>
      cases run
      split
      · rename_i x _
        have ended := s.endTransfer_grows p
          (byteOf x.outCount :: (x.itemBytes ++ List.replicate n Config.filler).take n)
        dsimp only
        split
        · exact ⟨fun hs => State.tryWaiting_queuesBounded p (State.taken_bounded p (ended.queuesBounded hs)),
            fun hs => State.taken_portsTried p (ended.portsTried hs)⟩
        · exact ⟨ended.queuesBounded, ended.portsTried⟩
      · exact ⟨id, id⟩
  | _ => exact ⟨exec_queuesBounded rfl run, exec_portsTried rfl run⟩

/-- Settles O11: every command keeps both properties, and so do a due event and a millisecond. -/
theorem queuesStayBoundedAndTried : Obligations.QueuesStayBoundedAndTried := by
  intro s t run
  unfold step at run
  split at run
  · have kept := exec_ports run
    exact kept
  · split at run
    · rename_i c u due
      have kept := exec_ports run
      obtain rfl | rfl := State.eventDue_state due
      · exact kept
      · exact kept
    · cases run
      exact ⟨id, id⟩

end Sys2Proof.Machine
end

section
/-! PROOFS. The settings, the transmit levels and the planning frequency stay within their ranges (R138, R160, R179). -/

namespace Sys2Proof.Machine

/-! ### Values within their ranges -/

theorem le_holdWithin {lo hi : Nat} (h : lo ≤ hi) (v : Nat) : lo ≤ holdWithin lo hi v := by
  unfold holdWithin
  split_ifs <;> omega

theorem Settings.factory_inRange : Settings.factory.inRange := by decide

theorem Settings.withProfile_inRange {v : Settings} (h : v.inRange) (q : Profile) : (v.withProfile q).inRange := by
  obtain ⟨-, -, -, -, -, -, -, -, -, -, levels, nominal, permits, layouts, quotas⟩ := h
  cases q <;> dsimp only [Settings.withProfile, Settings.inRange] <;>
    exact ⟨by decide, by decide, by decide, by decide, by decide, by decide, by decide, by decide, by decide,
      by decide, levels, nominal, permits, layouts, quotas⟩

theorem Settings.loaded_inRange {v : Settings} (h : v.inRange) : v.loaded.inRange := by
  obtain ⟨a, b, c, d, e, f, g, i, j, k, levels, nominal, permits, ⟨-, next⟩, -, -, nextA, nextB⟩ := h
  exact ⟨a, b, c, d, e, f, g, i, j, k, levels, nominal, permits, ⟨next, next⟩, nextA, nextB, nextA, nextB⟩

/-- The levels' settings within their ranges, phase by phase. -/
theorem levels_inRange_iff (t : Tri LevelSettings) :
    (t.l1.inRange ∧ t.l2.inRange ∧ t.l3.inRange) ↔ ∀ ph, (t.get ph).inRange := (Tri.forall_get t).symm

theorem levels_set_inRange {t : Tri LevelSettings} (h : t.l1.inRange ∧ t.l2.inRange ∧ t.l3.inRange) (ph : Phase)
    {l : LevelSettings} (hl : l.inRange) : (t.set ph l).l1.inRange ∧ (t.set ph l).l2.inRange ∧ (t.set ph l).l3.inRange := by
  obtain ⟨h1, h2, h3⟩ := h
  cases ph
  · exact ⟨hl, h2, h3⟩
  · exact ⟨h1, hl, h3⟩
  · exact ⟨h1, h2, hl⟩

/-- SET PARAMETER keeps the ranges (R181). -/
theorem Parameter.store_inRange {v : Settings} (h : v.inRange) (q : Parameter) (value : Nat) :
    (q.store v (q.written v value)).inRange := by
  obtain ⟨a, b, c, d, e, f, g, i, ⟨above, most⟩, k, levels, nominal, permits, layouts, quotas⟩ := h
  have within (lo hi : Nat) (le : lo ≤ hi) : lo ≤ holdWithin lo hi value ∧ holdWithin lo hi value ≤ hi :=
    ⟨le_holdWithin le value, holdWithin_le le value⟩
  have level (ph : Phase) := (levels_inRange_iff v.levels).mp levels ph
  cases q with
  | routineRepeats => exact ⟨within 1 8 (by decide), b, c, d, e, f, g, i, ⟨above, most⟩, k, levels, nominal, permits, layouts, quotas⟩
  | urgentRepeats => exact ⟨a, within 1 8 (by decide), c, d, e, f, g, i, ⟨above, most⟩, k, levels, nominal, permits, layouts, quotas⟩
  | guardMs => exact ⟨a, b, c, (within 0 10000 (by decide)).2, e, f, g, i, ⟨above, most⟩, k, levels, nominal, permits, layouts, quotas⟩
  | leadS => exact ⟨a, b, c, d, within 60 3600 (by decide), f, g, i, ⟨above, most⟩, k, levels, nominal, permits, layouts, quotas⟩
  | gap => exact ⟨a, b, c, d, e, within 1 4 (by decide), g, i, ⟨above, most⟩, k, levels, nominal, permits, layouts, quotas⟩
  | tolerance => exact ⟨a, b, c, d, e, f, within 1 3 (by decide), i, ⟨above, most⟩, k, levels, nominal, permits, layouts, quotas⟩
  | pollRetries => exact ⟨a, b, (within 0 3 (by decide)).2, d, e, f, g, i, ⟨above, most⟩, k, levels, nominal, permits, layouts, quotas⟩
  | degradeLimit =>
      have limit := within 1 15 (by decide)
      refine ⟨a, b, c, d, e, f, g, limit, ⟨le_max_right _ _, max_le most ?_⟩, k, levels, nominal, permits, layouts, quotas⟩
      exact (Nat.succ_le_succ limit.2).trans (by decide)
  | lostLimit =>
      exact ⟨a, b, c, d, e, f, g, i, within (v.degradeLimit + 1) 31 (by omega), k, levels, nominal, permits, layouts, quotas⟩
  | probePeriod => exact ⟨a, b, c, d, e, f, g, i, ⟨above, most⟩, within 60 7200 (by decide), levels, nominal, permits, layouts, quotas⟩
  | levelMin ph =>
      have low := within 0 63 (by decide)
      refine ⟨a, b, c, d, e, f, g, i, ⟨above, most⟩, k, levels_set_inRange levels ph ?_, nominal, permits, layouts, quotas⟩
      exact ⟨le_max_right _ _, max_le (level ph).2.1 low.2, (level ph).2.2⟩
  | levelMax ph =>
      have high := within 0 63 (by decide)
      refine ⟨a, b, c, d, e, f, g, i, ⟨above, most⟩, k, levels_set_inRange levels ph ?_, nominal, permits, layouts, quotas⟩
      exact ⟨le_max_right _ _, max_le high.2 ((level ph).1.trans (level ph).2.1), (level ph).2.2⟩
  | target ph =>
      have target := within 0 255 (by decide)
      exact ⟨a, b, c, d, e, f, g, i, ⟨above, most⟩, k,
        levels_set_inRange levels ph ⟨(level ph).1, (level ph).2.1, target.2⟩, nominal, permits, layouts, quotas⟩
  | nominal =>
      refine ⟨a, b, c, d, e, f, g, i, ⟨above, most⟩, k, levels, ?_, permits, layouts, quotas⟩
      change (if value < 5500 then 5000 else 6000) = 5000 ∨ (if value < 5500 then 5000 else 6000) = 6000
      split
      · exact .inl rfl
      · exact .inr rfl

/-! ### The settings and the store under each command -/

/-- The store holds a snapshot of settings, or an image of them, as `v` says. -/
theorem SettingsInRange.of_same {s t : State} (settings : t.settings = s.settings) (store : t.store = s.store)
    (h : SettingsInRange s) : SettingsInRange t := by
  unfold SettingsInRange
  rw [settings, store]
  exact h

theorem SettingsInRange.of_within {bs : List Block} {s t : State} (h : Within bs s t)
    (apart : Block.settings ∉ bs ∧ Block.store ∉ bs) (hs : SettingsInRange s) : SettingsInRange t :=
  hs.of_same (h .settings apart.1) (h .store apart.2)

/-- A change of the store that keeps its settings image and its save, or loses one of them. -/
theorem Store.settingsInRange_of {a b : Store} (image : b.settingsImage = a.settingsImage ∨ b.settingsImage = none)
    (save : b.save = a.save ∨ b.save = none) (h : a.settingsInRange) : b.settingsInRange := by
  refine ⟨?_, ?_⟩
  · obtain e | e := image <;> rw [e]
    · exact h.1
    · trivial
  · obtain e | e := save <;> rw [e]
    · exact h.2
    · trivial

theorem Store.written_settingsInRange {a : Store} {v : Save} (save : a.save = some v) (ok : Bool)
    (h : a.settingsInRange) : (a.written v ok).settingsInRange := by
  obtain ⟨snapshot, origin, tag⟩ := v
  obtain ⟨image, saving⟩ := h
  rw [save] at saving
  cases snapshot with
  | settings x =>
      refine ⟨?_, trivial⟩
      cases ok
      · trivial
      · exact saving
  | roster x => exact ⟨image, trivial⟩

theorem State.startSave_settingsInRange {s : State} {p : Port} {tag : Byte} {v : Snapshot} (h : SettingsInRange s)
    (hv : ∀ x, v = .settings x → x.inRange) : SettingsInRange (s.startSave p tag v) := by
  obtain ⟨settings, image, -⟩ := h
  cases v with
  | settings x => exact ⟨settings, trivial, hv x rfl⟩
  | roster x => exact ⟨settings, image, trivial⟩

theorem State.completeHeld_store (s : State) (p : Port) (o : HeldOwner) :
    (s.completeHeld p o).store.settingsImage = s.store.settingsImage ∧
      (s.completeHeld p o).store.rosterImage = s.store.rosterImage ∧ (s.completeHeld p o).store.save = s.store.save := by
  cases o <;> exact ⟨rfl, rfl, rfl⟩

theorem State.offerHeld_store (s : State) (p : Port) (o : HeldOwner) :
    (s.offerHeld p o).store.settingsImage = s.store.settingsImage ∧
      (s.offerHeld p o).store.rosterImage = s.store.rosterImage ∧ (s.offerHeld p o).store.save = s.store.save := by
  obtain h | h | ⟨i, -, h⟩ := s.offerHeld_cases p o <;> rw [h]
  · exact ⟨rfl, rfl, rfl⟩
  · exact ⟨rfl, rfl, rfl⟩
  · exact State.completeHeld_store _ p o

theorem State.offerHeld_settings (s : State) (p : Port) (o : HeldOwner) : (s.offerHeld p o).settings = s.settings := by
  obtain h | h | ⟨i, -, h⟩ := s.offerHeld_cases p o <;> rw [h]
  · rfl
  · cases o <;> rfl

theorem State.queueHeld_store (s : State) (p : Port) (o : HeldOwner) :
    (s.queueHeld p o).settings = s.settings ∧ (s.queueHeld p o).store.settingsImage = s.store.settingsImage ∧
      (s.queueHeld p o).store.rosterImage = s.store.rosterImage ∧ (s.queueHeld p o).store.save = s.store.save := by
  unfold State.queueHeld
  split
  · cases o <;> exact ⟨rfl, rfl, rfl, rfl⟩
  · exact ⟨rfl, rfl, rfl, rfl⟩

/-- The settings and the store as a start-up leaves them (R185). -/
theorem State.startUp_settings (s : State) (a b : Bool) (f : FaultRec) :
    (s.startUp a b f).settings =
        (match (s.store.atStart a b).settingsImage with | some v => v.loaded | none => Settings.factory) ∧
      (s.startUp a b f).store.settingsImage = (s.store.atStart a b).settingsImage ∧
      (s.startUp a b f).store.save = none := by
  have loaded (t : State) : t.loadSettings.settings =
        (match t.store.settingsImage with | some v => v.loaded | none => Settings.factory) ∧
      t.loadSettings.store.settingsImage = t.store.settingsImage ∧ t.loadSettings.store.save = t.store.save := by
    unfold State.loadSettings
    cases image : t.store.settingsImage with
    | some v => exact ⟨rfl, image, rfl⟩
    | none =>
        dsimp only
        rw [State.post_fault]
        exact ⟨rfl, image, rfl⟩
  have roster (t : State) : t.loadRoster.settings = t.settings ∧
      t.loadRoster.store.settingsImage = t.store.settingsImage ∧ t.loadRoster.store.save = t.store.save := by
    unfold State.loadRoster
    split
    · dsimp only
      split
      · rw [State.post_fault]
        exact ⟨rfl, rfl, rfl⟩
      · exact ⟨rfl, rfl, rfl⟩
    · rw [State.post_fault]
      exact ⟨rfl, rfl, rfl⟩
  have figured (t : State) : t.figureAll.settings = t.settings ∧ t.figureAll.store = t.store :=
    foldl_frame (fun s t => t.settings = s.settings ∧ t.store = s.store) (fun _ => ⟨rfl, rfl⟩)
      (fun h k => ⟨k.1.trans h.1, k.2.trans h.2⟩) State.refigure (fun s g => ⟨rfl, rfl⟩) _ t
  have applied (t : State) : t.applySettings.settings = t.settings ∧ t.applySettings.store = t.store := ⟨rfl, rfl⟩
  unfold State.startUp
  rw [(applied _).1, (applied _).2, (figured _).1, (figured _).2, (roster _).1, (roster _).2.1, (roster _).2.2,
    (loaded _).1, (loaded _).2.1, (loaded _).2.2]
  exact ⟨rfl, rfl, rfl⟩

theorem State.startUp_settingsInRange {s : State} (h : SettingsInRange s) (a b : Bool) (f : FaultRec) :
    SettingsInRange (s.startUp a b f) := by
  obtain ⟨settings, image, save⟩ := s.startUp_settings a b f
  have old : (match (s.store.atStart a b).settingsImage with | some v => v.inRange | none => True) := by
    cases a
    · exact h.2.1
    · trivial
  refine ⟨?_, ?_, by rw [save]; trivial⟩
  · rw [settings]
    split
    · rename_i v stored
      rw [stored] at old
      exact Settings.loaded_inRange old
    · exact Settings.factory_inRange
  · rw [image]
    exact old

/-- Every command that touches the settings or the store keeps their ranges. -/
theorem exec_settingsInRange {c : Instr} {s t : State} (plain : serves c = false)
    (touched : (touches c).any [Block.settings, .store].contains = true) (run : exec c s = .next t)
    (hs : SettingsInRange s) : SettingsInRange t := by
  cases c with
  | powerOn a b => cases run; exact State.startUp_settingsInRange hs a b _
  | pinReset a b => cases run; exact State.startUp_settingsInRange hs a b _
  | applyProfile p tag q =>
      obtain ⟨-, rfl⟩ | ⟨-, rfl⟩ := whenTaken_cases run
      · split
        · exact hs
        · split
          · refine SettingsInRange.of_within (State.retireSince_within _ _) (by decide) ?_
            refine SettingsInRange.of_within (State.recomputeAll_cal _).within (by decide) ?_
            exact ⟨Settings.withProfile_inRange hs.1 _, hs.2⟩
          · exact hs
      · exact hs
  | setParameter p tag a =>
      obtain ⟨-, rfl⟩ | ⟨-, rfl⟩ := whenTaken_cases run
      · split
        · exact hs
        · split
          · refine SettingsInRange.of_within (State.retireSince_within _ _) (by decide) ?_
            refine SettingsInRange.of_within (State.parameterEffects_within _ _) (by decide) ?_
            exact ⟨Parameter.store_inRange hs.1 _ _, hs.2⟩
          · exact hs
      · exact hs
  | setGroupPermit p tag g q =>
      obtain ⟨-, rfl⟩ | ⟨-, rfl⟩ := whenTaken_cases run
      · split
        · exact hs
        · split
          · split
            · exact hs
            · obtain ⟨⟨a, b, c, d, e, f, g, i, l, k, levels, nominal, permits, layouts, quotas⟩, store⟩ := hs
              exact ⟨⟨a, b, c, d, e, f, g, i, l, k, levels, nominal, (List.length_set ..).trans permits, layouts, quotas⟩,
                store⟩
          · exact hs
      · exact hs
  | setQuota p tag l qa qb =>
      obtain ⟨-, rfl⟩ | ⟨-, rfl⟩ := whenTaken_cases run
      · split_ifs with apart bad busy
        · exact hs
        · exact hs
        · exact hs
        · have written : Settings.inRange { s.settings with
              nextLayout := l.toNat, nextQuota := ⟨min qa.toNat 192, min qb.toNat 192⟩ } := by
            obtain ⟨⟨a, b, c, d, e, f, g, i, o, k, levels, nominal, permits, layouts, quotas⟩, -⟩ := hs
            exact ⟨a, b, c, d, e, f, g, i, o, k, levels, nominal, permits, ⟨layouts.1, Nat.not_lt.mp bad⟩,
              quotas.1, quotas.2.1, min_le_right _ _, min_le_right _ _⟩
          refine State.startSave_settingsInRange ⟨written, hs.2⟩ fun x hx => ?_
          cases hx
          exact written
      · exact hs
  | saveSettings p tag =>
      obtain ⟨-, rfl⟩ | ⟨-, rfl⟩ := whenTaken_cases run
      · split
        · exact hs
        · exact State.startSave_settingsInRange hs fun x hx => by cases hx; exact hs.1
      · exact hs
  | saveRoster p tag =>
      obtain ⟨-, rfl⟩ | ⟨-, rfl⟩ := whenTaken_cases run
      · split
        · exact hs
        · exact State.startSave_settingsInRange hs fun x hx => by cases hx
      · exact hs
  | resetPort p tag =>
      obtain ⟨-, rfl⟩ | ⟨-, rfl⟩ := whenTaken_cases run
      · refine SettingsInRange.of_within (State.noteLine_ports _ _ _).within (by decide) ?_
        exact ⟨hs.1, Store.settingsInRange_of (.inl rfl) (.inl rfl) hs.2⟩
      · exact hs
  | heldNoticeQueued p =>
      cases run
      split
      · split
        · obtain ⟨settings, image, -, save⟩ := State.queueHeld_store (s.modPort p _) p _
          exact ⟨settings ▸ hs.1, Store.settingsInRange_of (.inl image) (.inl save) hs.2⟩
        · exact hs
      · exact hs
  | eraseEnd =>
      cases run
      split
      · exact hs
      · exact hs
  | writeEnd ok =>
      cases run
      split
      · rename_i v save
        split
        · have written : SettingsInRange (if ok then { s with store := s.store.written v ok }
              else ({ s with store := s.store.written v ok } : State).post (.storeWrite v.snapshot.image)) := by
            have stored : SettingsInRange { s with store := s.store.written v ok } :=
              ⟨hs.1, Store.written_settingsInRange save ok hs.2⟩
            split
            · exact stored
            · exact stored.of_within (State.post_fault _ _).within (by decide)
          unfold State.endWrite
          dsimp only
          obtain ⟨image, -, saving⟩ := State.offerHeld_store (if ok then { s with store := s.store.written v ok }
              else ({ s with store := s.store.written v ok } : State).post (.storeWrite v.snapshot.image)) v.origin
              .storeDone
          refine ⟨?_, Store.settingsInRange_of (.inl image) (.inl saving) written.2⟩
          rw [State.offerHeld_settings]
          exact written.1
        · exact hs
      · exact hs
  | commandTransfer | fetchTransfer => cases plain
  | _ => cases touched

/-- Every command but the transfers keeps the ranges of the settings. -/
theorem exec_settingsInRange_of_not_serves {c : Instr} {s t : State} (plain : serves c = false)
    (run : exec c s = .next t) (hs : SettingsInRange s) : SettingsInRange t := by
  by_cases touched : (touches c).any [Block.settings, .store].contains = true
  · exact exec_settingsInRange plain touched run hs
  · refine hs.of_within (exec_within_of_not_serves plain run) ⟨fun h => touched ?_, fun h => touched ?_⟩
    · exact List.any_eq_true.mpr ⟨_, h, rfl⟩
    · exact List.any_eq_true.mpr ⟨_, h, rfl⟩

/-! ### Relations made of others -/

section
variable {R Q : State → State → Prop}

/-- What holds over the elementary changes of the calendar holds in a coarser relation. -/
theorem FreeEdits.imp (hR : FreeEdits R) (refl : ∀ s, Q s s) (trans : ∀ {s t u}, Q s t → Q t u → Q s u)
    (sub : ∀ {s t}, R s t → Q s t) : FreeEdits Q where
  refl := refl
  trans := trans
  offer s p k c := sub (hR.offer s p k c)
  noteAny s h f n := sub (hR.noteAny s h f n)
  decideAny s h := sub (hR.decideAny s h)
  finishAny s h ph f b := sub (hR.finishAny s h ph f b)
  ready s h ph e x y := sub (hR.ready s h ph e x y)
  wait s h ph e x y := sub (hR.wait s h ph e x y)
  replan s h := sub (hR.replan s h)
  giveUp s ph h := sub (hR.giveUp s ph h)

theorem FreeEdits.and (hR : FreeEdits R) (hQ : FreeEdits Q) : FreeEdits (fun s t => R s t ∧ Q s t) where
  refl s := ⟨hR.refl s, hQ.refl s⟩
  trans h k := ⟨hR.trans h.1 k.1, hQ.trans h.2 k.2⟩
  offer s p k c := ⟨hR.offer s p k c, hQ.offer s p k c⟩
  noteAny s h f n := ⟨hR.noteAny s h f n, hQ.noteAny s h f n⟩
  decideAny s h := ⟨hR.decideAny s h, hQ.decideAny s h⟩
  finishAny s h ph f b := ⟨hR.finishAny s h ph f b, hQ.finishAny s h ph f b⟩
  ready s h ph e x y := ⟨hR.ready s h ph e x y, hQ.ready s h ph e x y⟩
  wait s h ph e x y := ⟨hR.wait s h ph e x y, hQ.wait s h ph e x y⟩
  replan s h := ⟨hR.replan s h, hQ.replan s h⟩
  giveUp s ph h := ⟨hR.giveUp s ph h, hQ.giveUp s ph h⟩

theorem FreeKeeps.imp (hR : FreeKeeps R) (refl : ∀ s, Q s s) (trans : ∀ {s t u}, Q s t → Q t u → Q s u)
    (sub : ∀ {s t}, R s t → Q s t) : FreeKeeps Q :=
  { hR.toFreeEdits.imp refl trans sub with join := fun s h => sub (hR.join s h) }

theorem FreeKeeps.and (hR : FreeKeeps R) (hQ : FreeKeeps Q) : FreeKeeps (fun s t => R s t ∧ Q s t) :=
  { hR.toFreeEdits.and hQ.toFreeEdits with join := fun s h => ⟨hR.join s h, hQ.join s h⟩ }

theorem WorkSteps.imp (hR : WorkSteps R) (refl : ∀ s, Q s s) (trans : ∀ {s t u}, Q s t → Q t u → Q s u)
    (sub : ∀ {s t}, R s t → Q s t) : WorkSteps Q where
  toFreeEdits := hR.toFreeEdits.imp refl trans sub
  post s f := sub (hR.post s f)
  settleLine s := sub (hR.settleLine s)
  markQuiet s ph := sub (hR.markQuiet s ph)
  clearWork s ph := sub (hR.clearWork s ph)
  halted s ph := sub (hR.halted s ph)
  silent s ph := sub (hR.silent s ph)
  unregister s ph := sub (hR.unregister s ph)
  started s ph c t x y := sub (hR.started s ph c t x y)
  goOn s ph c t x y := sub (hR.goOn s ph c t x y)
  suspend s h ph := sub (hR.suspend s h ph)
  send s h ph := sub (hR.send s h ph)
  floodOff s ph := sub (hR.floodOff s ph)
  sent s h ph f x y := sub (hR.sent s h ph f x y)
  closeOpen s ph := sub (hR.closeOpen s ph)
  gap s ph := sub (hR.gap s ph)
  absent s ph := sub (hR.absent s ph)
  lost s ph := sub (hR.lost s ph)
  requeue s ph := sub (hR.requeue s ph)
  relist s ph x y z := sub (hR.relist s ph x y z)
  restack s ph := sub (hR.restack s ph)
  sample s ph n := sub (hR.sample s ph n)
  count s ph b := sub (hR.count s ph b)
  inFlight s ph r := sub (hR.inFlight s ph r)

theorem WorkSteps.and (hR : WorkSteps R) (hQ : WorkSteps Q) : WorkSteps (fun s t => R s t ∧ Q s t) where
  toFreeEdits := hR.toFreeEdits.and hQ.toFreeEdits
  post s f := ⟨hR.post s f, hQ.post s f⟩
  settleLine s := ⟨hR.settleLine s, hQ.settleLine s⟩
  markQuiet s ph := ⟨hR.markQuiet s ph, hQ.markQuiet s ph⟩
  clearWork s ph := ⟨hR.clearWork s ph, hQ.clearWork s ph⟩
  halted s ph := ⟨hR.halted s ph, hQ.halted s ph⟩
  silent s ph := ⟨hR.silent s ph, hQ.silent s ph⟩
  unregister s ph := ⟨hR.unregister s ph, hQ.unregister s ph⟩
  started s ph c t x y := ⟨hR.started s ph c t x y, hQ.started s ph c t x y⟩
  goOn s ph c t x y := ⟨hR.goOn s ph c t x y, hQ.goOn s ph c t x y⟩
  suspend s h ph := ⟨hR.suspend s h ph, hQ.suspend s h ph⟩
  send s h ph := ⟨hR.send s h ph, hQ.send s h ph⟩
  floodOff s ph := ⟨hR.floodOff s ph, hQ.floodOff s ph⟩
  sent s h ph f x y := ⟨hR.sent s h ph f x y, hQ.sent s h ph f x y⟩
  closeOpen s ph := ⟨hR.closeOpen s ph, hQ.closeOpen s ph⟩
  gap s ph := ⟨hR.gap s ph, hQ.gap s ph⟩
  absent s ph := ⟨hR.absent s ph, hQ.absent s ph⟩
  lost s ph := ⟨hR.lost s ph, hQ.lost s ph⟩
  requeue s ph := ⟨hR.requeue s ph, hQ.requeue s ph⟩
  relist s ph x y z := ⟨hR.relist s ph x y z, hQ.relist s ph x y z⟩
  restack s ph := ⟨hR.restack s ph, hQ.restack s ph⟩
  sample s ph n := ⟨hR.sample s ph n, hQ.sample s ph n⟩
  count s ph b := ⟨hR.count s ph b, hQ.count s ph b⟩
  inFlight s ph r := ⟨hR.inFlight s ph r, hQ.inFlight s ph r⟩

theorem WorkKeeps.imp (hR : WorkKeeps R) (refl : ∀ s, Q s s) (trans : ∀ {s t u}, Q s t → Q t u → Q s u)
    (sub : ∀ {s t}, R s t → Q s t) : WorkKeeps Q :=
  { hR.toFreeKeeps.imp refl trans sub, hR.toWorkSteps.imp refl trans sub with }

theorem WorkKeeps.and (hR : WorkKeeps R) (hQ : WorkKeeps Q) : WorkKeeps (fun s t => R s t ∧ Q s t) :=
  { hR.toFreeKeeps.and hQ.toFreeKeeps, hR.toWorkSteps.and hQ.toWorkSteps with }

end

/-! ### Events made of the channels' work -/

section
variable {R : State → State → Prop} (hR : WorkSteps R)
include hR

theorem WorkSteps.acceptCrossing (record : ∀ s ph r, R s (s.setPhaseRec ph r)) (returned : ∀ s ph, R s (s.returnPhase ph))
    (s : State) (ph : Phase) (c : Crossing) (d : Nat) (noise : Int) (b : Bool) :
    R s (s.acceptCrossing ph c d noise b) := by
  unfold State.acceptCrossing
  dsimp only
  split_ifs
  · exact hR.trans (record s ph _) (hR.handCrossing _ ph noise b)
  · exact hR.trans (record s ph _) (hR.handCrossing _ ph noise b)
  · exact hR.trans (hR.trans (record s ph _) (returned _ ph)) (hR.handCrossing _ ph noise b)
  · exact record s ph _
  · exact record s ph _

theorem WorkSteps.reportCrossing (record : ∀ s ph r, R s (s.setPhaseRec ph r)) (returned : ∀ s ph, R s (s.returnPhase ph))
    (s : State) (ph : Phase) (instant : Nat) (noise : Int) (b : Bool) :
    R s (s.reportCrossing ph instant noise b) := by
  unfold State.reportCrossing
  dsimp only
  split
  · exact record s ph _
  · split_ifs
    · exact hR.refl s
    · exact hR.trans (hR.trans (record s ph _) (hR.losePhase s ph)) (record _ ph _)
    · exact hR.acceptCrossing record returned s ph _ _ noise b

theorem WorkSteps.endProbe (off : ∀ s ph, R s (s.modDisc ph (fun d => { d with probe := none })))
    (advance : ∀ s ph, R s (s.advanceOrigin ph)) (s : State) (ph : Phase) : R s (s.endProbe ph) := by
  have searched (t : State) : R t
      (if (t.disc ph).state = .probing ∧ (t.disc ph).stack = [] then t.advanceOrigin ph else t) := by
    split
    · exact advance t ph
    · exact hR.refl t
  exact hR.trans (hR.trans (off s ph) (searched _)) (hR.clearAfter _ ph)

theorem WorkSteps.endWindow (off : ∀ s ph, R s (s.modDisc ph (fun d => { d with probe := none })))
    (advance : ∀ s ph, R s (s.advanceOrigin ph))
    (next : ∀ s ph w, R s (s.modChan ph (fun c => { c with work := some (.probe w) })))
    {s : State} {ph : Phase} {p : ProbeInFlight} (applied : ∀ k w, R s (s.applyWindow ph p k w)) (r : ProbeRun)
    (heard : List WindowFrame) : R s (s.endWindow ph r p heard) := by
  unfold State.endWindow
  dsimp only
  split
  · exact hR.trans (applied _ _) (hR.endProbe off advance _ ph)
  · exact hR.trans (applied _ _) (next _ ph _)

end

/-! ### The transmit levels (R138) -/

theorem levelsInRange_iff (s : State) :
    LevelsInRange s ↔ SettingsInRange s ∧ ∀ ph, (s.levelRec ph).inRange (s.settings.levels.get ph) :=
  and_congr_right fun _ =>
    ⟨fun ⟨h1, h2, h3⟩ ph => by cases ph; exacts [h1, h2, h3], fun h => ⟨h .L1, h .L2, h .L3⟩⟩

theorem SettingsInRange.low_le_high {s : State} (h : SettingsInRange s) (ph : Phase) :
    (s.settings.levels.get ph).low ≤ (s.settings.levels.get ph).high := by
  obtain ⟨-, -, -, -, -, -, -, -, -, -, levels, -⟩ := h.1
  exact ((levels_inRange_iff _).mp levels ph).1

theorem LevelRec.close_inRange {l : LevelRec} {v : LevelSettings} (h : l.inRange v) (m : Nat) :
    (l.close v m).inRange v := by
  obtain ⟨low, high⟩ := h
  by_cases short : m + l.tolerance < v.target
  · rw [l.close_of_short v m short]
    exact ⟨le_min (low.trans high) (low.trans (Nat.le_add_right _ _)), min_le_left _ _⟩
  · by_cases above : v.target + l.tolerance < m
    · rw [l.close_of_above v m above]
      exact ⟨le_max_left _ _, max_le (low.trans high) ((Nat.sub_le _ _).trans high)⟩
    · rw [l.close_of_inBand v m (Nat.not_lt.mp short) (Nat.not_lt.mp above)]
      exact ⟨low, high⟩

theorem LevelRec.sample_inRange {l : LevelRec} {v : LevelSettings} (h : l.inRange v) (downlink : Nat) :
    (l.sample v downlink).inRange v := by
  unfold LevelRec.sample
  dsimp only
  split
  · exact LevelRec.close_inRange h _
  · exact h

theorem LevelRec.within_inRange {v : LevelSettings} (h : v.low ≤ v.high) (l : LevelRec) : (l.within v).inRange v :=
  ⟨le_holdWithin h _, holdWithin_le h _⟩

/-- The levels of the channels are the same, whatever reaches their amplifiers. -/
def SameLevels (s t : State) : Prop := ∀ ph, (t.levelRec ph).level = (s.levelRec ph).level

theorem SameLevels.refl (s : State) : SameLevels s s := fun _ => rfl
theorem SameLevels.trans {s t u : State} (h : SameLevels s t) (k : SameLevels t u) : SameLevels s u :=
  fun ph => (k ph).trans (h ph)

theorem SameLevels.of_levels {s t : State} (h : t.levels = s.levels) : SameLevels s t :=
  fun ph => by rw [State.levelRec, h]; rfl

theorem State.transmit_sameLevels (s : State) (ph : Phase) (w : Work) : SameLevels s (s.transmit ph w) := by
  intro q
  by_cases hq : q = ph
  · subst hq
    rw [State.transmit, State.levelRec_modLevel_self]
    rfl
  · rw [State.transmit, State.levelRec_modLevel_ne _ _ hq]
    rfl

theorem State.sendRepeat_sameLevels (s : State) (h : Nat) (ph : Phase) : SameLevels s (s.sendRepeat h ph) := by
  unfold State.sendRepeat
  split
  · exact s.transmit_sameLevels ph _
  · exact SameLevels.refl s

theorem State.startPart_sameLevels (s : State) (h : Nat) (ph : Phase) : SameLevels s (s.startPart h ph) := by
  unfold State.startPart
  split
  · rename_i e _
    have begun : SameLevels s (if e.sequence.isNone then s.beginSending e else s) := by
      split
      · refine SameLevels.of_levels ?_
        unfold State.beginSending
        dsimp only
        rw [State.offer_ports]
        rfl
      · exact SameLevels.refl s
    exact begun.trans (State.sendRepeat_sameLevels _ h ph)
  · exact SameLevels.refl s

theorem State.advanceOrigin_levels (s : State) (ph : Phase) : (s.advanceOrigin ph).levels = s.levels := by
  unfold State.advanceOrigin
  dsimp only
  split <;> rfl

theorem Starts.sameLevels {s t : State} {ph : Phase} {c : Choice} (h : Starts s ph c t) : SameLevels s t := by
  cases h with
  | part h => exact s.startPart_sameLevels h ph
  | resume h => exact State.sendRepeat_sameLevels _ h ph
  | confirm | ping | registration => exact State.transmit_sameLevels _ ph _
  | probe => exact State.transmit_sameLevels _ ph _

theorem State.offerHeld_ping_levels (s : State) (p : Port) (ph : Phase) :
    (s.offerHeld p (.ping ph)).levels = s.levels := by
  obtain h | h | ⟨i, -, h⟩ := s.offerHeld_cases p (.ping ph) <;> rw [h] <;> rfl

theorem State.completeQueued_levels (s : State) (ph : Phase) (r : PingResult) :
    (s.completeQueued ph r).levels = s.levels := by
  unfold State.completeQueued
  split
  · exact State.offerHeld_ping_levels _ _ _
  · rfl

theorem State.settleConfirm_levels (s : State) (h : Nat) : (s.settleConfirm h).levels = s.levels := by
  rw [s.settleConfirm_cal]

theorem GoesOn.levels {s t : State} {ph : Phase} {c : Choice} (h : GoesOn s ph c t) : t.levels = s.levels := by
  cases h with
  | notReached => exact State.settleConfirm_levels _ _
  | unconfirmed => exact State.settleConfirm_levels _ _
  | notSent => exact s.completeQueued_levels ph _
  | origin => exact State.advanceOrigin_levels _ ph
  | _ => rfl

/-- The work of the channels leaves their levels as they are: a frame takes its level to the amplifier (R142). -/
theorem sameLevels_workKeeps : WorkKeeps SameLevels where
  toFreeKeeps := FreeKeeps.of_frame SameLevels.refl SameLevels.trans fun s t h => .of_levels (by rw [h])
  post s f := .of_levels (by rw [s.post_fault])
  settleLine s := .of_levels (by rw [s.settleLine_work])
  markQuiet _ _ := .of_levels rfl
  clearWork _ _ := .of_levels rfl
  halted _ _ := .of_levels rfl
  silent s ph := .of_levels (s.completeQueued_levels ph _)
  unregister _ _ := .of_levels rfl
  started _ _ _ _ _ h := (Starts.of_serve h).sameLevels
  goOn _ _ _ _ _ h := .of_levels (GoesOn.of_serve h).levels
  suspend _ _ _ := .of_levels rfl
  send s h ph := s.sendRepeat_sameLevels h ph
  floodOff _ _ := .of_levels rfl
  sent _ _ _ _ _ _ := .of_levels rfl
  closeOpen _ _ := .of_levels rfl
  gap _ _ := .of_levels rfl
  absent _ _ := .of_levels rfl
  lost _ _ := .of_levels rfl
  requeue s ph := .of_levels (by unfold State.requeueInFlight; split <;> (try split) <;> rfl)
  relist _ _ _ _ _ := .of_levels rfl
  restack _ _ := .of_levels rfl
  sample s ph noise := .of_levels (by
    unfold State.sampleSlot State.offerSurvey
    dsimp only
    split
    · split
      · split
        · rename_i p _
          obtain h | h | ⟨i, -, h⟩ := State.offerHeld_cases ((s.modSurvey ph _).modSurvey ph _) p (.survey ph) <;>
            rw [h] <;> rfl
        · rfl
      · rfl
    · rfl)
  count _ _ _ := .of_levels rfl
  inFlight s ph r := .of_levels (by
    unfold State.completeInFlight
    split
    · split
      · rfl
      · exact State.offerHeld_ping_levels _ _ _
    · rfl)

/-- The levels of the channels are within the ranges of the settings. -/
def LevelsWithin (s : State) : Prop := ∀ ph, (s.levelRec ph).inRange (s.settings.levels.get ph)

theorem LevelsWithin.of_same {s t : State} (settings : t.settings = s.settings) (same : SameLevels s t)
    (h : LevelsWithin s) : LevelsWithin t := by
  intro ph
  obtain ⟨low, high⟩ := h ph
  unfold LevelRec.inRange
  rw [settings, same ph]
  exact ⟨low, high⟩

/-- A reply's sample keeps the levels within their ranges. -/
theorem State.applyReply_levelsWithin {s : State} (h : LevelsWithin s) (ph : Phase) (x : Exchange) (r : ReplyReading)
    (uplink : Nat) (seed : Bool) : LevelsWithin (s.applyReply ph x r uplink seed) := by
  have sampled (v : UnitRec) : LevelsWithin
      (if x.hops = 0 then
        (s.modUnit x.index (fun _ => v)).modLevel ph (fun l => l.sample (s.settings.levels.get ph) r.downlink)
       else s.modUnit x.index (fun _ => v)) := by
    split
    · intro q
      by_cases hq : q = ph
      · subst hq
        rw [State.levelRec_modLevel_self]
        exact LevelRec.sample_inRange (h q) _
      · rw [State.levelRec_modLevel_ne _ _ hq]
        exact h q
    · exact h
  unfold State.applyReply
  split
  · exact h
  · split
    · dsimp only
      split
      · refine (sampled _).of_same ?_ (.of_levels (State.recomputeGroups_keeps _ _).2)
        rw [State.recomputeGroups_roster]
      · exact sampled _
    · exact h

theorem State.applySilence_sameLevels (s : State) (i : Nat) (a : Address) : SameLevels s (s.applySilence i a) := by
  unfold State.applySilence
  split
  · exact SameLevels.refl s
  · split
    · have lost (v : UnitRec) : SameLevels s ((s.modUnit i (fun _ => v)).noticeLost s.roster .silence) :=
        .of_levels (by rw [State.noticeLost_ports]; rfl)
      dsimp only
      split
      · exact (lost _).trans (.of_levels (State.recomputeGroups_keeps _ _).2)
      · exact lost _
    · exact SameLevels.refl s

theorem State.applyWindow_sameLevels (s : State) (ph : Phase) (p : ProbeInFlight) (k : Nat) (w : WindowResult) :
    SameLevels s (s.applyWindow ph p k w) := by
  have register (s : State) (i : Nat) (a : Address) : (s.register ph i a).levels = s.levels := by
    unfold State.register
    split <;> rfl
  unfold State.applyWindow
  split
  · split
    · have noted (after : Roster) (a : Address) (i : Nat) :
          SameLevels s ((State.noticeLost { s with roster := after } s.roster .route).register ph i a) :=
        .of_levels (by rw [register, State.noticeLost_ports])
      unfold State.updateFound
      dsimp only
      split
      · exact (noted _ _ _).trans (.of_levels (State.recomputeGroups_keeps _ _).2)
      · exact noted _ _ _
    · unfold State.recordFound
      split
      · exact .of_levels (by rw [State.post_fault])
      · refine .of_levels ((State.recomputeGroups_keeps _ _).2.trans ?_)
        rw [State.offerBoth_ports]
        exact register _ _ _
  · exact .of_levels rfl
  · exact SameLevels.refl s

/-- The levels as a start-up leaves them: each at 40 brought within its range (R138). -/
theorem State.startUp_levelRec (s : State) (a b : Bool) (f : FaultRec) (ph : Phase) :
    (s.startUp a b f).levelRec ph =
      LevelRec.fresh (holdWithin ((s.startUp a b f).settings.levels.get ph).low
        ((s.startUp a b f).settings.levels.get ph).high 40) := by
  cases ph <;> rfl

theorem State.reacquireAll_sameLevels (s : State) : SameLevels s s.reacquireAll := by
  intro ph
  cases ph <;> rfl

/-- SET PARAMETER brings a level within its channel's new range (R143). -/
theorem State.parameterEffects_levelsWithin {s : State} {q : Parameter} {v : Settings} {w : Nat}
    (settings : s.settings = q.store v w) (inRange : s.settings.inRange)
    (before : ∀ ph, (s.levelRec ph).inRange (v.levels.get ph)) : LevelsWithin (s.parameterEffects q) := by
  have low (ph : Phase) : (s.settings.levels.get ph).low ≤ (s.settings.levels.get ph).high := by
    obtain ⟨-, -, -, -, -, -, -, -, -, -, levels, -⟩ := inRange
    exact ((levels_inRange_iff _).mp levels ph).1
  have same (h : s.settings.levels = v.levels) : LevelsWithin s := fun ph => h ▸ before ph
  have leveled (ph : Phase) (h : ∀ k ≠ ph, s.settings.levels.get k = v.levels.get k) :
      LevelsWithin (s.modLevel ph (fun l => (l.reacquire).within (s.settings.levels.get ph))) := by
    intro k
    by_cases hk : k = ph
    · subst hk
      rw [State.levelRec_modLevel_self]
      exact LevelRec.within_inRange (low k) _
    · rw [State.levelRec_modLevel_ne _ _ hk]
      exact (h k hk) ▸ before k
  have replanned (h : s.settings.levels = v.levels) : LevelsWithin s.recomputeAll :=
    (same h).of_same (by rw [State.recomputeAll_cal]) (.of_levels (by rw [State.recomputeAll_cal]))
  have others (ph k : Phase) (l : LevelSettings) (hk : k ≠ ph) (h : s.settings.levels = v.levels.set ph l) :
      s.settings.levels.get k = v.levels.get k := by
    rw [h, Tri.get_set_ne _ _ hk]
  cases q with
  | routineRepeats | urgentRepeats | guardMs | leadS | gap => exact replanned (by rw [settings]; rfl)
  | levelMin ph | levelMax ph => exact leveled ph fun k hk => others ph k _ hk (by rw [settings]; rfl)
  | target ph =>
      intro k
      by_cases hk : k = ph
      · subst hk
        rw [State.parameterEffects, State.levelRec_modLevel_self]
        have range := before k
        have target : s.settings.levels.get k = { v.levels.get k with target := w } := by
          rw [settings]
          exact Tri.get_set_self ..
        change (s.levelRec k).inRange (s.settings.levels.get k)
        rw [target]
        exact range
      · rw [State.parameterEffects, State.levelRec_modLevel_ne _ _ hk]
        exact (others ph k _ hk (by rw [settings]; rfl)) ▸ before k
  | tolerance | pollRetries | degradeLimit | lostLimit | probePeriod | nominal => exact same (by rw [settings]; rfl)

/-- The work of the channels keeps the levels within their ranges: a reply's sample too. -/
theorem State.endExchange_levelsWithin {s : State} (h : LevelsWithin s) (ph : Phase) (x : Exchange)
    (reply : Option (ReplyReading × Nat)) : LevelsWithin (s.endExchange ph x reply) := by
  have keeps : WorkKeeps (fun s t => LevelsWithin s → LevelsWithin t) :=
    (sameLevels_workKeeps.and frame_workKeeps).imp (fun _ => id) (fun h k hs => k (h hs)) fun h hs =>
      hs.of_same (h.2.within .settings (by decide)) h.1
  refine keeps.endExchange (fun r uplink seed hs => State.applyReply_levelsWithin hs ph x r uplink seed) (fun hs => ?_)
    reply h
  exact hs.of_same ((State.applySilence_roster s _ _).within .settings (by decide)) (s.applySilence_sameLevels _ _)

/-- Every command that touches the settings or the levels keeps the levels within their ranges. -/
theorem exec_levelsWithin {c : Instr} {s t : State} (plain : serves c = false)
    (touched : (touches c).any [Block.settings, .levels].contains = true) (run : exec c s = .next t)
    (hs : LevelsInRange s) : LevelsWithin t := by
  have settings_in : SettingsInRange t := exec_settingsInRange_of_not_serves plain run hs.1
  have levels : LevelsWithin s := ((levelsInRange_iff s).mp hs).2
  have started (a b : Bool) (f : FaultRec) (h : SettingsInRange (s.startUp a b f)) : LevelsWithin (s.startUp a b f) := by
    intro ph
    rw [State.startUp_levelRec]
    exact LevelRec.within_inRange (l := LevelRec.fresh 40) (h.low_le_high ph)
  have same {u : State} (h : LevelsWithin u) : LevelsWithin (u.retireSince s) :=
    h.of_same (by rw [State.retireSince_cal]) (.of_levels (by rw [State.retireSince_cal]))
  have worked {u : State} (h : SameLevels s u) (k : Within (.mains :: workBlocks) s u) : LevelsWithin (u.retireSince s) :=
    same (levels.of_same (k .settings (by decide)) h)
  have record (s : State) (ph : Phase) (r : PhaseRec) : SameLevels s (s.setPhaseRec ph r) := .of_levels rfl
  cases c with
  | powerOn a b => cases run; exact started a b _ settings_in
  | pinReset a b => cases run; exact started a b _ settings_in
  | applyProfile p tag q =>
      obtain ⟨-, rfl⟩ | ⟨-, rfl⟩ := whenTaken_cases run
      · split
        · exact levels
        · split
          · rename_i q _
            refine same (LevelsWithin.of_same (s := State.reacquireAll { s with settings := s.settings.withProfile q })
              ?_ (.of_levels ?_) ?_)
            · rw [State.recomputeAll_cal]
              rfl
            · rw [State.recomputeAll_cal]
              rfl
            · intro ph
              have kept : ((s.settings.withProfile q).levels.get ph) = s.settings.levels.get ph := by cases q <;> rfl
              change LevelRec.inRange _ ((s.settings.withProfile q).levels.get ph)
              rw [kept]
              exact ⟨(State.reacquireAll_sameLevels { s with settings := s.settings.withProfile q } ph).symm ▸ (levels ph).1,
                (State.reacquireAll_sameLevels { s with settings := s.settings.withProfile q } ph).symm ▸ (levels ph).2⟩
          · exact levels
      · exact levels
  | setParameter p tag a =>
      obtain ⟨-, rfl⟩ | ⟨-, rfl⟩ := whenTaken_cases run
      · split
        · exact levels
        · split
          · refine LevelsWithin.of_same (State.retireSince_within _ _ .settings (by decide))
              (.of_levels (State.retireSince_within _ _ .levels (by decide))) ?_
            exact State.parameterEffects_levelsWithin rfl (Parameter.store_inRange hs.1.1 _ _) levels
          · exact levels
      · exact levels
  | setGroupPermit p tag g q =>
      obtain ⟨-, rfl⟩ | ⟨-, rfl⟩ := whenTaken_cases run
      · split
        · exact levels
        · split
          · split
            · exact levels
            · exact levels
          · exact levels
      · exact levels
  | setQuota p tag l qa qb =>
      obtain ⟨-, rfl⟩ | ⟨-, rfl⟩ := whenTaken_cases run
      · split_ifs <;> exact levels
      · exact levels
  | zeroCrossing ph us n b =>
      cases run
      exact worked (sameLevels_workKeeps.reportCrossing record (fun _ _ => .of_levels rfl) s ph _ n b)
        ((s.reportCrossing_within ph _ n b).mono (by decide))
  | phaseLoss ph =>
      cases run
      split
      · exact worked ((record s ph _).trans (sameLevels_workKeeps.losePhase s ph)) ((s.losePhase_within ph).mono (by decide))
      · exact levels
  | floodEnd ph =>
      cases run
      split
      · rename_i f work
        split
        · exact worked (sameLevels_workKeeps.endFlood s ph f work) ((s.endFlood_within ph f work).mono (by decide))
        · exact levels
      · exact levels
  | repeatGapEnd ph =>
      cases run
      split
      · exact worked (sameLevels_workKeeps.endGap s _ ph) ((s.endGap_within ph _).mono (by decide))
      · exact levels
  | replyReceived ph x =>
      cases run
      split
      · split
        · exact same (s.endExchange_levelsWithin levels ph _ _)
        · exact levels
      · exact levels
  | silencePoint ph =>
      cases run
      split
      · split
        · exact same (s.endExchange_levelsWithin levels ph _ _)
        · exact levels
      · exact levels
  | probeWindowEnd ph x =>
      cases run
      split
      · split
        · exact worked (sameLevels_workKeeps.endWindow (fun _ _ => .of_levels rfl)
            (fun s ph => .of_levels (s.advanceOrigin_levels ph)) (fun _ _ _ => .of_levels rfl)
            (s.applyWindow_sameLevels ph _) _ _) ((s.endWindow_within ph _ _ _).mono (by decide))
        · exact levels
      · exact levels
  | commandTransfer | fetchTransfer => cases plain
  | _ => cases touched

/-! ### The planning frequency (R160) -/

theorem State.judgeExcursion_fPlan (s : State) : s.judgeExcursion.fPlan = s.fPlan :=
  s.judgeExcursion_within .fPlan (by decide)

/-- A boundary sets the planning frequency it refreshes. -/
theorem State.crossSecond_fPlan (s : State) (second : Nat) : (s.crossSecond second).fPlan = s.refreshedPlanFrequency := by
  unfold State.crossSecond
  dsimp only
  rw [State.retireSince_cal]
  change (State.review _ _ _ _).fPlan = _
  rw [State.review_chan]
  exact State.judgeExcursion_fPlan _

theorem State.refreshedPlanFrequency_inRange {s : State} (h : s.settings.inRange) :
    4500 ≤ s.refreshedPlanFrequency ∧ s.refreshedPlanFrequency ≤ 6500 := by
  unfold State.refreshedPlanFrequency
  split
  · exact ⟨le_holdWithin (by decide) _, holdWithin_le (by decide) _⟩
  · obtain ⟨-, -, -, -, -, -, -, -, -, -, -, nominal | nominal, -⟩ := h <;> rw [nominal] <;> decide

theorem State.startUp_fPlan (s : State) (a b : Bool) (f : FaultRec) :
    (s.startUp a b f).fPlan = (s.startUp a b f).settings.nominal := rfl

theorem exec_planFrequencyInRange {c : Instr} {s t : State} (plain : serves c = false) (run : exec c s = .next t)
    (hs : PlanFrequencyInRange s) : PlanFrequencyInRange t := by
  obtain ⟨settings, low, high⟩ := hs
  have settings_in : SettingsInRange t := exec_settingsInRange_of_not_serves plain run settings
  refine ⟨settings_in, ?_⟩
  have started (a b : Bool) (f : FaultRec) (h : SettingsInRange (s.startUp a b f)) :
      4500 ≤ (s.startUp a b f).fPlan ∧ (s.startUp a b f).fPlan ≤ 6500 := by
    rw [State.startUp_fPlan]
    obtain ⟨⟨-, -, -, -, -, -, -, -, -, -, -, nominal | nominal, -⟩, -⟩ := h <;> rw [nominal] <;> decide
  by_cases touched : Block.fPlan ∈ touches c
  · cases c with
    | powerOn a b => cases run; exact started a b _ settings_in
    | pinReset a b => cases run; exact started a b _ settings_in
    | secondBoundary =>
        cases run
        split
        · exact ⟨low, high⟩
        · rw [State.crossSecond_fPlan]
          exact State.refreshedPlanFrequency_inRange settings.1
    | commandTransfer | fetchTransfer => cases plain
    | _ => exact absurd touched (by simp [touches, lineBlocks, workBlocks])
  · rw [exec_within_of_not_serves plain run .fPlan touched]
    exact ⟨low, high⟩

/-- Settles O24, each of the three by the commands that touch what it reads. -/
theorem settingsLevelsAndPlanFrequencyStayInRange : Obligations.SettingsLevelsAndPlanFrequencyStayInRange := by
  intro s t run
  refine ⟨fun hs => ?_, fun hs => ?_, fun hs => ?_⟩
  · exact step_keeps [.settings, .store] (by decide) (fun same h => h.of_same (same .settings (by decide))
      (same .store (by decide))) (fun c s t plain _ run h => exec_settingsInRange_of_not_serves plain run h) hs run
  · refine step_keeps [.settings, .store, .levels] (by decide) (fun {s t} same h => ?_)
      (fun c s t plain touched run h => ?_) hs run
    · rw [levelsInRange_iff] at h ⊢
      exact ⟨h.1.of_same (same .settings (by decide)) (same .store (by decide)),
        LevelsWithin.of_same (same .settings (by decide)) (.of_levels (same .levels (by decide))) h.2⟩
    · refine (levelsInRange_iff t).mpr ⟨exec_settingsInRange_of_not_serves plain run h.1, ?_⟩
      by_cases leveled : (touches c).any [Block.settings, .levels].contains = true
      · exact exec_levelsWithin plain leveled run h
      · have kept := exec_within_of_not_serves plain run
        refine LevelsWithin.of_same (s := s) (kept .settings fun m => leveled ?_)
          (.of_levels (kept .levels fun m => leveled ?_)) ((levelsInRange_iff s).mp h).2
        · exact List.any_eq_true.mpr ⟨_, m, rfl⟩
        · exact List.any_eq_true.mpr ⟨_, m, rfl⟩
  · refine step_keeps [.settings, .store, .fPlan] (by decide) (fun {s t} same h => ?_)
      (fun c s t plain _ run h => exec_planFrequencyInRange plain run h) hs run
    refine ⟨h.1.of_same (same .settings (by decide)) (same .store (by decide)), ?_⟩
    rw [show t.fPlan = s.fPlan from same .fPlan (by decide)]
    exact h.2

end Sys2Proof.Machine
end

section
/-! PROOFS. The roster (chapter 5): its units by index, the route law of R102 and the cascade of R103. -/

namespace Sys2Proof.Machine

/-! ### Units by index -/

/-- The indices of a roster rise, so each is held once (R96). -/
def Rising (r : Roster) : Prop := (r.map (·.1)).Pairwise (· < ·)

section
variable {r : Roster} {i : Nat} {u v : UnitRec}

theorem Rising.nodup (h : Rising r) : (r.map (·.1)).Nodup := h.imp Nat.ne_of_lt

theorem Rising.unique (h : Rising r) (hu : (i, u) ∈ r) (hv : (i, v) ∈ r) : u = v := by
  have same := List.inj_on_of_nodup_map h.nodup hu hv rfl
  cases same
  rfl

theorem unitAt_mem (h : unitAt r i = some u) : (i, u) ∈ r := by
  obtain ⟨x, found, rfl⟩ := Option.map_eq_some_iff.mp h
  have index := List.find?_some found
  have index : x.1 = i := by simpa using index
  exact index ▸ List.mem_of_find?_eq_some found

theorem unitAt_eq_none_iff : unitAt r i = none ↔ ∀ x ∈ r, x.1 ≠ i := by
  simp [unitAt, List.find?_eq_none]

theorem Rising.unitAt_iff (h : Rising r) : unitAt r i = some u ↔ (i, u) ∈ r := by
  refine ⟨unitAt_mem, fun hu => ?_⟩
  cases found : unitAt r i with
  | none => exact absurd rfl (unitAt_eq_none_iff.mp found _ hu)
  | some v => rw [h.unique hu (unitAt_mem found)]

/-- A roster whose units change but not their indices. -/
theorem map_indices (g : Nat × UnitRec → UnitRec) (r : Roster) :
    (r.map (fun x => (x.1, g x))).map (·.1) = r.map (·.1) := by
  rw [List.map_map]
  rfl

theorem Rising.map (h : Rising r) (g : Nat × UnitRec → UnitRec) : Rising (r.map (fun x => (x.1, g x))) := by
  unfold Rising
  rw [map_indices]
  exact h

theorem Rising.filter (h : Rising r) (p : Nat × UnitRec → Bool) : Rising (r.filter p) :=
  List.Pairwise.sublist (List.filter_sublist.map _) h

end

/-! ### The route law (R102) -/

/-- A route is empty, or it is that of its last relay with the relay behind it, the relay being capable, of the same phase,
and the route not through the unit itself. -/
theorem routeLawful_iff (r : Roster) (ph : Phase) (own : Option Nat) (route : List Nat) :
    routeLawful r ph own route = true ↔
      route = [] ∨ ∃ last v, unitAt r last = some v ∧ v.route ++ [last] = route ∧ route.length ≤ 3 ∧
        v.relayCapable = true ∧ v.phase = ph ∧ ∀ i ∈ own, i ∉ route := by
  unfold routeLawful
  cases hl : route.getLast? with
  | none => simp [List.getLast?_eq_none_iff.mp hl]
  | some last =>
      have some_route : route ≠ [] := fun e => by simp [e] at hl
      have last_of (l : Nat) (v : UnitRec) (e : v.route ++ [l] = route) : l = last := by
        rw [← e] at hl
        simpa using hl
      rw [or_iff_right some_route]
      have relay : (match unitAt r last with
            | some v => v.relayCapable && v.phase == ph && v.route ++ [last] == route
            | none => false) = true ↔
          ∃ v, unitAt r last = some v ∧ v.route ++ [last] = route ∧ v.relayCapable = true ∧ v.phase = ph := by
        cases unitAt r last with
        | none => simp
        | some v =>
            simp only [Bool.and_eq_true, beq_iff_eq, Option.some.injEq, exists_eq_left']
            exact ⟨fun ⟨⟨c, p⟩, e⟩ => ⟨e, c, p⟩, fun ⟨e, c, p⟩ => ⟨⟨c, p⟩, e⟩⟩
      have owned : (match own with | some i => !route.contains i | none => true) = true ↔ ∀ i ∈ own, i ∉ route := by
        cases own <;> simp
      refine Iff.trans (Bool.and_eq_true_iff.trans (and_congr (Bool.and_eq_true_iff.trans
        (and_congr (decide_eq_true_iff) relay)) owned)) ?_
      constructor
      · rintro ⟨⟨short, v, found, e, capable, phase⟩, apart⟩
        exact ⟨last, v, found, e, short, capable, phase, apart⟩
      · rintro ⟨l, v, found, e, short, capable, phase, apart⟩
        obtain rfl := last_of l v e
        exact ⟨⟨short, v, found, e, capable, phase⟩, apart⟩

section
variable {r : Roster}

theorem rosterLawful.rising (h : rosterLawful r) : Rising r := h.1

theorem rosterLawful.route (h : rosterLawful r) {i : Nat} {u : UnitRec} (hu : (i, u) ∈ r) :
    routeLawful r u.phase (some i) u.route = true := h.2.2.2 (i, u) hu

/-- Behind a relay on a lawful route stands, in front, the relay's own route. -/
theorem rosterLawful.relay (h : rosterLawful r) :
    ∀ (n : Nat) (ph : Phase) (own : Option Nat) (route : List Nat), route.length ≤ n →
      routeLawful r ph own route = true → ∀ j ∈ route, ∃ w, (j, w) ∈ r ∧ w.route ++ [j] <+: route
  | 0, _, _, route, short, _, j, hj => by
      rw [List.length_eq_zero_iff.mp (Nat.le_zero.mp short)] at hj
      cases hj
  | n + 1, ph, own, route, short, lawful, j, hj => by
      obtain rfl | ⟨last, v, found, rfl, -, -⟩ := (routeLawful_iff ..).mp lawful
      · cases hj
      · have hv := unitAt_mem found
        obtain inner | rfl := List.mem_append.mp hj |>.imp_right List.mem_singleton.mp
        · have shorter : v.route.length ≤ n := by simpa using short
          obtain ⟨w, hw, pre⟩ := h.relay n v.phase (some last) v.route shorter (h.route hv) j inner
          exact ⟨w, hw, pre.trans (List.prefix_append _ _)⟩
        · exact ⟨v, hv, List.prefix_refl _⟩

theorem rosterLawful.relay_of_mem (h : rosterLawful r) {x : Nat × UnitRec} (hx : x ∈ r) {j : Nat} (hj : j ∈ x.2.route) :
    ∃ w, (j, w) ∈ r ∧ w.route ++ [j] <+: x.2.route :=
  h.relay _ _ _ _ (Nat.le_refl _) (h.2.2.2 x hx) j hj

/-- A roster made of a lawful one by withdrawing some relays, so that every route left is lawful in the old roster and
names none of them, and every relay untouched by them stands as it stood, is lawful. -/
theorem rosterLawful_of_withdrawn (h : rosterLawful r) {r' : Roster} (gone : Nat → Prop) (rising : Rising r')
    (addresses : (r'.map (·.2.address)).Nodup) (valid : ∀ x ∈ r', x.2.address ≠ 0 ∧ x.2.address ≠ 0xFFFFFFFF)
    (routes : ∀ x ∈ r', x.2.route = [] ∨
      (routeLawful r x.2.phase (some x.1) x.2.route = true ∧ ∀ j ∈ x.2.route, ¬ gone j))
    (stands : ∀ i u, (i, u) ∈ r → ¬ gone i → (∀ j ∈ u.route, ¬ gone j) → u.relayCapable = true →
      ∃ v, (i, v) ∈ r' ∧ v.relayCapable = true ∧ v.phase = u.phase ∧ v.route = u.route) : rosterLawful r' := by
  refine ⟨rising, addresses, valid, fun x hx => ?_⟩
  obtain empty | ⟨lawful, apart⟩ := routes x hx
  · exact (routeLawful_iff ..).mpr (.inl empty)
  · obtain empty | ⟨last, v, found, e, short, capable, phase, own⟩ := (routeLawful_iff ..).mp lawful
    · exact (routeLawful_iff ..).mpr (.inl empty)
    · rw [← e] at apart
      obtain ⟨w, hw, capable', phase', route'⟩ := stands last v (unitAt_mem found) (apart last (by simp))
        (fun j hj => apart j (by simp [hj])) capable
      exact (routeLawful_iff ..).mpr
        (.inr ⟨last, w, rising.unitAt_iff.mpr hw, by rw [route', e], short, capable', phase'.trans phase, own⟩)

/-- Changes of the units that touch neither their addresses nor anything the route law reads keep it. -/
theorem rosterLawful_map (h : rosterLawful r) (g : Nat × UnitRec → UnitRec)
    (same : ∀ x ∈ r, (g x).address = x.2.address ∧ (g x).phase = x.2.phase ∧ (g x).route = x.2.route ∧
      (x.2.relayCapable = true → (g x).relayCapable = true)) : rosterLawful (r.map (fun x => (x.1, g x))) := by
  obtain ⟨rising, addresses, valid, routes⟩ := id h
  refine rosterLawful_of_withdrawn h (fun _ => False) (Rising.map rising g) ?_ ?_ ?_ ?_
  · have e : (r.map (fun x => (x.1, g x))).map (·.2.address) = r.map (·.2.address) := by
      rw [List.map_map]
      exact List.map_congr_left fun x hx => (same x hx).1
    rw [e]
    exact addresses
  · intro y hy
    obtain ⟨x, hx, rfl⟩ := List.mem_map.mp hy
    rw [(same x hx).1]
    exact valid x hx
  · intro y hy
    obtain ⟨x, hx, rfl⟩ := List.mem_map.mp hy
    obtain ⟨-, phase, route, -⟩ := same x hx
    refine .inr ⟨?_, fun _ _ => id⟩
    rw [phase, route]
    exact routes x hx
  · intro i u hu _ _ capable
    obtain ⟨-, phase, route, capable'⟩ := same _ hu
    exact ⟨g (i, u), List.mem_map.mpr ⟨_, hu, rfl⟩, capable' capable, phase, route⟩

end

/-! ### The cascade (R103) -/

/-- The dependents of some relays lose their routes, the unit at one index left out. -/
def clearDependents (starter : Nat) (sources : List Nat) (r : Roster) : Roster :=
  r.map (fun x => (x.1, if x.1 ≠ starter ∧ x.2.dependsOn sources = true then x.2.invalidated else x.2))

theorem UnitRec.dependsOn_iff (u : UnitRec) (sources : List Nat) :
    u.dependsOn sources = true ↔ ∃ j ∈ u.route, j ∈ sources := by
  simp [UnitRec.dependsOn]

/-- The units a round of the cascade finds. -/
def hits (starter : Nat) (sources : List Nat) (r : Roster) : List Nat :=
  (r.filter (fun x => x.1 != starter && x.2.dependsOn sources)).map (·.1)

theorem mem_hits {starter : Nat} {sources : List Nat} {r : Roster} {i : Nat} :
    i ∈ hits starter sources r ↔ ∃ u, (i, u) ∈ r ∧ i ≠ starter ∧ u.dependsOn sources = true := by
  simp [hits]

/-- Where whoever depends on a dependent depends on a source too, one round clears them all. -/
theorem invalidate_eq {starter : Nat} {sources : List Nat} {r : Roster} (rising : Rising r)
    (closed : ∀ x ∈ r, x.1 ≠ starter → x.2.dependsOn (hits starter sources r) = true → x.2.dependsOn sources = true) :
    invalidate starter r.length sources r = clearDependents starter sources r := by
  have round : (r.map (fun x => if (hits starter sources r).contains x.1 then (x.1, x.2.invalidated) else x)) =
      clearDependents starter sources r := by
    refine List.map_congr_left fun x hx => ?_
    have member : (hits starter sources r).contains x.1 = true ↔ x.1 ≠ starter ∧ x.2.dependsOn sources = true := by
      rw [List.contains_iff_mem, mem_hits]
      constructor
      · rintro ⟨u, hu, apart, depends⟩
        rw [rising.unique hu (show (x.1, x.2) ∈ r from hx)] at depends
        exact ⟨apart, depends⟩
      · exact fun h => ⟨x.2, hx, h⟩
    by_cases h : x.1 ≠ starter ∧ x.2.dependsOn sources = true
    · rw [if_pos (member.mpr h), if_pos h]
    · rw [if_neg (fun k => h (member.mp k)), if_neg h]
  cases rounds : r.length with
  | zero =>
      rw [List.length_eq_zero_iff.mp rounds]
      rfl
  | succ n =>
      have unfolded : invalidate starter (n + 1) sources r =
          if (hits starter sources r).isEmpty then r
          else invalidate starter n (hits starter sources r) (clearDependents starter sources r) := by
        rw [← round]
        rfl
      rw [unfolded]
      split
      · rename_i none_hit
        have none_hit : hits starter sources r = [] := by simpa using none_hit
        rw [← round, none_hit]
        simp
      · have settled : hits starter (hits starter sources r) (clearDependents starter sources r) = [] := by
          rw [List.eq_nil_iff_forall_not_mem]
          intro i hi
          obtain ⟨u, hu, apart, depends⟩ := mem_hits.mp hi
          obtain ⟨x, hx, e⟩ := List.mem_map.mp hu
          obtain ⟨rfl, rfl⟩ := Prod.mk.inj e
          split at depends
          · simp [UnitRec.dependsOn, UnitRec.invalidated] at depends
          · rename_i kept
            exact kept ⟨apart, closed x hx apart depends⟩
        cases n with
        | zero => rfl
        | succ n =>
            change (if (hits starter (hits starter sources r) (clearDependents starter sources r)).isEmpty then _
              else _) = _
            rw [settled]
            rfl

end Sys2Proof.Machine
end

section
/-! PROOFS. What the events do to the roster, as equations of the roster alone, and the roster's law under each of them
(R96, R97, R102, R103). -/

namespace Sys2Proof.Machine

/-! ### One unit written -/

/-- The unit at an index is written. -/
def setUnit (i : Nat) (v : UnitRec) (r : Roster) : Roster := r.map (fun x => (x.1, if x.1 = i then v else x.2))

theorem State.modUnit_roster (s : State) (i : Nat) (v : UnitRec) :
    (s.modUnit i (fun _ => v)).roster = setUnit i v s.roster := by
  refine List.map_congr_left fun x _ => ?_
  by_cases h : x.1 = i
  · simp [h]
  · simp [h]

theorem unitAt_map (g : Nat × UnitRec → UnitRec) (r : Roster) (i : Nat) :
    unitAt (r.map (fun x => (x.1, g x))) i = (unitAt r i).map (fun u => g (i, u)) := by
  induction r with
  | nil => rfl
  | cons x rest ih =>
      unfold unitAt at ih ⊢
      rw [List.map_cons, List.find?_cons, List.find?_cons]
      by_cases h : x.1 = i
      · subst h
        simp
      · have apart : (x.1 == i) = false := by simpa using h
        simp only [apart]
        exact ih

section
variable {r : Roster} {i : Nat} {u v : UnitRec}

theorem unitAt_setUnit_self (hu : unitAt r i = some u) : unitAt (setUnit i v r) i = some v := by
  rw [setUnit, unitAt_map, hu]
  simp

theorem unitAt_setUnit_ne {j : Nat} (h : j ≠ i) : unitAt (setUnit i v r) j = unitAt r j := by
  rw [setUnit, unitAt_map]
  simp [h]

theorem mem_setUnit {x : Nat × UnitRec} (hx : x ∈ setUnit i v r) : x = (i, v) ∨ (x ∈ r ∧ x.1 ≠ i) := by
  obtain ⟨y, hy, rfl⟩ := List.mem_map.mp hx
  by_cases h : y.1 = i
  · exact .inl (by simp [h])
  · exact .inr (by simpa [h] using hy)

theorem mem_setUnit_of_ne {x : Nat × UnitRec} (hx : x ∈ r) (h : x.1 ≠ i) : x ∈ setUnit i v r :=
  List.mem_map.mpr ⟨x, hx, by simp [h]⟩

theorem mem_setUnit_self (hu : unitAt r i = some u) : (i, v) ∈ setUnit i v r :=
  List.mem_map.mpr ⟨(i, u), unitAt_mem hu, by simp⟩

/-- Whoever depends on a dependent of a relay, in a lawful roster, depends on the relay. -/
theorem rosterLawful.depends_of_hits (h : rosterLawful r) {starter : Nat} {sources : List Nat} {r' : Roster}
    (sub : ∀ x ∈ r', x.1 ≠ starter → x ∈ r) {x : Nat × UnitRec} (hx : x ∈ r) (depends : x.2.dependsOn (hits starter sources r') = true) : x.2.dependsOn sources = true := by
  obtain ⟨j, hj, hit⟩ := (UnitRec.dependsOn_iff ..).mp depends
  obtain ⟨w, hw, apart, behind⟩ := mem_hits.mp hit
  obtain ⟨w', hw', pre⟩ := h.relay_of_mem hx hj
  rw [h.rising.unique hw' (sub _ hw apart)] at pre
  obtain ⟨k, hk, source⟩ := (UnitRec.dependsOn_iff ..).mp behind
  exact (UnitRec.dependsOn_iff ..).mpr ⟨k, pre.subset (List.mem_append_left _ hk), source⟩

/-- The cascade of one relay, all whose dependents are those of a lawful roster, clears them in one round. -/
theorem rosterLawful.invalidateFrom_eq (h : rosterLawful r) {r' : Roster} (rising : Rising r')
    (sub : ∀ x ∈ r', x.1 ≠ i → x ∈ r) : invalidateFrom i r' = clearDependents i [i] r' :=
  invalidate_eq rising fun x hx apart depends =>
    h.depends_of_hits sub (sub x hx apart) depends

theorem Rising.setUnit (h : Rising r) : Rising (setUnit i v r) := h.map _

theorem setUnit_addresses (h : Rising r) (hu : unitAt r i = some u) (address : v.address = u.address) :
    (setUnit i v r).map (·.2.address) = r.map (·.2.address) := by
  rw [setUnit, List.map_map]
  refine List.map_congr_left fun x hx => ?_
  by_cases e : x.1 = i
  · have same : x.2 = u := h.unique (i := i) (e ▸ hx) (unitAt_mem hu)
    simp [e, same, address]
  · simp [e]

theorem clearDependents_addresses (starter : Nat) (sources : List Nat) (r : Roster) :
    (clearDependents starter sources r).map (·.2.address) = r.map (·.2.address) := by
  rw [clearDependents, List.map_map]
  refine List.map_congr_left fun x _ => ?_
  dsimp only [Function.comp]
  split <;> rfl

theorem mem_clearDependents {starter : Nat} {sources : List Nat} {x : Nat × UnitRec}
    (hx : x ∈ clearDependents starter sources r) :
    ∃ y ∈ r, y.1 = x.1 ∧ ((x = y ∧ (x.1 = starter ∨ y.2.dependsOn sources = false)) ∨ x.2 = y.2.invalidated) := by
  obtain ⟨y, hy, rfl⟩ := List.mem_map.mp hx
  refine ⟨y, hy, rfl, ?_⟩
  by_cases h : y.1 ≠ starter ∧ y.2.dependsOn sources = true
  · exact .inr (if_pos h)
  · refine .inl ⟨by rw [if_neg h], ?_⟩
    by_cases e : y.1 = starter
    · exact .inl e
    · exact .inr (by simpa using fun d => h ⟨e, d⟩)

theorem mem_clearDependents_of_stands {starter : Nat} {sources : List Nat} {x : Nat × UnitRec} (hx : x ∈ r)
    (stands : x.1 = starter ∨ x.2.dependsOn sources = false) : x ∈ clearDependents starter sources r := by
  refine List.mem_map.mpr ⟨x, hx, ?_⟩
  rw [if_neg]
  rintro ⟨apart, depends⟩
  obtain e | e := stands
  · exact apart e
  · rw [e] at depends
    cases depends

theorem UnitRec.dependsOn_eq_false_iff (u : UnitRec) (sources : List Nat) :
    u.dependsOn sources = false ↔ ∀ j ∈ u.route, j ∉ sources := by
  rw [← Bool.not_eq_true, UnitRec.dependsOn_iff]
  simp

/-- A lawful roster that loses some relays and then the routes of those that depend on them, the starter apart, which
has a lawful route that names none of them, is lawful. -/
theorem rosterLawful_cleared (h : rosterLawful r) {r' : Roster} {starter : Nat} {sources : List Nat} (gone : Nat → Prop)
    (rising : Rising r') (addresses : (r'.map (·.2.address)).Nodup)
    (valid : ∀ x ∈ r', x.2.address ≠ 0 ∧ x.2.address ≠ 0xFFFFFFFF)
    (names : ∀ x ∈ r, ∀ j ∈ x.2.route, gone j ↔ j ∈ sources)
    (units : ∀ x ∈ r', (x ∈ r ∧ x.1 ≠ starter) ∨
      (routeLawful r x.2.phase (some x.1) x.2.route = true ∧ ∀ j ∈ x.2.route, ¬ gone j))
    (kept : ∀ x ∈ r, ¬ gone x.1 → x ∈ r') : rosterLawful (clearDependents starter sources r') := by
  refine rosterLawful_of_withdrawn h gone (Rising.map rising _) ?_ ?_ ?_ ?_
  · rw [clearDependents_addresses]
    exact addresses
  · intro x hx
    obtain ⟨y, hy, -, ⟨rfl, -⟩ | e⟩ := mem_clearDependents hx
    · exact valid _ hy
    · rw [e]
      exact valid y hy
  · intro x hx
    obtain ⟨y, hy, index, ⟨rfl, stands⟩ | e⟩ := mem_clearDependents hx
    · obtain ⟨hr, apart⟩ | lawful := units x hy
      · refine .inr ⟨h.route hr, fun j hj hgone => ?_⟩
        obtain e | none_of := stands
        · exact apart e
        · exact (UnitRec.dependsOn_eq_false_iff ..).mp none_of j hj ((names x hr j hj).mp hgone)
      · exact .inr lawful
    · exact .inl (by rw [e]; rfl)
  · intro j w hw stays apart capable
    refine ⟨w, mem_clearDependents_of_stands (kept _ hw stays) (.inr ?_), capable, rfl, rfl⟩
    exact (UnitRec.dependsOn_eq_false_iff ..).mpr fun k hk hs => apart k hk ((names _ hw k hk).mpr hs)

/-- The roster once a unit is written, its dependents losing their routes where it is no relay any more (R103). -/
def written (i : Nat) (v : UnitRec) (moved : Bool) (r : Roster) : Roster :=
  if moved then clearDependents i [i] (setUnit i v r) else setUnit i v r

theorem rosterLawful.written_eq (h : rosterLawful r) (moved : Bool) :
    (if moved then invalidateFrom i (setUnit i v r) else setUnit i v r) = written i v moved r := by
  cases moved
  · rfl
  · exact h.invalidateFrom_eq h.rising.setUnit fun x hx apart =>
      ((mem_setUnit hx).resolve_left fun e => apart (e ▸ rfl)).1

/-- A unit written with a lawful route keeps the roster lawful, if it stays the relay it was or its dependents lose their
routes. -/
theorem rosterLawful_written (h : rosterLawful r) (hu : unitAt r i = some u) (address : v.address = u.address)
    (route : routeLawful r v.phase (some i) v.route = true) {moved : Bool}
    (stays : moved = false → v.phase = u.phase ∧ v.route = u.route ∧ (u.relayCapable = true → v.relayCapable = true)) :
    rosterLawful (written i v moved r) := by
  cases moved with
  | false =>
      obtain ⟨phase, same, capable⟩ := stays rfl
      refine rosterLawful_map h _ fun x hx => ?_
      by_cases e : x.1 = i
      · have was : x.2 = u := h.rising.unique (i := i) (e ▸ hx) (unitAt_mem hu)
        simp only [e, if_true, was]
        exact ⟨address, phase, same, capable⟩
      · simp [e]
  | true =>
      refine rosterLawful_cleared h (fun j => j = i) h.rising.setUnit ?_ ?_ ?_ ?_ ?_
      · rw [setUnit_addresses h.rising hu address]
        exact h.2.1
      · intro x hx
        obtain rfl | ⟨hx, -⟩ := mem_setUnit hx
        · have was := h.2.2.1 _ (unitAt_mem hu)
          rw [← address] at was
          exact was
        · exact h.2.2.1 x hx
      · intro x _ j _
        exact List.mem_singleton.symm
      · intro x hx
        obtain rfl | hx := mem_setUnit hx
        · refine .inr ⟨route, fun j hj e => ?_⟩
          obtain empty | ⟨-, -, -, -, -, -, -, apart⟩ := (routeLawful_iff ..).mp route
          · rw [empty] at hj
            cases hj
          · exact apart i rfl (e ▸ hj)
        · exact .inl hx
      · intro x hx apart
        exact mem_setUnit_of_ne hx apart

/-! ### A unit leaves (R107) -/

/-- The roster once a unit has left. -/
def withoutUnit (i : Nat) (r : Roster) : Roster := r.filter (fun x => x.1 != i)

theorem mem_withoutUnit {x : Nat × UnitRec} : x ∈ withoutUnit i r ↔ x ∈ r ∧ x.1 ≠ i := by
  simp [withoutUnit]

theorem rosterLawful.without_eq (h : rosterLawful r) :
    invalidateFrom i (withoutUnit i r) = clearDependents i [i] (withoutUnit i r) :=
  h.invalidateFrom_eq (h.rising.filter _) fun _ hx _ => (mem_withoutUnit.mp hx).1

theorem rosterLawful_without (h : rosterLawful r) : rosterLawful (clearDependents i [i] (withoutUnit i r)) := by
  refine rosterLawful_cleared h (fun j => j = i) (h.rising.filter _) (h.2.1.sublist (List.filter_sublist.map _))
    (fun x hx => h.2.2.1 x (mem_withoutUnit.mp hx).1) (fun _ _ _ _ => List.mem_singleton.symm)
    (fun x hx => .inl (mem_withoutUnit.mp hx)) (fun x hx apart => mem_withoutUnit.mpr ⟨hx, apart⟩)

/-! ### A unit is recorded (R96) -/

theorem mem_putUnit {x : Nat × UnitRec} : ∀ {r : Roster}, x ∈ putUnit i u r → x = (i, u) ∨ x ∈ r
  | [], h => .inl (List.mem_singleton.mp h)
  | y :: rest, h => by
      unfold putUnit at h
      split at h
      · exact List.mem_cons.mp h
      · split at h
        · exact (List.mem_cons.mp h).imp_right (List.mem_cons_of_mem _)
        · obtain rfl | h := List.mem_cons.mp h
          · exact .inr List.mem_cons_self
          · exact (mem_putUnit h).imp_right (List.mem_cons_of_mem _)

/-- At a free index a unit is put among the others without a change of them. -/
theorem putUnit_split : ∀ {r : Roster}, (∀ x ∈ r, x.1 ≠ i) → Rising r →
    ∃ before after, r = before ++ after ∧ putUnit i u r = before ++ (i, u) :: after ∧ (∀ x ∈ before, x.1 < i) ∧
      ∀ x ∈ after, i < x.1
  | [], _, _ => ⟨[], [], rfl, rfl, by simp, by simp⟩
  | y :: rest, free, rising => by
      obtain ⟨first, later⟩ := List.pairwise_cons.mp (show ((y :: rest).map (·.1)).Pairwise (· < ·) from rising)
      unfold putUnit
      by_cases h : i < y.1
      · refine ⟨[], y :: rest, rfl, if_pos h, by simp, fun x hx => ?_⟩
        obtain rfl | hx := List.mem_cons.mp hx
        · exact h
        · exact h.trans (first _ (List.mem_map_of_mem hx))
      · have apart : y.1 ≠ i := free y List.mem_cons_self
        obtain ⟨before, after, split, put, low, high⟩ :=
          putUnit_split (fun x hx => free x (List.mem_cons_of_mem _ hx)) later
        refine ⟨y :: before, after, by rw [split]; rfl, by rw [if_neg h, if_neg apart, put]; rfl, ?_, high⟩
        intro x hx
        obtain rfl | hx := List.mem_cons.mp hx
        · omega
        · exact low x hx

theorem unitAt_append (a b : Roster) (j : Nat) : unitAt (a ++ b) j = (unitAt a j).or (unitAt b j) := by
  simp only [unitAt, List.find?_append, Option.map_or]

theorem unitAt_cons_self (r : Roster) : unitAt ((i, u) :: r) i = some u := by
  simp [unitAt]

theorem unitAt_cons_ne {j : Nat} (h : i ≠ j) (r : Roster) : unitAt ((i, u) :: r) j = unitAt r j := by
  simp [unitAt, h]

theorem unitAt_putUnit_self (free : unitAt r i = none) (h : Rising r) : unitAt (putUnit i u r) i = some u := by
  have free := unitAt_eq_none_iff.mp free
  obtain ⟨before, after, rfl, put, low, high⟩ := putUnit_split (u := u) free h
  rw [put, unitAt_append, unitAt_eq_none_iff.mpr fun x hx => (low x hx).ne, unitAt_cons_self]
  rfl

theorem unitAt_putUnit_ne (free : unitAt r i = none) (h : Rising r) {j : Nat} (apart : j ≠ i) :
    unitAt (putUnit i u r) j = unitAt r j := by
  obtain ⟨before, after, rfl, put, low, high⟩ := putUnit_split (u := u) (unitAt_eq_none_iff.mp free) h
  rw [put, unitAt_append, unitAt_append, unitAt_cons_ne apart.symm]

theorem Rising.putUnit (free : unitAt r i = none) (h : Rising r) : Rising (putUnit i u r) := by
  obtain ⟨before, after, rfl, put, low, high⟩ := putUnit_split (u := u) (unitAt_eq_none_iff.mp free) h
  unfold Rising at h ⊢
  rw [put]
  rw [List.map_append] at h ⊢
  obtain ⟨hb, ha, between⟩ := List.pairwise_append.mp h
  refine List.pairwise_append.mpr ⟨hb, List.pairwise_cons.mpr ⟨?_, ha⟩, ?_⟩
  · intro k hk
    obtain ⟨x, hx, rfl⟩ := List.mem_map.mp hk
    exact high x hx
  · intro a ha k hk
    obtain ⟨x, hx, rfl⟩ := List.mem_map.mp ha
    obtain rfl | hk := List.mem_cons.mp hk
    · exact low x hx
    · exact between _ (List.mem_map_of_mem hx) k hk

/-- A new address on a lawful route, recorded at a free index, keeps the roster lawful. -/
theorem rosterLawful_put (h : rosterLawful r) (free : unitAt r i = none)
    (fresh : ∀ x ∈ r, x.2.address ≠ u.address) (valid : u.address ≠ 0 ∧ u.address ≠ 0xFFFFFFFF)
    (route : routeLawful r u.phase none u.route = true) : rosterLawful (putUnit i u r) := by
  have own : routeLawful r u.phase (some i) u.route = true := by
    obtain empty | ⟨last, v, found, e, short, capable, phase, -⟩ := (routeLawful_iff ..).mp route
    · exact (routeLawful_iff ..).mpr (.inl empty)
    · refine (routeLawful_iff ..).mpr (.inr ⟨last, v, found, e, short, capable, phase, ?_⟩)
      rintro j ⟨⟩ hj
      obtain ⟨w, hw, -⟩ := h.relay _ _ _ _ (Nat.le_refl _) route i hj
      exact unitAt_eq_none_iff.mp free _ hw rfl
  refine rosterLawful_of_withdrawn h (fun _ => False) (h.rising.putUnit free) ?_ ?_ ?_ ?_
  · obtain ⟨before, after, rfl, put, -, -⟩ := putUnit_split (u := u) (unitAt_eq_none_iff.mp free) h.rising
    rw [put]
    have nodup := h.2.1
    rw [List.map_append] at nodup ⊢
    rw [List.map_cons, List.nodup_middle]
    refine List.nodup_cons.mpr ⟨?_, nodup⟩
    rw [← List.map_append]
    intro hm
    obtain ⟨x, hx, e⟩ := List.mem_map.mp hm
    exact fresh x hx e
  · intro x hx
    obtain rfl | hx := mem_putUnit hx
    · exact valid
    · exact h.2.2.1 x hx
  · intro x hx
    obtain rfl | hx := mem_putUnit hx
    · exact .inr ⟨own, fun _ _ => id⟩
    · exact .inr ⟨h.route hx, fun _ _ => id⟩
  · intro j w hw _ _ capable
    have apart : j ≠ i := fun e => unitAt_eq_none_iff.mp free _ hw e
    refine ⟨w, unitAt_mem ?_, capable, rfl, rfl⟩
    rw [unitAt_putUnit_ne free h.rising apart]
    exact h.rising.unitAt_iff.mpr hw

theorem lowestFrom_free : ∀ {r : Roster} (n : Nat), Rising r → (∀ x ∈ r, n ≤ x.1) → ∀ x ∈ r, x.1 ≠ lowestFrom n r
  | [], _, _, _, _, hx => by cases hx
  | y :: rest, n, rising, low, x, hx => by
      obtain ⟨first, later⟩ := List.pairwise_cons.mp (show ((y :: rest).map (·.1)).Pairwise (· < ·) from rising)
      have after (z : Nat × UnitRec) (hz : z ∈ rest) : y.1 < z.1 := first _ (List.mem_map_of_mem hz)
      unfold lowestFrom
      split
      · rename_i here
        have rest_free := lowestFrom_free (n + 1) later fun z hz => here ▸ after z hz
        obtain rfl | hx := List.mem_cons.mp hx
        · have up : ∀ {r : Roster} (m : Nat), m ≤ lowestFrom m r := by
            intro r
            induction r with
            | nil => exact fun m => Nat.le_refl m
            | cons y rest ih =>
                intro m
                unfold lowestFrom
                split
                · exact (Nat.le_succ m).trans (ih _)
                · exact Nat.le_refl m
          have := up (r := rest) (n + 1)
          omega
        · exact rest_free x hx
      · rename_i gap
        obtain rfl | hx := List.mem_cons.mp hx
        · exact gap
        · have := after x hx
          have := low y List.mem_cons_self
          omega

theorem lowestFree_free {capacity : Nat} (h : Rising r) (found : lowestFree capacity r = some i) :
    unitAt r i = none ∧ i < capacity := by
  unfold lowestFree at found
  dsimp only at found
  split at found
  · rename_i below
    cases found
    exact ⟨unitAt_eq_none_iff.mpr (lowestFrom_free 0 h fun _ _ => Nat.zero_le _), below⟩
  · cases found

/-! ### The roster of a start-up (R185) -/

theorem rosterLawful.loaded_eq (h : rosterLawful r) (capacity : Nat) (counters : List Byte) :
    (RosterImage.mk r counters).roster capacity =
      clearDependents capacity ((r.filter (fun x => capacity ≤ x.1)).map (·.1)) (r.filter (fun x => x.1 < capacity)) := by
  refine invalidate_eq (h.rising.filter _) fun x hx _ depends => ?_
  have hr := List.mem_of_mem_filter hx
  exact h.depends_of_hits (fun y hy _ => List.mem_of_mem_filter hy) hr depends

theorem rosterLawful_loaded (h : rosterLawful r) (capacity : Nat) (counters : List Byte) :
    rosterLawful ((RosterImage.mk r counters).roster capacity) := by
  rw [h.loaded_eq capacity counters]
  refine rosterLawful_cleared h (fun j => capacity ≤ j) (h.rising.filter _)
    (h.2.1.sublist (List.filter_sublist.map _)) (fun x hx => h.2.2.1 x (List.mem_of_mem_filter hx)) ?_ ?_ ?_
  · intro x hx j hj
    obtain ⟨w, hw, -⟩ := h.relay_of_mem hx hj
    constructor
    · exact fun beyond => List.mem_map.mpr ⟨(j, w), List.mem_filter.mpr ⟨hw, by simpa using beyond⟩, rfl⟩
    · intro dropped
      obtain ⟨y, hy, rfl⟩ := List.mem_map.mp dropped
      simpa using (List.mem_filter.mp hy).2
  · intro x hx
    obtain ⟨hr, below⟩ := List.mem_filter.mp hx
    have below : x.1 < capacity := by simpa using below
    exact .inl ⟨hr, below.ne⟩
  · intro x hx below
    exact List.mem_filter.mpr ⟨hx, by simpa using below⟩

theorem loaded_below (h : rosterLawful r) (capacity : Nat) (counters : List Byte) {x : Nat × UnitRec}
    (hx : x ∈ (RosterImage.mk r counters).roster capacity) : x.1 < capacity := by
  rw [h.loaded_eq capacity counters] at hx
  obtain ⟨y, hy, index, -⟩ := mem_clearDependents hx
  have := (List.mem_filter.mp hy).2
  rw [← index]
  simpa using this

end

end Sys2Proof.Machine
end

section
/-! PROOFS. The roster after each event, and its law at every step (R96, R97, R102, R103, R185). -/

namespace Sys2Proof.Machine

/-! ### The roster after each event -/

section
variable (s : State)

theorem State.noticeLost_roster (before : Roster) (c : LostCause) : (s.noticeLost before c).roster = s.roster := by
  rw [State.noticeLost_ports]

theorem State.recomputeGroups_same_roster (gs : List Nat) : (s.recomputeGroups gs).roster = s.roster :=
  (s.recomputeGroups_keeps gs).1

theorem State.retireSince_roster (before : State) : (s.retireSince before).roster = s.roster := by
  rw [State.retireSince_cal]

theorem State.register_roster (ph : Phase) (i : Nat) (a : Address) : (s.register ph i a).roster = s.roster := by
  unfold State.register
  split <;> rfl

theorem State.offerBoth_roster (i : Item) : (s.offerBoth i).roster = s.roster := by
  rw [State.offerBoth_ports]

theorem State.post_roster (f : FaultReport) : (s.post f).roster = s.roster := by
  rw [State.post_fault]

theorem State.applySilence_same_or_set (i : Nat) (a : Address) :
    (s.applySilence i a).roster = s.roster ∨
      ∃ u, unitAt s.roster i = some u ∧
        (s.applySilence i a).roster = setUnit i (u.silent s.settings.degradeLimit s.settings.lostLimit) s.roster := by
  unfold State.applySilence
  split
  · exact .inl rfl
  · split
    · rename_i u hu
      refine .inr ⟨u, hu, ?_⟩
      dsimp only
      split
      · rw [State.recomputeGroups_same_roster, State.noticeLost_roster, State.modUnit_roster]
      · rw [State.noticeLost_roster, State.modUnit_roster]
    · exact .inl rfl

theorem State.applyReply_same_or_set (ph : Phase) (x : Exchange) (r : ReplyReading) (uplink : Nat) (seed : Bool) :
    (s.applyReply ph x r uplink seed).roster = s.roster ∨
      ∃ u, unitAt s.roster x.index = some u ∧
        (s.applyReply ph x r uplink seed).roster =
          setUnit x.index ((u.takeSample seed (marginSample x.hops uplink r.downlink r.hopUp)).heard s.heardSecond)
            s.roster := by
  unfold State.applyReply
  split
  · exact .inl rfl
  · split
    · rename_i u hu
      refine .inr ⟨u, hu, ?_⟩
      have sampled (v : UnitRec) (f : LevelRec → LevelRec) :
          (if x.hops = 0 then (s.modUnit x.index (fun _ => v)).modLevel ph f
            else s.modUnit x.index (fun _ => v)).roster = setUnit x.index v s.roster := by
        split <;> exact s.modUnit_roster x.index v
      dsimp only
      split
      · rw [State.recomputeGroups_same_roster, sampled]
      · rw [sampled]
    · exact .inl rfl

theorem State.record_roster (i : Nat) (u : UnitRec) : (s.record i u).roster = putUnit i u s.roster := by
  unfold State.record
  rw [State.retireSince_roster, State.recomputeGroups_same_roster]

theorem State.withdrawRelay_same_roster (i : Nat) : (s.withdrawRelay i).roster = invalidateFrom i s.roster := by
  unfold State.withdrawRelay
  rw [State.noticeLost_roster]

variable {s}

theorem State.editUnit_roster (h : rosterLawful s.roster) (i : Nat) (u v : UnitRec) :
    (s.editUnit i u v).roster = written i v (u.withdrawn v) s.roster := by
  have withdrawn : (if u.withdrawn v then (s.modUnit i (fun _ => v)).withdrawRelay i
      else s.modUnit i (fun _ => v)).roster = written i v (u.withdrawn v) s.roster := by
    rw [← h.written_eq, ← State.modUnit_roster]
    cases u.withdrawn v
    · rfl
    · exact State.withdrawRelay_same_roster _ i
  unfold State.editUnit
  dsimp only
  generalize (if u.withdrawn v = true then (s.modUnit i (fun _ => v)).withdrawRelay i
      else s.modUnit i (fun _ => v)) = w at withdrawn ⊢
  split
  · exact withdrawn
  · rw [State.retireSince_roster, State.recomputeGroups_same_roster, withdrawn]

theorem State.retireUnit_roster (h : rosterLawful s.roster) (i : Nat) (u : UnitRec) :
    (s.retireUnit i u).roster = clearDependents i [i] (withoutUnit i s.roster) := by
  rw [← h.without_eq]
  unfold State.retireUnit
  rw [State.retireSince_roster, State.recomputeGroups_same_roster, State.withdrawRelay_same_roster]
  rfl

/-- The unit's phase or its route is another than it was (R103, R125). -/
def UnitRec.movedTo (u v : UnitRec) : Bool := u.route != v.route || u.phase != v.phase

theorem State.updateFound_roster (h : rosterLawful s.roster) (ph : Phase) (p : ProbeInFlight) (r : ProbeReplyReading)
    (uplink ago i : Nat) (u : UnitRec) :
    ∃ v, v = u.refound s.roster i ph p.route (marginSample p.route.length uplink r.downlink r.hopUp)
        (s.replySecond ago) ∧
      (s.updateFound ph p r uplink ago i u).roster = written i v (u.movedTo v) s.roster := by
  refine ⟨_, rfl, ?_⟩
  unfold State.updateFound
  dsimp only
  rw [← h.written_eq, ← State.modUnit_roster]
  unfold UnitRec.movedTo
  split <;> simp only [State.recomputeGroups_same_roster, State.register_roster, State.noticeLost_roster]

theorem State.recordFound_same_or_put (ph : Phase) (p : ProbeInFlight) (r : ProbeReplyReading) (uplink ago : Nat) :
    (lowestFree s.rosterCapacity s.roster = none ∧ (s.recordFound ph p r uplink ago).roster = s.roster) ∨
      ∃ i, lowestFree s.rosterCapacity s.roster = some i ∧
        (s.recordFound ph p r uplink ago).roster = putUnit i
          ((UnitRec.found ph r p.route (marginSample p.route.length uplink r.downlink r.hopUp)
            (s.replySecond ago)).lawful s.roster none) s.roster := by
  unfold State.recordFound
  split
  · rename_i full
    exact .inl ⟨full, s.post_roster (.rosterFull ph r.address)⟩
  · rename_i i free
    refine .inr ⟨i, free, ?_⟩
    dsimp only
    rw [State.recomputeGroups_same_roster, State.offerBoth_roster, State.register_roster]

end

/-! ### The units the events write -/

section
variable (u : UnitRec)

theorem UnitRec.takeSample_fixed (seed : Bool) (n : Nat) :
    (u.takeSample seed n).address = u.address ∧ (u.takeSample seed n).phase = u.phase ∧
      (u.takeSample seed n).groups = u.groups ∧ (u.takeSample seed n).relayCapable = u.relayCapable ∧
      (u.takeSample seed n).route = u.route ∧ (u.takeSample seed n).state = u.state := by
  unfold UnitRec.takeSample
  split <;> exact ⟨rfl, rfl, rfl, rfl, rfl, rfl⟩

theorem UnitRec.heard_takeSample_fixed (seed : Bool) (n : Nat) (second : Option Nat) :
    ((u.takeSample seed n).heard second).address = u.address ∧ ((u.takeSample seed n).heard second).phase = u.phase ∧
      ((u.takeSample seed n).heard second).groups = u.groups ∧
      ((u.takeSample seed n).heard second).relayCapable = u.relayCapable ∧
      ((u.takeSample seed n).heard second).route = u.route :=
  have ⟨address, phase, groups, capable, route, _⟩ := u.takeSample_fixed seed n
  ⟨address, phase, groups, capable, route⟩

theorem UnitRec.silent_fixed (degrade lost : Nat) :
    (u.silent degrade lost).address = u.address ∧ (u.silent degrade lost).phase = u.phase ∧
      (u.silent degrade lost).groups = u.groups ∧ (u.silent degrade lost).relayCapable = u.relayCapable ∧
      (u.silent degrade lost).route = u.route := by
  unfold UnitRec.silent
  dsimp only
  split_ifs <;> exact ⟨rfl, rfl, rfl, rfl, rfl⟩

theorem UnitRec.lawful_fixed (r : Roster) (own : Option Nat) :
    (u.lawful r own).address = u.address ∧ (u.lawful r own).phase = u.phase ∧ (u.lawful r own).groups = u.groups ∧
      (u.lawful r own).relayCapable = u.relayCapable ∧ (u.lawful r own).mode = u.mode := by
  unfold UnitRec.lawful
  split <;> exact ⟨rfl, rfl, rfl, rfl, rfl⟩

theorem UnitRec.lawful_route (r : Roster) (own : Option Nat) :
    routeLawful r (u.lawful r own).phase own (u.lawful r own).route = true := by
  unfold UnitRec.lawful
  split
  · assumption
  · exact (routeLawful_iff ..).mpr (.inl rfl)

theorem UnitRec.refound_fixed (r : Roster) (i : Nat) (ph : Phase) (route : List Nat) (n : Nat) (second : Option Nat) :
    (u.refound r i ph route n second).address = u.address ∧ (u.refound r i ph route n second).groups = u.groups ∧
      (u.refound r i ph route n second).relayCapable = u.relayCapable ∧
      (u.refound r i ph route n second).mode = (u.takeSample false n).mode := by
  obtain ⟨address, -, groups, capable, -⟩ := u.heard_takeSample_fixed false n second
  unfold UnitRec.refound
  dsimp only
  split
  · exact ⟨address, groups, capable, rfl⟩
  · obtain ⟨address', -, groups', capable', mode'⟩ := UnitRec.lawful_fixed
      { (u.takeSample false n).heard second with phase := ph, route := route } r (some i)
    exact ⟨address'.trans address, groups'.trans groups, capable'.trans capable, mode'⟩

theorem UnitRec.refound_route {r : Roster} {i : Nat} (lawful : routeLawful r u.phase (some i) u.route = true) (ph : Phase)
    (route : List Nat) (n : Nat) (second : Option Nat) :
    routeLawful r (u.refound r i ph route n second).phase (some i) (u.refound r i ph route n second).route = true := by
  obtain ⟨-, phase, -, -, same⟩ := u.heard_takeSample_fixed false n second
  unfold UnitRec.refound
  dsimp only
  split
  · rw [phase, same]
    exact lawful
  · exact UnitRec.lawful_route _ r (some i)

end

/-! ### The law under each event -/

/-- A lawful roster with every index below a capacity. -/
def LawfulBelow (capacity : Nat) (r : Roster) : Prop := rosterLawful r ∧ ∀ x ∈ r, x.1 < capacity

section
variable {capacity i : Nat} {r : Roster} {u v : UnitRec}

theorem LawfulBelow.written (h : LawfulBelow capacity r) (hu : unitAt r i = some u) (address : v.address = u.address)
    (route : routeLawful r v.phase (some i) v.route = true) {moved : Bool}
    (stays : moved = false → v.phase = u.phase ∧ v.route = u.route ∧ (u.relayCapable = true → v.relayCapable = true)) :
    LawfulBelow capacity (written i v moved r) := by
  refine ⟨rosterLawful_written h.1 hu address route stays, fun x hx => ?_⟩
  have below (y : Nat × UnitRec) (hy : y ∈ setUnit i v r) : y.1 < capacity := by
    obtain rfl | ⟨hy, -⟩ := mem_setUnit hy
    · exact h.2 (i, u) (unitAt_mem hu)
    · exact h.2 y hy
  cases moved
  · exact below x hx
  · obtain ⟨y, hy, index, -⟩ := mem_clearDependents hx
    exact index ▸ below y hy

/-- A unit that keeps its address, phase, route and relay-capable flag is written. -/
theorem LawfulBelow.set (h : LawfulBelow capacity r) (hu : unitAt r i = some u)
    (fixed : v.address = u.address ∧ v.phase = u.phase ∧ v.groups = u.groups ∧ v.relayCapable = u.relayCapable ∧
      v.route = u.route) : LawfulBelow capacity (setUnit i v r) := by
  obtain ⟨address, phase, -, capable, route⟩ := fixed
  have lawful : routeLawful r v.phase (some i) v.route = true := by
    have was : routeLawful r u.phase (some i) u.route = true := h.1.route (unitAt_mem hu)
    rw [phase, route]
    exact was
  exact LawfulBelow.written (v := v) (moved := false) h hu address lawful fun _ =>
    ⟨phase, route, fun c => capable.trans c⟩

theorem LawfulBelow.without (h : LawfulBelow capacity r) :
    LawfulBelow capacity (clearDependents i [i] (withoutUnit i r)) := by
  refine ⟨rosterLawful_without h.1, fun x hx => ?_⟩
  obtain ⟨y, hy, index, -⟩ := mem_clearDependents hx
  exact index ▸ h.2 y (mem_withoutUnit.mp hy).1

theorem LawfulBelow.put (h : LawfulBelow capacity r) (free : lowestFree capacity r = some i)
    (fresh : ∀ x ∈ r, x.2.address ≠ u.address) (valid : u.address ≠ 0 ∧ u.address ≠ 0xFFFFFFFF)
    (route : routeLawful r u.phase none u.route = true) : LawfulBelow capacity (putUnit i u r) := by
  obtain ⟨empty, below⟩ := lowestFree_free h.1.rising free
  refine ⟨rosterLawful_put h.1 empty fresh valid route, fun x hx => ?_⟩
  obtain rfl | hx := mem_putUnit hx
  · exact below
  · exact h.2 x hx

end

/-- The roster of a state is lawful, below the capacity of its layout. -/
def RosterInLaw (s : State) : Prop := LawfulBelow s.rosterCapacity s.roster

theorem RosterInLaw.of_same {s t : State} (roster : t.roster = s.roster) (settings : t.settings = s.settings)
    (h : RosterInLaw s) : RosterInLaw t := by
  unfold RosterInLaw State.rosterCapacity
  rw [roster, settings]
  exact h

theorem RosterInLaw.of_frame {s t : State} (frame : WorkFrame s t) (h : LawfulBelow s.rosterCapacity t.roster) :
    RosterInLaw t := by
  unfold RosterInLaw State.rosterCapacity
  rw [frame.within .settings (by decide)]
  exact h

section
variable {s : State} (hs : RosterInLaw s)
include hs

theorem State.applySilence_inLaw (i : Nat) (a : Address) : RosterInLaw (s.applySilence i a) := by
  refine .of_frame (s.applySilence_roster i a).work ?_
  obtain same | ⟨u, hu, set⟩ := s.applySilence_same_or_set i a
  · rw [same]
    exact hs
  · rw [set]
    exact hs.set hu (u.silent_fixed _ _)

theorem State.applyReply_inLaw (ph : Phase) (x : Exchange) (r : ReplyReading) (uplink : Nat) (seed : Bool) :
    RosterInLaw (s.applyReply ph x r uplink seed) := by
  refine .of_frame (s.applyReply_roster ph x r uplink seed).work ?_
  obtain same | ⟨u, hu, set⟩ := s.applyReply_same_or_set ph x r uplink seed
  · rw [same]
    exact hs
  · rw [set]
    exact hs.set hu (u.heard_takeSample_fixed _ _ _)

theorem State.updateFound_inLaw {i : Nat} {u : UnitRec} (hu : unitAt s.roster i = some u) (ph : Phase) (p : ProbeInFlight)
    (r : ProbeReplyReading) (uplink ago : Nat) :
    LawfulBelow s.rosterCapacity (s.updateFound ph p r uplink ago i u).roster := by
  obtain ⟨v, rfl, roster⟩ := State.updateFound_roster hs.1 ph p r uplink ago i u
  obtain ⟨address, -, capable, -⟩ := u.refound_fixed s.roster i ph p.route
    (marginSample p.route.length uplink r.downlink r.hopUp) (s.replySecond ago)
  rw [roster]
  refine LawfulBelow.written hs hu address (u.refound_route (hs.1.route (unitAt_mem hu)) ph _ _ _) fun unmoved => ?_
  simp only [UnitRec.movedTo, Bool.or_eq_false_iff, bne_eq_false_iff_eq] at unmoved
  exact ⟨unmoved.2.symm, unmoved.1.symm, fun c => capable.trans c⟩

theorem State.recordFound_inLaw (ph : Phase) (p : ProbeInFlight) (r : ProbeReplyReading) (uplink ago : Nat)
    (fresh : ∀ x ∈ s.roster, x.2.address ≠ r.address) (valid : r.address ≠ 0 ∧ r.address ≠ 0xFFFFFFFF) :
    LawfulBelow s.rosterCapacity (s.recordFound ph p r uplink ago).roster := by
  obtain ⟨-, same⟩ | ⟨i, free, put⟩ := s.recordFound_same_or_put ph p r uplink ago
  · rw [same]
    exact hs
  · rw [put]
    have address : ∀ n k, ((UnitRec.found ph r p.route n k).lawful s.roster none).address = r.address := fun n k =>
      (UnitRec.lawful_fixed _ s.roster none).1.trans (UnitRec.heard_takeSample_fixed _ true n k).1
    refine LawfulBelow.put hs free ?_ ?_ (UnitRec.lawful_route _ s.roster none)
    · rw [address]
      exact fresh
    · rw [address]
      exact valid

end

theorem State.indexOf?_mem {s : State} {a : Address} {x : Nat × UnitRec} (h : s.indexOf? a = some x) :
    x ∈ s.roster ∧ x.2.address = a :=
  ⟨List.mem_of_find?_eq_some h, by simpa using List.find?_some h⟩

theorem State.indexOf?_eq_none_iff {s : State} {a : Address} :
    s.indexOf? a = none ↔ ∀ x ∈ s.roster, x.2.address ≠ a := by
  simp [State.indexOf?, List.find?_eq_none]

theorem goodReply_of_readWindow {code : Word16} {f : ProbeFilter} {window span : Nat} {heard : List WindowFrame}
    {r : ProbeReplyReading} {uplink ago : Nat} (h : readWindow code f window span heard = .good r uplink ago) :
    f.goodReply window r = true := by
  unfold readWindow at h
  dsimp only at h
  split at h
  · rename_i x found
    cases h
    exact List.find?_some (p := fun x : ProbeReplyReading × Nat × Nat => f.goodReply window x.1) found
  · split at h <;> cases h

theorem State.applyWindow_inLaw {s : State} (hs : RosterInLaw s) (ph : Phase) (p : ProbeInFlight) (window : Nat)
    {w : WindowResult} (valid : ∀ r uplink ago, w = .good r uplink ago → r.address ≠ 0 ∧ r.address ≠ 0xFFFFFFFF) :
    RosterInLaw (s.applyWindow ph p window w) := by
  have settings := s.applyWindow_within ph p window w .settings (by decide)
  have roster : LawfulBelow s.rosterCapacity (s.applyWindow ph p window w).roster := by
    cases w with
    | collision => exact hs
    | empty => exact hs
    | good r uplink ago =>
        unfold State.applyWindow
        dsimp only
        split
        · rename_i x known
          exact s.updateFound_inLaw hs (hs.1.rising.unitAt_iff.mpr (State.indexOf?_mem known).1) ph p r uplink ago
        · rename_i unknown
          exact s.recordFound_inLaw hs ph p r uplink ago (State.indexOf?_eq_none_iff.mp unknown) (valid r uplink ago rfl)
  unfold RosterInLaw State.rosterCapacity
  rw [settings]
  exact roster

theorem goodReply_valid {f : ProbeFilter} {window : Nat} {r : ProbeReplyReading} (h : f.goodReply window r = true) :
    r.address ≠ 0 ∧ r.address ≠ 0xFFFFFFFF := by
  simp only [ProbeFilter.goodReply, Bool.and_eq_true, bne_iff_ne] at h
  exact h.1.1

/-- The work of the channels keeps the roster lawful. -/
theorem inLaw_workKeeps : WorkKeeps (fun s t => RosterInLaw s → RosterInLaw t) :=
  (roster_workKeeps.and frame_workKeeps).imp (fun _ => id) (fun h k hs => k (h hs)) fun h hs =>
    hs.of_same h.1 (h.2.within .settings (by decide))

theorem State.endExchange_inLaw {s : State} (hs : RosterInLaw s) (ph : Phase) (x : Exchange)
    (reply : Option (ReplyReading × Nat)) : RosterInLaw (s.endExchange ph x reply) :=
  inLaw_workKeeps.endExchange (fun r uplink seed h => s.applyReply_inLaw h ph x r uplink seed)
    (fun h => s.applySilence_inLaw h _ _) reply hs

theorem State.endWindow_inLaw {s : State} (hs : RosterInLaw s) (ph : Phase) (r : ProbeRun) (p : ProbeInFlight)
    (heard : List WindowFrame) : RosterInLaw (s.endWindow ph r p heard) := by
  have applied := State.applyWindow_inLaw hs ph p r.next
    (w := readWindow s.identity.code p.filter r.next r.window heard)
    fun q uplink ago e => goodReply_valid (goodReply_of_readWindow e)
  unfold State.endWindow
  dsimp only
  split
  · refine inLaw_workKeeps.endProbe (fun s ph h => h.of_same rfl rfl) (fun s ph h => ?_) _ ph applied
    exact h.of_same (s.advanceOrigin_roster ph) (s.advanceOrigin_within ph .settings (by decide))
  · exact applied.of_same rfl rfl

/-! ### The images of the store -/

/-- The store of one state holds the rosters of another's, or fewer. -/
theorem Store.rosterLawful_of {a b : Store} (image : b.rosterImage = a.rosterImage ∨ b.rosterImage = none)
    (save : b.save = a.save ∨ b.save = none) (h : a.rosterLawful) : b.rosterLawful := by
  refine ⟨?_, ?_⟩
  · obtain e | e := image <;> rw [e]
    · exact h.1
    · trivial
  · obtain e | e := save <;> rw [e]
    · exact h.2
    · trivial

theorem Store.written_rosterLawful {a : Store} {v : Save} (save : a.save = some v) (ok : Bool) (h : a.rosterLawful) :
    (a.written v ok).rosterLawful := by
  obtain ⟨snapshot, origin, tag⟩ := v
  obtain ⟨image, saving⟩ := h
  rw [save] at saving
  cases snapshot with
  | settings x => exact ⟨image, trivial⟩
  | roster x =>
      refine ⟨?_, trivial⟩
      cases ok
      · trivial
      · exact saving

theorem State.startSave_rosterLawful {s : State} {p : Port} {tag : Byte} {v : Snapshot} (h : s.store.rosterLawful)
    (hv : ∀ x, v = .roster x → rosterLawful x.units) : (s.startSave p tag v).store.rosterLawful := by
  cases v with
  | settings x => exact ⟨h.1, trivial⟩
  | roster x => exact ⟨trivial, hv x rfl⟩

theorem State.endWrite_rosterLawful {s : State} {v : Save} (h : s.store.rosterLawful) (save : s.store.save = some v)
    (ok : Bool) : (s.endWrite v ok).store.rosterLawful := by
  have written (t : State) (ht : t.store = s.store.written v ok) : (t.offerHeld v.origin .storeDone).store.rosterLawful := by
    obtain ⟨-, image, saving⟩ := t.offerHeld_store v.origin .storeDone
    refine Store.rosterLawful_of (.inl image) (.inl saving) ?_
    rw [ht]
    exact Store.written_rosterLawful save ok h
  unfold State.endWrite
  dsimp only
  split
  · exact written _ rfl
  · exact written _ (by rw [State.post_fault])

/-- The roster and its image as a start-up leaves them (R185). -/
theorem State.startUp_rosterImage (s : State) (a b : Bool) (f : FaultRec) :
    (s.startUp a b f).roster =
        (match (s.store.atStart a b).rosterImage with
          | some v => v.roster (s.startUp a b f).rosterCapacity
          | none => []) ∧
      (s.startUp a b f).store.rosterImage = (s.store.atStart a b).rosterImage ∧
      (s.startUp a b f).store.save = none := by
  have loaded (t : State) : t.loadSettings.roster = t.roster ∧
      t.loadSettings.store.rosterImage = t.store.rosterImage ∧ t.loadSettings.store.save = t.store.save := by
    unfold State.loadSettings
    split
    · exact ⟨rfl, rfl, rfl⟩
    · rw [State.post_fault]
      exact ⟨rfl, rfl, rfl⟩
  have roster (t : State) (empty : t.roster = []) : t.loadRoster.roster =
        (match t.store.rosterImage with
          | some v => v.roster t.rosterCapacity
          | none => []) ∧
      t.loadRoster.store.rosterImage = t.store.rosterImage ∧ t.loadRoster.store.save = t.store.save ∧
        t.loadRoster.settings = t.settings := by
    unfold State.loadRoster
    cases image : t.store.rosterImage with
    | some v =>
        dsimp only
        split
        · rw [State.post_fault]
          exact ⟨rfl, image, rfl, rfl⟩
        · exact ⟨rfl, image, rfl, rfl⟩
    | none =>
        dsimp only
        rw [State.post_fault]
        exact ⟨empty, image, rfl, rfl⟩
  have figured (t : State) : t.figureAll.roster = t.roster ∧ t.figureAll.store = t.store ∧ t.figureAll.settings = t.settings :=
    foldl_frame (fun s t => t.roster = s.roster ∧ t.store = s.store ∧ t.settings = s.settings) (fun _ => ⟨rfl, rfl, rfl⟩)
      (fun h k => ⟨k.1.trans h.1, k.2.1.trans h.2.1, k.2.2.trans h.2.2⟩) State.refigure (fun s g => ⟨rfl, rfl, rfl⟩) _ t
  have applied (t : State) : t.applySettings.roster = t.roster ∧ t.applySettings.store = t.store ∧
      t.applySettings.rosterCapacity = t.rosterCapacity := ⟨rfl, rfl, rfl⟩
  have capacity (t u : State) (h : t.settings = u.settings) : t.rosterCapacity = u.rosterCapacity := by
    rw [State.rosterCapacity, h]
    rfl
  have start := loaded (s.starting (s.store.atStart a b) f)
  have load := roster (s.starting (s.store.atStart a b) f).loadSettings (start.1.trans rfl)
  have figure := figured (s.starting (s.store.atStart a b) f).loadSettings.loadRoster
  unfold State.startUp
  rw [(applied _).1, (applied _).2.1, (applied _).2.2, figure.1, figure.2.1, capacity _ _ (figure.2.2.trans load.2.2.2),
    load.1, load.2.1, load.2.2.1, start.2.1, start.2.2]
  exact ⟨rfl, rfl, rfl⟩

theorem State.startUp_lawful {s : State} (h : s.store.rosterLawful) (a b : Bool) (f : FaultRec) :
    RosterLawful (s.startUp a b f) := by
  obtain ⟨roster, image, save⟩ := s.startUp_rosterImage a b f
  have old : (match (s.store.atStart a b).rosterImage with | some v => rosterLawful v.units | none => True) := by
    cases b
    · exact h.1
    · trivial
  have loaded : LawfulBelow (s.startUp a b f).rosterCapacity (s.startUp a b f).roster := by
    rw [roster]
    split
    · rename_i v stored
      rw [stored] at old
      exact ⟨rosterLawful_loaded old _ v.counters, fun x hx => loaded_below old _ v.counters hx⟩
    · exact ⟨⟨List.Pairwise.nil, List.nodup_nil, by simp, by simp⟩, by simp⟩
  exact ⟨loaded.1, ⟨by rw [image]; exact old, by rw [save]; trivial⟩, loaded.2⟩

/-! ### Every step keeps the law -/

theorem RosterLawful.inLaw {s : State} (h : RosterLawful s) : RosterInLaw s := ⟨h.1, h.2.2⟩

theorem State.addUnitResult_unit {s : State} {a : AddUnitArgs} {i : Nat} {u : UnitRec}
    (h : s.addUnitResult a = .ok (i, u)) :
    lowestFree s.rosterCapacity s.roster = some i ∧ (∀ x ∈ s.roster, x.2.address ≠ u.address) ∧
      (u.address ≠ 0 ∧ u.address ≠ 0xFFFFFFFF) ∧ routeLawful s.roster u.phase none u.route = true := by
  unfold State.addUnitResult at h
  split at h
  · cases h
  · rename_i ph gs read
    have valid : validAddress a.address = true := by
      unfold readAddUnitArgs at read
      split at read
      · split at read
        · assumption
        · cases read
      · cases read
    split at h
    · cases h
    · rename_i unknown
      split at h
      · cases h
      · rename_i route _
        split at h
        · cases h
        · rename_i lawful
          split at h
          · cases h
          · rename_i j free
            cases h
            have unknown : s.indexOf? a.address = none := by simpa using unknown
            have lawful : routeLawful s.roster ph none route = true := by simpa using lawful
            have valid : a.address ≠ 0 ∧ a.address ≠ 0xFFFFFFFF := by simpa [validAddress] using valid
            exact ⟨free, State.indexOf?_eq_none_iff.mp unknown, valid, lawful⟩

theorem State.editUnitResult_unit {s : State} {a : EditUnitArgs} {u v : UnitRec}
    (h : s.editUnitResult a = .ok (u, v)) (lawful : ∀ w, s.unit? a.index.toNat = some w →
      routeLawful s.roster w.phase (some a.index.toNat) w.route = true) :
    unitAt s.roster a.index.toNat = some u ∧ v.address = u.address ∧ v.phase = u.phase ∧ v.mode = u.mode ∧
      v.state = u.state ∧ routeLawful s.roster v.phase (some a.index.toNat) v.route = true := by
  unfold State.editUnitResult at h
  split at h
  · cases h
  · split at h
    · cases h
    · rename_i w found
      split at h
      · cases h
      · rename_i route edited
        cases h
        refine ⟨found, rfl, rfl, rfl, rfl, ?_⟩
        unfold State.editedRoute at edited
        split at edited
        · cases edited
          exact lawful u found
        · split at edited
          · split at edited
            · cases edited
              assumption
            · cases edited
          · cases edited

theorem State.execEditUnit_inLaw {s : State} (hs : RosterInLaw s) {a : EditUnitArgs} {u v : UnitRec}
    (result : s.editUnitResult a = .ok (u, v)) :
    LawfulBelow s.rosterCapacity (s.editUnit a.index.toNat u v).roster := by
  obtain ⟨found, address, phase, -, -, route⟩ := State.editUnitResult_unit result
    fun w hw => hs.1.route (unitAt_mem hw)
  rw [State.editUnit_roster hs.1]
  refine LawfulBelow.written hs found address route fun kept => ⟨phase, ?_⟩
  simp only [UnitRec.withdrawn, Bool.or_eq_false_iff, bne_eq_false_iff_eq, Bool.and_eq_false_iff] at kept
  obtain ⟨same, capable⟩ := kept
  refine ⟨same.symm, fun c => ?_⟩
  obtain none_before | capable := capable
  · rw [none_before] at c
    cases c
  · simpa using capable

/-- Every command that touches the roster, the store or the settings keeps the roster's law. -/
theorem exec_rosterLawful {c : Instr} {s t : State} (plain : serves c = false)
    (touched : (touches c).any [Block.roster, .store, .settings].contains = true) (run : exec c s = .next t)
    (hs : RosterLawful s) : RosterLawful t := by
  have inLaw {u : State} (store : u.store = s.store) (h : RosterInLaw u) : RosterLawful u :=
    ⟨h.1, store ▸ hs.2.1, h.2⟩
  have retired {u : State} (h : RosterInLaw u) : RosterInLaw (u.retireSince s) :=
    h.of_same (State.retireSince_roster _ _) (State.retireSince_within _ _ .settings (by decide))
  have same {u : State} (roster : u.roster = s.roster) (store : u.store = s.store)
      (layout : u.rosterCapacity = s.rosterCapacity) : RosterLawful u :=
    ⟨roster ▸ hs.1, store ▸ hs.2.1, by rw [roster, layout]; exact hs.2.2⟩
  have keptStore : (touches c).contains .store = false → t.store = s.store :=
    fun apart => exec_within_of_not_serves plain run .store (by simpa using apart)
  have keptSettings : (touches c).contains .settings = false → t.settings = s.settings :=
    fun apart => exec_within_of_not_serves plain run .settings (by simpa using apart)
  have keptRoster : (touches c).contains .roster = false → t.roster = s.roster :=
    fun apart => exec_within_of_not_serves plain run .roster (by simpa using apart)
  cases c with
  | powerOn a b => cases run; exact State.startUp_lawful hs.2.1 a b _
  | pinReset a b => cases run; exact State.startUp_lawful hs.2.1 a b _
  | commandTransfer | fetchTransfer => cases plain
  | applyProfile p tag q =>
      refine same (keptRoster rfl) (keptStore rfl) ?_
      obtain ⟨-, rfl⟩ | ⟨-, rfl⟩ := whenTaken_cases run
      · split
        · rfl
        · split
          · rename_i q _
            have kept : (s.settings.withProfile q).layout = s.settings.layout := by cases q <;> rfl
            rw [State.rosterCapacity, State.retireSince_within _ _ .settings (by decide), State.recomputeAll_cal]
            exact congrArg Config.rosterCapacity kept
          · rfl
      · rfl
  | setParameter p tag a =>
      refine same (keptRoster rfl) (keptStore rfl) ?_
      obtain ⟨-, rfl⟩ | ⟨-, rfl⟩ := whenTaken_cases run
      · split
        · rfl
        · split
          · rename_i q _
            have kept (w : Nat) : (q.store s.settings w).layout = s.settings.layout := by cases q <;> rfl
            rw [State.rosterCapacity, State.retireSince_within _ _ .settings (by decide),
              State.parameterEffects_within _ _ .settings (by decide)]
            exact congrArg Config.rosterCapacity (kept _)
          · rfl
      · rfl
  | setGroupPermit p tag g q =>
      refine same (keptRoster rfl) (keptStore rfl) ?_
      obtain ⟨-, rfl⟩ | ⟨-, rfl⟩ := whenTaken_cases run
      · split
        · rfl
        · split
          · split <;> rfl
          · rfl
      · rfl
  | setQuota p tag l qa qb =>
      obtain ⟨-, rfl⟩ | ⟨-, rfl⟩ := whenTaken_cases run
      · split_ifs
        · exact hs
        · exact hs
        · exact hs
        · exact ⟨hs.1, State.startSave_rosterLawful hs.2.1 fun x hx => (nomatch hx), hs.2.2⟩
      · exact hs
  | addUnit p tag a =>
      refine inLaw (keptStore rfl) ?_
      have settings := keptSettings rfl
      unfold RosterInLaw State.rosterCapacity
      rw [settings]
      obtain ⟨-, rfl⟩ | ⟨-, rfl⟩ := whenTaken_cases run
      · split
        · exact hs.inLaw
        · rename_i i u result
          obtain ⟨free, fresh, valid, route⟩ := State.addUnitResult_unit result
          rw [State.record_roster]
          exact LawfulBelow.put hs.inLaw free fresh valid route
      · exact hs.inLaw
  | editUnit p tag a =>
      refine inLaw (keptStore rfl) ?_
      have settings := keptSettings rfl
      unfold RosterInLaw State.rosterCapacity
      rw [settings]
      obtain ⟨-, rfl⟩ | ⟨-, rfl⟩ := whenTaken_cases run
      · split
        · exact hs.inLaw
        · rename_i u v result
          exact State.execEditUnit_inLaw (s := (s.popFrame p).reply p 0x0D tag .ok []) hs.inLaw result
      · exact hs.inLaw
  | retireUnit p tag i =>
      refine inLaw (keptStore rfl) ?_
      have settings := keptSettings rfl
      unfold RosterInLaw State.rosterCapacity
      rw [settings]
      obtain ⟨-, rfl⟩ | ⟨-, rfl⟩ := whenTaken_cases run
      · split
        · exact hs.inLaw
        · split
          · exact hs.inLaw
          · rename_i u _
            rw [State.retireUnit_roster (s := (s.popFrame p).reply p 0x0E tag .ok (be32 u.address)) hs.1]
            exact hs.inLaw.without
      · exact hs.inLaw
  | saveSettings p tag =>
      obtain ⟨-, rfl⟩ | ⟨-, rfl⟩ := whenTaken_cases run
      · split
        · exact hs
        · exact ⟨hs.1, State.startSave_rosterLawful hs.2.1 fun x hx => (nomatch hx), hs.2.2⟩
      · exact hs
  | saveRoster p tag =>
      obtain ⟨-, rfl⟩ | ⟨-, rfl⟩ := whenTaken_cases run
      · split
        · exact hs
        · exact ⟨hs.1, State.startSave_rosterLawful hs.2.1 fun x hx => by cases hx; exact hs.1, hs.2.2⟩
      · exact hs
  | resetPort p tag =>
      have roster := keptRoster rfl
      have settings := keptSettings rfl
      refine ⟨roster ▸ hs.1, ?_, by rw [roster, State.rosterCapacity, settings]; exact hs.2.2⟩
      obtain ⟨-, rfl⟩ | ⟨-, rfl⟩ := whenTaken_cases run
      · rw [(State.noteLine_ports _ _ _).within .store (by decide)]
        exact Store.rosterLawful_of (.inl rfl) (.inl rfl) hs.2.1
      · exact hs.2.1
  | heldNoticeQueued p =>
      have roster := keptRoster rfl
      have settings := keptSettings rfl
      refine ⟨roster ▸ hs.1, ?_, by rw [roster, State.rosterCapacity, settings]; exact hs.2.2⟩
      cases run
      split
      · split
        · obtain ⟨-, -, image, save⟩ := State.queueHeld_store (s.modPort p _) p _
          exact Store.rosterLawful_of (.inl image) (.inl save) hs.2.1
        · exact hs.2.1
      · exact hs.2.1
  | replyReceived ph x =>
      refine inLaw (keptStore rfl) ?_
      cases run
      split
      · split
        · exact retired (s.endExchange_inLaw hs.inLaw ph _ _)
        · exact hs.inLaw
      · exact hs.inLaw
  | silencePoint ph =>
      refine inLaw (keptStore rfl) ?_
      cases run
      split
      · split
        · exact retired (s.endExchange_inLaw hs.inLaw ph _ _)
        · exact hs.inLaw
      · exact hs.inLaw
  | probeWindowEnd ph x =>
      refine inLaw (keptStore rfl) ?_
      cases run
      split
      · split
        · exact retired (s.endWindow_inLaw hs.inLaw ph _ _ _)
        · exact hs.inLaw
      · exact hs.inLaw
  | eraseEnd =>
      cases run
      split <;> exact hs
  | writeEnd ok =>
      have roster := keptRoster rfl
      have settings := keptSettings rfl
      refine ⟨roster ▸ hs.1, ?_, by rw [roster, State.rosterCapacity, settings]; exact hs.2.2⟩
      cases run
      split
      · rename_i v save
        split
        · exact State.endWrite_rosterLawful hs.2.1 save ok
        · exact hs.2.1
      · exact hs.2.1
  | _ => cases touched

/-- Every command but the transfers keeps the roster's law. -/
theorem exec_rosterLawful_of_not_serves {c : Instr} {s t : State} (plain : serves c = false) (run : exec c s = .next t)
    (hs : RosterLawful s) : RosterLawful t := by
  by_cases touched : (touches c).any [Block.roster, .store, .settings].contains = true
  · exact exec_rosterLawful plain touched run hs
  · have same (b : Block) (hb : [Block.roster, .store, .settings].contains b = true) : b.same s t :=
      exec_within_of_not_serves plain run b fun h => touched (List.any_eq_true.mpr ⟨b, h, hb⟩)
    have roster : t.roster = s.roster := same .roster rfl
    have store : t.store = s.store := same .store rfl
    have settings : t.settings = s.settings := same .settings rfl
    unfold RosterLawful State.rosterCapacity
    rw [roster, store, settings]
    exact hs

/-- Settles O37. -/
theorem rosterStaysLawful : Obligations.RosterStaysLawful := by
  intro s t hs run
  refine step_keeps (J := RosterLawful) [.roster, .store, .settings] (by decide) ?_ ?_ hs run
  · intro s t same h
    have roster : t.roster = s.roster := same .roster (by decide)
    have store : t.store = s.store := same .store (by decide)
    have settings : t.settings = s.settings := same .settings (by decide)
    unfold RosterLawful State.rosterCapacity
    rw [roster, store, settings]
    exact h
  · exact fun c s t plain touched run h => exec_rosterLawful plain touched run h

end Sys2Proof.Machine
end

section
/-! PROOFS. The derived figures of a group (R114) under the changes of a roster: which groups a change leaves as they
were (R115). -/

namespace Sys2Proof.Machine

/-! ### What the figures read -/

/-- What the figures of a group read of a member (R114). -/
def UnitRec.view (u : UnitRec) (r : Roster) : Bool × Nat × Mode := (u.reachable, u.route.length, pathMode r u)

/-- The figures that members with these views make (R114). -/
def figuresFrom (vs : List (Bool × Nat × Mode)) : Figures :=
  { members := vs.length
    reachable := (vs.filter (·.1)).length
    depth := vs.foldl (fun d v => max d v.2.1) 0
    mode := if (vs.filter (·.1)).isEmpty then .robust else (vs.filter (·.1)).foldl (fun m v => slower m v.2.2) .fast }

theorem figuresOf_eq (r : Roster) (g : Nat) (ph : Phase) :
    figuresOf r g ph = figuresFrom ((membersOn r g ph).map (UnitRec.view · r)) := by
  have heard : ((membersOn r g ph).map (UnitRec.view · r)).filter (·.1) =
      ((membersOn r g ph).filter UnitRec.reachable).map (UnitRec.view · r) := List.filter_map
  unfold figuresFrom
  rw [heard]
  simp only [figuresOf, List.length_map, List.foldl_map, List.isEmpty_map, UnitRec.view]

/-- Every unit is a member of group 0, and else of those of its list (R97). -/
theorem UnitRec.member_eq_false_iff (u : UnitRec) (g : Nat) : u.member g = false ↔ g ≠ 0 ∧ g ∉ u.groups := by
  simp [UnitRec.member]

section
variable {r : Roster} {g : Nat}

/-- Units that change without a change of membership, phase and view, or outside the group, leave its figures. -/
theorem figuresOf_map (f : Nat × UnitRec → UnitRec)
    (same : ∀ x ∈ r, (x.2.member g = false ∧ (f x).member g = false) ∨
      ((f x).member g = x.2.member g ∧ (f x).phase = x.2.phase ∧
        (f x).view (r.map (fun x => (x.1, f x))) = x.2.view r)) (ph : Phase) :
    figuresOf (r.map (fun x => (x.1, f x))) g ph = figuresOf r g ph := by
  have members (r' : Roster) : ∀ l : Roster,
      (∀ x ∈ l, (x.2.member g = false ∧ (f x).member g = false) ∨
        ((f x).member g = x.2.member g ∧ (f x).phase = x.2.phase ∧ (f x).view r' = x.2.view r)) →
      (membersOn (l.map (fun x => (x.1, f x))) g ph).map (UnitRec.view · r') =
        (membersOn l g ph).map (UnitRec.view · r) := by
    intro l
    induction l with
    | nil => intro _; rfl
    | cons x rest ih =>
        intro same
        have tail := ih fun y hy => same y (List.mem_cons_of_mem _ hy)
        unfold membersOn at tail ⊢
        simp only [List.map_cons, List.filter_cons]
        obtain ⟨before, after⟩ | ⟨member, phase, view⟩ := same x List.mem_cons_self
        · simp only [before, after, Bool.and_false, Bool.false_eq_true, if_false]
          exact tail
        · rw [member, phase]
          split
          · rw [List.map_cons, List.map_cons, view, tail]
          · exact tail
  rw [figuresOf_eq, figuresOf_eq, members _ r same]

/-- The path mode reads the modes of the relays alone (R98). -/
theorem pathMode_congr {r' : Roster} {u v : UnitRec} (route : v.route = u.route) (mode : v.mode = u.mode)
    (relays : ∀ j ∈ u.route, (unitAt r' j).map UnitRec.mode = (unitAt r j).map UnitRec.mode) :
    pathMode r' v = pathMode r u := by
  have walk : ∀ (l : List Nat) (m : Mode), (∀ j ∈ l, (unitAt r' j).map UnitRec.mode = (unitAt r j).map UnitRec.mode) →
      l.foldl (fun m i => match unitAt r' i with | some v => slower m v.mode | none => m) m =
        l.foldl (fun m i => match unitAt r i with | some v => slower m v.mode | none => m) m := by
    intro l
    induction l with
    | nil => intro m _; rfl
    | cons j rest ih =>
        intro m same
        have here := same j List.mem_cons_self
        rw [List.foldl_cons, List.foldl_cons, ih _ fun k hk => same k (List.mem_cons_of_mem _ hk)]
        congr 1
        cases before : unitAt r j with
        | none =>
            rw [before, Option.map_none, Option.map_eq_none_iff] at here
            rw [here]
        | some w =>
            rw [before, Option.map_some, Option.map_eq_some_iff] at here
            obtain ⟨w', found, e⟩ := here
            rw [found]
            exact congrArg (slower m) e
  unfold pathMode
  rw [route, mode]
  exact walk _ _ relays

theorem unitAt_clearDependents (starter : Nat) (sources : List Nat) (j : Nat) :
    unitAt (clearDependents starter sources r) j =
      (unitAt r j).map (fun u => if j ≠ starter ∧ u.dependsOn sources = true then u.invalidated else u) :=
  unitAt_map (fun x => if x.1 ≠ starter ∧ x.2.dependsOn sources = true then x.2.invalidated else x.2) r j

/-- The cascade leaves every unit's own mode. -/
theorem clearDependents_modes (starter : Nat) (sources : List Nat) (j : Nat) :
    (unitAt (clearDependents starter sources r) j).map UnitRec.mode = (unitAt r j).map UnitRec.mode := by
  rw [unitAt_clearDependents, Option.map_map]
  cases unitAt r j with
  | none => rfl
  | some u =>
      dsimp only [Option.map_some, Function.comp]
      split <;> rfl

variable {i : Nat} {u v : UnitRec}

/-- A written unit, its dependents cleared or not. -/
def rewritten (i : Nat) (v : UnitRec) (moved : Bool) (x : Nat × UnitRec) : UnitRec :=
  if x.1 = i then v else if moved = true ∧ i ∈ x.2.route then x.2.invalidated else x.2

theorem written_eq_map (moved : Bool) : written i v moved r = r.map (fun x => (x.1, rewritten i v moved x)) := by
  cases moved with
  | false =>
      refine List.map_congr_left fun x _ => ?_
      simp [rewritten]
  | true =>
      unfold written
      rw [if_pos rfl, clearDependents, setUnit, List.map_map]
      refine List.map_congr_left fun x _ => ?_
      by_cases h : x.1 = i
      · simp [rewritten, h]
      · simp [rewritten, h, UnitRec.dependsOn]

theorem written_modes (moved : Bool) {j : Nat} (apart : j ≠ i) :
    (unitAt (written i v moved r) j).map UnitRec.mode = (unitAt r j).map UnitRec.mode := by
  unfold written
  split
  · rw [clearDependents_modes, unitAt_setUnit_ne apart]
  · rw [unitAt_setUnit_ne apart]

/-- A unit written, its dependents cleared or not, leaves the figures of a group that has none of the units cleared, none
of those whose path mode it changes, and not the unit itself, unless nothing of it that the figures read has changed. -/
theorem figuresOf_written (h : rosterLawful r) (hu : unitAt r i = some u) {moved : Bool}
    (dependents : moved = true ∨ v.mode ≠ u.mode → ∀ x ∈ r, x.1 ≠ i → i ∈ x.2.route → x.2.member g = false)
    (own : (u.member g = false ∧ v.member g = false) ∨
      (v.groups = u.groups ∧ v.phase = u.phase ∧ v.route = u.route ∧ v.reachable = u.reachable ∧ v.mode = u.mode))
    (ph : Phase) : figuresOf (written i v moved r) g ph = figuresOf r g ph := by
  have modes {j : Nat} (hj : j ≠ i ∨ v.mode = u.mode) :
      (unitAt (written i v moved r) j).map UnitRec.mode = (unitAt r j).map UnitRec.mode := by
    by_cases e : j = i
    · subst e
      have mode : v.mode = u.mode := hj.resolve_left (not_not.mpr rfl)
      unfold written
      split
      · rw [clearDependents_modes, unitAt_setUnit_self hu, hu, Option.map_some, Option.map_some, mode]
      · rw [unitAt_setUnit_self hu, hu, Option.map_some, Option.map_some, mode]
    · exact written_modes moved e
  rw [written_eq_map] at modes ⊢
  refine figuresOf_map _ (fun x hx => ?_) ph
  by_cases here : x.1 = i
  · have was : x.2 = u := h.rising.unique (i := i) (here ▸ hx) (unitAt_mem hu)
    have now : rewritten i v moved x = v := if_pos here
    rw [was, now]
    obtain outside | ⟨groups, phase, route, reachable, mode⟩ := own
    · exact .inl outside
    · refine .inr ⟨by rw [UnitRec.member, groups]; rfl, phase, ?_⟩
      have path := pathMode_congr route mode fun j _ => modes (j := j) (.inr mode)
      rw [UnitRec.view, UnitRec.view, reachable, route, path]
  · by_cases named : i ∈ x.2.route
    · by_cases changed : moved = true ∨ v.mode ≠ u.mode
      · have outside := dependents changed x hx here named
        refine .inl ⟨outside, ?_⟩
        unfold rewritten
        rw [if_neg here]
        split
        · exact outside
        · exact outside
      · obtain ⟨unmoved, mode⟩ := not_or.mp changed
        have now : rewritten i v moved x = x.2 := by
          unfold rewritten
          rw [if_neg here, if_neg fun k => unmoved k.1]
        rw [now]
        refine .inr ⟨rfl, rfl, ?_⟩
        rw [UnitRec.view, UnitRec.view, pathMode_congr rfl rfl fun j _ => modes (.inr (not_not.mp mode))]
    · have now : rewritten i v moved x = x.2 := by
        unfold rewritten
        rw [if_neg here, if_neg fun k => named k.2]
      rw [now]
      refine .inr ⟨rfl, rfl, ?_⟩
      rw [UnitRec.view, UnitRec.view, pathMode_congr rfl rfl fun j hj => modes (.inl fun e => named (e ▸ hj))]

theorem UnitRec.invalidated_ne {w : UnitRec} (h : i ∈ w.route) : w.invalidated ≠ w := by
  intro e
  have : w.route = [] := by rw [← e]; rfl
  rw [this] at h
  cases h

theorem mem_changedGroups {before after : Roster} {x : Nat × UnitRec} (hx : x ∈ after)
    (changed : unitAt before x.1 ≠ some x.2) {k : Nat} (hk : k ∈ x.2.groups) : k ∈ changedGroups before after :=
  List.mem_flatMap.mpr ⟨x, List.mem_filter.mpr ⟨hx, by simpa using changed⟩, hk⟩

/-- The cascade's dependents are in the groups it changes. -/
theorem clearDependents_changed {r' : Roster} (rising : Rising r') {x : Nat × UnitRec} (hx : x ∈ r') (apart : x.1 ≠ i)
    (named : i ∈ x.2.route) : (x.1, x.2.invalidated) ∈ changedUnits r' (clearDependents i [i] r') := by
  refine List.mem_filter.mpr ⟨List.mem_map.mpr ⟨x, hx, ?_⟩, ?_⟩
  · rw [if_pos ⟨apart, by simpa [UnitRec.dependsOn] using named⟩]
  · have found : unitAt r' x.1 = some x.2 := rising.unitAt_iff.mpr hx
    rw [found]
    simpa using fun e => UnitRec.invalidated_ne named (Eq.symm e)

theorem member_eq_false_of_changed {r' : Roster} (rising : Rising r') {x : Nat × UnitRec} (hx : x ∈ r') (apart : x.1 ≠ i)
    (named : i ∈ x.2.route) (zero : g ≠ 0) (outside : g ∉ changedGroups r' (clearDependents i [i] r')) :
    x.2.member g = false :=
  (x.2.member_eq_false_iff g).mpr ⟨zero, fun hg => outside
    (List.mem_flatMap.mpr ⟨_, clearDependents_changed rising hx apart named, hg⟩)⟩

/-- A unit in no list of a group is put among the others, or leaves them, without a change of the group's figures. -/
theorem figuresOf_put (h : rosterLawful r) (free : unitAt r i = none) (outside : u.member g = false) (ph : Phase) :
    figuresOf (putUnit i u r) g ph = figuresOf r g ph := by
  obtain ⟨before, after, split, put, -, -⟩ := putUnit_split (u := u) (unitAt_eq_none_iff.mp free) h.rising
  have members : membersOn (putUnit i u r) g ph = membersOn r g ph := by
    rw [put, split]
    simp [membersOn, outside]
  rw [figuresOf_eq, figuresOf_eq, members]
  refine congrArg figuresFrom (List.map_congr_left fun w hw => ?_)
  obtain ⟨x, hx, rfl⟩ := List.mem_map.mp (List.mem_of_mem_filter hw)
  have path : pathMode (putUnit i u r) x.2 = pathMode r x.2 := by
    refine pathMode_congr rfl rfl fun j hj => ?_
    obtain ⟨k, hk, -⟩ := h.relay_of_mem hx hj
    rw [unitAt_putUnit_ne free h.rising fun e => unitAt_eq_none_iff.mp free _ hk e]
  rw [UnitRec.view, UnitRec.view, path]

theorem unitAt_withoutUnit_ne {j : Nat} (apart : j ≠ i) : unitAt (withoutUnit i r) j = unitAt r j := by
  unfold unitAt withoutUnit
  rw [List.find?_filter]
  congr 1
  refine List.find?_congr fun x _ => ?_
  by_cases e : x.1 = j
  · simp [e, apart]
  · simp [e]

theorem figuresOf_without (h : rosterLawful r) (hu : unitAt r i = some u) (outside : u.member g = false)
    (dependents : ∀ x ∈ r, x.1 ≠ i → i ∈ x.2.route → x.2.member g = false) (ph : Phase) :
    figuresOf (clearDependents i [i] (withoutUnit i r)) g ph = figuresOf r g ph := by
  have gone : membersOn (withoutUnit i r) g ph = membersOn r g ph := by
    unfold membersOn withoutUnit
    rw [List.filter_map, List.filter_map, List.filter_filter]
    congr 1
    refine List.filter_congr fun x hx => ?_
    by_cases e : x.1 = i
    · have was : x.2 = u := h.rising.unique (i := i) (e ▸ hx) (unitAt_mem hu)
      simp [was, outside]
    · simp [e]
  have left : figuresOf (withoutUnit i r) g ph = figuresOf r g ph := by
    rw [figuresOf_eq, figuresOf_eq, gone]
    refine congrArg figuresFrom (List.map_congr_left fun w hw => ?_)
    obtain ⟨mem, sel⟩ := List.mem_filter.mp hw
    obtain ⟨x, hx, rfl⟩ := List.mem_map.mp mem
    have member : x.2.member g = true := ((Bool.and_eq_true _ _).mp sel).2
    have names : i ∉ x.2.route := by
      intro named
      by_cases e : x.1 = i
      · have was : x.2 = u := h.rising.unique (i := i) (e ▸ hx) (unitAt_mem hu)
        rw [was, outside] at member
        cases member
      · rw [dependents x hx e named] at member
        cases member
    have path : pathMode (withoutUnit i r) x.2 = pathMode r x.2 :=
      pathMode_congr rfl rfl fun j hj => by rw [unitAt_withoutUnit_ne (i := i) fun e => names (e ▸ hj)]
    rw [UnitRec.view, UnitRec.view, path]
  rw [← left]
  refine figuresOf_map _ (fun x hx => ?_) ph
  obtain ⟨hr, apart⟩ := mem_withoutUnit.mp hx
  have stands : x.2.view (clearDependents i [i] (withoutUnit i r)) = x.2.view (withoutUnit i r) := by
    rw [UnitRec.view, UnitRec.view, pathMode_congr rfl rfl fun j _ => clearDependents_modes i [i] j]
  split
  · rename_i hit
    have named : i ∈ x.2.route := by simpa [UnitRec.dependsOn] using hit.2
    have out := dependents x hr apart named
    exact .inl ⟨out, out⟩
  · exact .inr ⟨rfl, rfl, stands⟩

end

end Sys2Proof.Machine
end

section
/-! PROOFS. Relations that read the calendar, the groups and the inputs of the plans under the channels' work; how the
entries of the calendar go on from step to step. -/

namespace Sys2Proof.Machine

/-! ### The channels' work beside the calendar -/

/-- The blocks a channel's work changes beside the calendar, the groups and the roster. -/
def asideBlocks : List Block := [.ports, .faults, .pings, .surveys, .levels, .line, .channels, .discovery]

section
variable (s : State) (ph : Phase)

theorem State.offer_within (p : Port) (i : Item) : Within [.ports] s (s.offer p i) := (s.offer_ports p i).within

theorem State.offerHeld_ping_within (p : Port) : Within [.ports, .pings] s (s.offerHeld p (.ping ph)) := by
  obtain h | h | ⟨i, -, h⟩ := s.offerHeld_cases p (.ping ph) <;> rw [h]
  · exact (State.modPort_ports s p _).within.mono (by decide)
  · exact Within.refl _ s
  · refine (State.pushItem_ports s p i).within.then (cs := [.pings]) ?_ (by decide)
    intro b hb
    cases b <;> first | rfl | exact absurd (by decide) hb

theorem State.offerHeld_survey_within (p : Port) : Within [.ports, .surveys] s (s.offerHeld p (.survey ph)) := by
  obtain h | h | ⟨i, -, h⟩ := s.offerHeld_cases p (.survey ph) <;> rw [h]
  · exact (State.modPort_ports s p _).within.mono (by decide)
  · exact Within.refl _ s
  · refine (State.pushItem_ports s p i).within.then (cs := [.surveys]) ?_ (by decide)
    intro b hb
    cases b <;> first | rfl | exact absurd (by decide) hb

theorem State.modPings_within (f : List PingRec → List PingRec) : Within [.pings] s (s.modPings ph f) := by
  intro b hb
  cases b <;> first | rfl | exact absurd (by decide) hb

theorem State.modLevel_within (f : LevelRec → LevelRec) : Within [.levels] s (s.modLevel ph f) := by
  intro b hb
  cases b <;> first | rfl | exact absurd (by decide) hb

theorem State.completeInFlight_within (r : PingResult) : Within [.ports, .pings] s (s.completeInFlight ph r) := by
  unfold State.completeInFlight
  split
  · split
    · exact (s.modPings_within ph _).mono (by decide)
    · exact (s.modPings_within ph _).then (State.offerHeld_ping_within _ ph _) (by decide)
  · exact Within.refl _ s

theorem State.requeueInFlight_within : Within [.pings] s (s.requeueInFlight ph) := by
  unfold State.requeueInFlight
  split
  · split <;> exact s.modPings_within ph _
  · exact Within.refl _ s

theorem State.sampleSlot_within (noise : Int) : Within [.ports, .surveys] s (s.sampleSlot ph noise) := by
  unfold State.sampleSlot State.offerSurvey
  dsimp only
  split
  · split
    · split
      · exact ((s.modSurvey_within ph _).trans (State.modSurvey_within _ ph _)).then
          (State.offerHeld_survey_within _ ph _) (by decide)
      · exact (s.modSurvey_within ph _).mono (by decide)
    · exact (s.modSurvey_within ph _).mono (by decide)
  · exact Within.refl _ s

theorem State.settleLine_within : Within [.line] s s.settleLine := by
  rw [s.settleLine_work]
  intro b hb
  cases b <;> first | rfl | exact absurd (by decide) hb

theorem State.transmit_within (w : Work) : Within [.channels, .levels] s (s.transmit ph w) :=
  (s.modChan_within ph _).then (State.modLevel_within _ ph _) (by decide)

theorem State.sendRepeat_within (h : Nat) : Within [.channels, .levels] s (s.sendRepeat h ph) := by
  unfold State.sendRepeat
  split
  · exact s.transmit_within ph _
  · exact Within.refl _ s

/-- The work that starts on a channel other than a part's changes neither the calendar nor the groups. -/
theorem Starts.within {s t : State} {ph : Phase} {c : Choice} (h : Starts s ph c t)
    (exchange : ∀ h, c ≠ .part h ∧ c ≠ .resume h) : Within [.pings, .discovery, .channels, .levels] s t := by
  cases h with
  | part h => exact absurd rfl (exchange h).1
  | resume h => exact absurd rfl (exchange h).2
  | confirm => exact (s.transmit_within ph _).mono (by decide)
  | ping => exact (s.modPings_within ph _).then (State.transmit_within _ ph _) (by decide)
  | registration => exact (s.modDisc_within ph _).then (State.transmit_within _ ph _) (by decide)
  | probe => exact (s.modDisc_within ph _).then (State.transmit_within _ ph _) (by decide)

end

/-- A relation that reads neither the ports, nor the channels, nor the records beside them holds over the channels' work,
once it holds over the changes of the calendar and over those of the parts that start, go on and end. -/
theorem WorkSteps.of_aside {R : State → State → Prop} (hR : FreeEdits R) (aside : ∀ {s t}, Within asideBlocks s t → R s t)
    (begun : ∀ s h ph e, s.choose ph = some (.part h) → s.entry? h = some e → e.sequence = none → R s (s.beginSending e))
    (sending : ∀ s h ph e now, s.entry? h = some e → e.sequence.isSome = true →
      R s (s.modPart h ph (fun p => { p with state := .sending, start := some now })))
    (resumed : ∀ s h ph, R s (s.modPart h ph (fun p => { p with state := .sending })))
    (suspended : ∀ s h ph, R s (s.modPart h ph (fun p => { p with state := .suspended })))
    (sent : ∀ s h ph, R s (s.modPart h ph (fun p => { p with sent := p.sent + 1 }))) : WorkSteps R where
  toFreeEdits := hR
  post s f := aside ((s.post_fault f).within.mono (by decide))
  settleLine s := aside (s.settleLine_within.mono (by decide))
  markQuiet s ph := aside ((s.modChan_within ph _).mono (by decide))
  clearWork s ph := aside ((s.modChan_within ph _).mono (by decide))
  halted s ph := aside ((s.modChan_within ph _).mono (by decide))
  silent s ph := aside ((s.completeQueued_within ph _).mono (by decide))
  unregister s ph := aside ((s.modDisc_within ph _).mono (by decide))
  started s ph c t chosen h := by
    have starts := Starts.of_serve h
    cases c with
    | part k =>
        cases starts
        unfold State.startPart
        split
        · rename_i e found
          have sent (u : State) (hu : ∃ x, u.entry? k = some x ∧ x.sequence.isSome = true) : R u
              (((u.modPart k ph (fun p => { p with state := .sending, start := some (s.crossingNow ph) })).modChan ph
                (fun c => { c with openPart := some k })).sendRepeat k ph) := by
            obtain ⟨x, hx, sequence⟩ := hu
            refine hR.trans (sending u k ph x (s.crossingNow ph) hx sequence) (aside ?_)
            exact (State.modChan_within _ ph _).then (State.sendRepeat_within _ ph k) (by decide)
          dsimp only
          split
          · rename_i first
            have unsent : e.sequence = none := by simpa using first
            refine hR.trans (begun s k ph e chosen found unsent) (sent _ ?_)
            refine ⟨{ e with sequence := some ((s.group e.group).sequence + 1) }, ?_, rfl⟩
            have same : (s.beginSending e).calendar =
                (s.modEntry k (fun x => { x with sequence := some ((s.group e.group).sequence + 1) })).calendar := by
              rw [← State.entry?_handle found]
              unfold State.beginSending
              dsimp only
              rw [State.offer_ports]
              rfl
            rw [State.entry?_of_same same]
            exact State.entry?_modEntry_self (fun _ => rfl) found
          · rename_i begun_already
            exact sent s ⟨e, found, by simpa [Option.isSome_iff_ne_none] using begun_already⟩
        · exact hR.refl s
    | resume k =>
        cases starts
        refine hR.trans (resumed s k ph) (aside ?_)
        exact (State.modChan_within _ ph _).then (State.sendRepeat_within _ ph k) (by decide)
    | confirm | ping | registration | probe =>
        exact aside ((starts.within fun _ => ⟨nofun, nofun⟩).mono (by decide))
  goOn s ph c t _ h := by
    cases GoesOn.of_serve h with
    | idle => exact hR.refl s
    | notReached => exact hR.trans (hR.decideUnit s _ ph _) (hR.settleConfirm _ _)
    | unconfirmed => exact hR.trans (hR.decideUnconfirmed s _ ph _) (hR.settleConfirm _ _)
    | notSent => exact aside ((s.completeQueued_within ph _).mono (by decide))
    | discarded => exact aside ((s.modDisc_within ph _).mono (by decide))
    | origin => exact aside ((s.modDisc_within ph _).then (State.advanceOrigin_within _ ph) (by decide))
  suspend s h ph := hR.trans (suspended s h ph) (aside ((State.modChan_within _ ph _).mono (by decide)))
  send s h ph := aside ((s.sendRepeat_within ph h).mono (by decide))
  floodOff s ph := aside ((s.modChan_within ph _).mono (by decide))
  sent s h ph f _ _ := hR.trans (aside ((s.modChan_within ph _).mono (by decide))) (sent _ h ph)
  closeOpen s ph := aside ((s.modChan_within ph _).mono (by decide))
  gap s ph := aside ((s.modChan_within ph _).mono (by decide))
  absent s ph := aside ((s.modChan_within ph _).mono (by decide))
  lost s ph := aside ((s.modChan_within ph _).mono (by decide))
  requeue s ph := aside ((s.requeueInFlight_within ph).mono (by decide))
  relist s ph x _ _ := aside ((s.modChan_within ph _).then (State.modDisc_within _ ph _) (by decide))
  restack s ph := aside ((s.modDisc_within ph _).mono (by decide))
  sample s ph noise := aside ((s.sampleSlot_within ph noise).mono (by decide))
  count s ph b := aside ((s.modChan_within ph _).mono (by decide))
  inFlight s ph r := aside ((s.completeInFlight_within ph r).mono (by decide))

theorem WorkSteps.keeps {R : State → State → Prop} (hR : WorkSteps R) (hF : FreeKeeps R) : WorkKeeps R := { hF, hR with }

end Sys2Proof.Machine
end

section
/-! PROOFS. How the entries of a calendar come from those of another: which entries remain, in which order, and by which
changes of each. -/

namespace Sys2Proof.Machine

/-! ### One entry's changes -/

/-- The plans the inputs make, by group, class, activation and phase (R32). -/
abbrev PlanOf : Type := Nat → EntryClass → Nat → Phase → PlanFigures

/-- The elementary changes of an entry, between its admission and its leaving. -/
inductive Entry.Change (plan : PlanOf) : Entry → Entry → Prop
  | noted (e : Entry) (f : Entry → Entry) : Entry.Noted f → Change plan e (f e)
  | retired (e : Entry) : e.outcome = none → Change plan e e.retired
  | finished (e : Entry) (ph : Phase) (f : Finish) (needed : Bool) : Change plan e (e.modPart ph (·.finished f needed))
  | ready (e : Entry) (ph : Phase) : (e.parts.get ph).state = .waiting →
      Change plan e (e.modPart ph (fun p => { p with state := .ready }))
  | waiting (e : Entry) (ph : Phase) : (e.parts.get ph).state = .ready →
      Change plan e (e.modPart ph (fun p => { p with state := .waiting }))
  | replanned (s : State) (e : Entry) : s.plan = plan → Change plan e (s.replanned e)
  | begun (e : Entry) (sequence : Byte) : Change plan e { e with sequence := some sequence }
  | started (e : Entry) (ph : Phase) (now : Nat) : e.sequence.isSome = true →
      Change plan e (e.modPart ph (fun p => { p with state := .sending, start := some now }))
  | resumed (e : Entry) (ph : Phase) : Change plan e (e.modPart ph (fun p => { p with state := .sending }))
  | suspended (e : Entry) (ph : Phase) : Change plan e (e.modPart ph (fun p => { p with state := .suspended }))
  | sent (e : Entry) (ph : Phase) : Change plan e (e.modPart ph (fun p => { p with sent := p.sent + 1 }))

/-- What admission fixes of an entry (R4, R11). -/
def Entry.fixed (e : Entry) : Nat × Port × Byte × Nat × Action × Nat × Option Nat × EntryClass × Bool :=
  (e.handle, e.origin, e.tag, e.group, e.action, e.activation, e.expiry, e.cls, e.confirm)

theorem Entry.Noted.fixed {f : Entry → Entry} (h : Entry.Noted f) (e : Entry) : (f e).fixed = e.fixed := by
  rw [h e]
  rfl

theorem Entry.Change.fixed {plan : PlanOf} {e x : Entry} (h : Entry.Change plan e x) : x.fixed = e.fixed := by
  cases h with
  | noted _ f noted => exact Entry.Noted.fixed noted e
  | _ => rfl

theorem Entry.fixed_handle {e x : Entry} (h : x.fixed = e.fixed) : x.handle = e.handle := congrArg Prod.fst h

theorem Entry.fixed_origin {e x : Entry} (h : x.fixed = e.fixed) : x.origin = e.origin :=
  congrArg (fun v => v.2.1) h

theorem Entry.fixed_group {e x : Entry} (h : x.fixed = e.fixed) : x.group = e.group :=
  congrArg (fun v => v.2.2.2.1) h

theorem Entry.fixed_activation {e x : Entry} (h : x.fixed = e.fixed) : x.activation = e.activation :=
  congrArg (fun v => v.2.2.2.2.2.1) h

theorem Entry.fixed_cls {e x : Entry} (h : x.fixed = e.fixed) : x.cls = e.cls :=
  congrArg (fun v => v.2.2.2.2.2.2.2.1) h

/-! ### The entries that remain -/

/-- The handles of a calendar. -/
abbrev State.handles (s : State) : List Nat := s.calendar.map (·.handle)

/-- The entries of one calendar come from those of another, in their order, by the relation; where handles are held
once. What admission fixed stays, whether or not. -/
def Follows (Q : Entry → Entry → Prop) (s t : State) : Prop :=
  (t.calendar.map Entry.fixed).Sublist (s.calendar.map Entry.fixed) ∧
    (s.handles.Nodup → ∀ x ∈ t.calendar, ∃ e ∈ s.calendar, x.fixed = e.fixed ∧ Q e x)

section
variable {Q : Entry → Entry → Prop} {s t u : State}

theorem Follows.handles_sublist (h : Follows Q s t) : t.handles.Sublist s.handles := by
  have := h.1.map (fun v => v.1)
  rw [List.map_map, List.map_map] at this
  exact this

theorem Follows.nodup (h : Follows Q s t) (nodup : s.handles.Nodup) : t.handles.Nodup :=
  nodup.sublist h.handles_sublist

theorem Follows.of_same (refl : ∀ e, Q e e) (same : t.calendar = s.calendar) : Follows Q s t := by
  unfold Follows
  rw [same]
  exact ⟨List.Sublist.refl _, fun _ x hx => ⟨x, hx, rfl, refl x⟩⟩

theorem Follows.trans (trans : ∀ {a b c}, Q a b → Q b c → Q a c) (h : Follows Q s t) (k : Follows Q t u) :
    Follows Q s u := by
  refine ⟨k.1.trans h.1, fun nodup x hx => ?_⟩
  obtain ⟨y, hy, fy, qy⟩ := k.2 (h.nodup nodup) x hx
  obtain ⟨e, he, fe, qe⟩ := h.2 nodup y hy
  exact ⟨e, he, fy.trans fe, trans qe qy⟩

/-- An entry changes by the relation, where handles are held once the one that is found. -/
theorem Follows.modEntry (refl : ∀ e, Q e e) (h : Nat) {f : Entry → Entry} (fixed : ∀ e, (f e).fixed = e.fixed)
    (change : s.handles.Nodup → ∀ e, s.entry? h = some e → Q e (f e)) : Follows Q s (s.modEntry h f) := by
  have all : ∀ e : Entry, (if e.handle == h then f e else e).fixed = e.fixed := by
    intro e
    split
    · exact fixed e
    · rfl
  constructor
  · have same : (s.modEntry h f).calendar.map Entry.fixed = s.calendar.map Entry.fixed := by
      rw [State.modEntry, List.map_map]
      exact List.map_congr_left fun e _ => all e
    rw [same]
  · intro nodup x hx
    obtain ⟨e, he, rfl⟩ := List.mem_map.mp hx
    refine ⟨e, he, all e, ?_⟩
    split
    · rename_i here
      have handle : e.handle = h := by simpa using here
      exact change nodup e (handle ▸ State.entry?_of_mem nodup he)
    · exact refl e

theorem Follows.filter (refl : ∀ e, Q e e) {p : Entry → Bool} (same : t.calendar = s.calendar.filter p) :
    Follows Q s t := by
  unfold Follows
  rw [same]
  exact ⟨List.filter_sublist.map _, fun _ x hx => ⟨x, List.mem_of_mem_filter hx, rfl, refl x⟩⟩

/-- An entry that leaves the calendar, or the offer of its notice. -/
theorem State.offerHeld_calendar (s : State) (p : Port) (o : HeldOwner) :
    (s.offerHeld p o).calendar = s.calendar ∨
      ∃ h, o = .outcome h ∧ (s.offerHeld p o).calendar = s.calendar.filter (fun e => e.handle != h) := by
  obtain h | h | ⟨i, -, h⟩ := s.offerHeld_cases p o <;> rw [h]
  · exact .inl rfl
  · exact .inl rfl
  · cases o with
    | outcome k => exact .inr ⟨k, rfl, rfl⟩
    | _ => exact .inl rfl

theorem Follows.joinRetirement (refl : ∀ e, Q e e) (s : State) (h : Nat) : Follows Q s (s.joinRetirement h) := by
  unfold State.joinRetirement
  split
  · rename_i e _
    obtain same | ⟨k, -, gone⟩ := State.offerHeld_calendar
      { s with retirement := s.retirement.set e.origin (s.retirement.get e.origin ++ [h]) } e.origin (.outcome h)
    · exact Follows.of_same refl same
    · exact Follows.filter refl gone
  · exact Follows.of_same refl rfl

end

/-! ### The inputs of the plans -/

/-- The inputs of the plans are the same (R32): the figures, the settings and the planning frequency. -/
def SameInputs (s t : State) : Prop :=
  (∀ g ph, t.figures g ph = s.figures g ph) ∧ t.settings = s.settings ∧ t.fPlan = s.fPlan

section
variable {s t u : State}

theorem SameInputs.of_same (groups : t.groups = s.groups) (settings : t.settings = s.settings) (fPlan : t.fPlan = s.fPlan) :
    SameInputs s t :=
  ⟨fun g ph => by rw [State.figures, State.group, groups]; rfl, settings, fPlan⟩

theorem SameInputs.refl (s : State) : SameInputs s s := ⟨fun _ _ => rfl, rfl, rfl⟩

theorem SameInputs.trans (h : SameInputs s t) (k : SameInputs t u) : SameInputs s u :=
  ⟨fun g ph => (k.1 g ph).trans (h.1 g ph), k.2.1.trans h.2.1, k.2.2.trans h.2.2⟩

theorem SameInputs.plan (h : SameInputs s t) : t.plan = s.plan := by
  obtain ⟨figures, settings, fPlan⟩ := h
  funext g cls activation ph
  simp only [State.plan, figures, settings, fPlan]

theorem SameInputs.of_within {bs : List Block} (h : Within bs s t)
    (apart : Block.groups ∉ bs ∧ Block.settings ∉ bs ∧ Block.fPlan ∉ bs) : SameInputs s t :=
  .of_same (h .groups apart.1) (h .settings apart.2.1) (h .fPlan apart.2.2)

end

theorem State.beginSending_groups (s : State) (e : Entry) :
    (s.beginSending e).groups = (s.modGroup e.group (fun r =>
      { r with
        sequence := (s.group e.group).sequence + 1
        fieldPending := if e.activation * 1000 ≤ s.now then r.fieldPending
          else insertActivation e.activation r.fieldPending })).groups := by
  unfold State.beginSending
  dsimp only
  rw [State.offer_ports]
  rfl

theorem State.beginSending_calendar (s : State) (e : Entry) :
    (s.beginSending e).calendar =
      (s.modEntry e.handle (fun x => { x with sequence := some ((s.group e.group).sequence + 1) })).calendar := by
  unfold State.beginSending
  dsimp only
  rw [State.offer_ports]
  rfl

/-- An entry's sending begins without a change of the figures of its group. -/
theorem State.beginSending_sameInputs (s : State) (e : Entry) : SameInputs s (s.beginSending e) := by
  refine ⟨fun g ph => ?_, ?_, ?_⟩
  · unfold State.figures State.group
    rw [State.beginSending_groups, State.modGroup]
    by_cases here : g = e.group
    · subst here
      by_cases inside : e.group < s.groups.length
      · simp [State.group, inside]
      · simp [inside]
    · simp only [List.getD_eq_getElem?_getD, List.getElem?_set_ne (Ne.symm here)]
  · unfold State.beginSending
    dsimp only
    rw [State.offer_ports]
    rfl
  · unfold State.beginSending
    dsimp only
    rw [State.offer_ports]
    rfl

/-- The entries follow by a relation that reads the plans, and the inputs of the plans stay. -/
def KeepsEntries (Q : PlanOf → Entry → Entry → Prop) (s t : State) : Prop := SameInputs s t ∧ Follows (Q s.plan) s t

section
variable {Q : PlanOf → Entry → Entry → Prop} (refl : ∀ P e, Q P e e) (trans : ∀ {P a b c}, Q P a b → Q P b c → Q P a c)
  (change : ∀ P e x, Entry.Change P e x → Q P e x)
include refl

theorem KeepsEntries.of_within {bs : List Block} {s t : State} (h : Within bs s t)
    (apart : Block.groups ∉ bs ∧ Block.settings ∉ bs ∧ Block.fPlan ∉ bs ∧ Block.calendar ∉ bs) : KeepsEntries Q s t :=
  ⟨.of_within h ⟨apart.1, apart.2.1, apart.2.2.1⟩, .of_same (refl _) (h .calendar apart.2.2.2)⟩

include change

theorem KeepsEntries.modEntry (s : State) (h : Nat) {f : Entry → Entry} (fixed : ∀ e, (f e).fixed = e.fixed)
    (by_change : s.handles.Nodup → ∀ e, s.entry? h = some e → Entry.Change s.plan e (f e)) :
    KeepsEntries Q s (s.modEntry h f) :=
  ⟨.of_same rfl rfl rfl, .modEntry (refl _) h fixed fun nodup e found => change _ _ _ (by_change nodup e found)⟩

include trans

/-- The entries follow over the calendar's operations. -/
theorem entries_calKeeps : FreeKeeps (KeepsEntries Q) where
  refl s := ⟨SameInputs.refl s, .of_same (refl _) rfl⟩
  trans h k := ⟨h.1.trans k.1, h.2.trans trans (h.1.plan ▸ k.2)⟩
  offer s p k c := .of_within refl (s.offer_within p _) (by decide)
  join s h := ⟨.of_within (s.joinRetirement_cal h).within (by decide), .joinRetirement (refl _) s h⟩
  noteAny s h f noted := .modEntry refl change s h noted.fixed fun _ e _ => .noted e f noted
  decideAny s h := by
    refine .modEntry refl change s h (fun e => ?_) fun _ e _ => ?_
    · split <;> rfl
    · split
      · exact .noted e id fun _ => rfl
      · rename_i undecided
        exact .retired e (by simpa using undecided)
  finishAny s h ph f b := .modEntry refl change s h (fun _ => rfl) fun _ e _ => .finished e ph f b
  ready s h ph e found waiting := .modEntry refl change s h (fun _ => rfl) fun _ x hx =>
    .ready x ph (by rw [Option.some.inj (hx.symm.trans found)]; exact waiting)
  wait s h ph e found ready := .modEntry refl change s h (fun _ => rfl) fun _ x hx =>
    .waiting x ph (by rw [Option.some.inj (hx.symm.trans found)]; exact ready)
  replan s h := .modEntry refl change s h (fun _ => rfl) fun _ e _ => .replanned s e rfl
  giveUp s ph h := .of_within refl (s.modChan_within ph _) (by decide)

/-- The entries follow over the channels' work. -/
theorem entries_workKeeps : WorkKeeps (KeepsEntries Q) := by
  have entries := entries_calKeeps refl trans change
  refine WorkSteps.keeps (.of_aside entries.toFreeEdits (fun h => .of_within refl h (by decide)) ?_ ?_ ?_ ?_ ?_) entries
  · intro s h ph e _ found _
    refine ⟨s.beginSending_sameInputs e, ?_⟩
    refine Follows.trans trans (Follows.modEntry (s := s) (refl _) e.handle
      (f := fun x => { x with sequence := some ((s.group e.group).sequence + 1) }) (fun _ => rfl) fun _ x _ =>
      change _ x _ (.begun x ((s.group e.group).sequence + 1))) (.of_same (refl _) (s.beginSending_calendar e))
  · exact fun s h ph e now found begun => .modEntry refl change s h (fun _ => rfl) fun _ x hx =>
      .started x ph now (by rw [Option.some.inj (hx.symm.trans found)]; exact begun)
  · exact fun s h ph => .modEntry refl change s h (fun _ => rfl) fun _ x _ => .resumed x ph
  · exact fun s h ph => .modEntry refl change s h (fun _ => rfl) fun _ x _ => .suspended x ph
  · exact fun s h ph => .modEntry refl change s h (fun _ => rfl) fun _ x _ => .sent x ph

end

end Sys2Proof.Machine
end

section
/-! PROOFS. The derived figures stay those of the roster, and the waiting plans those of their inputs (R14, R40 to R42,
R114, R115). -/

namespace Sys2Proof.Machine

/-! ### The plan of an entry's waiting parts -/

/-- Every WAITING and READY part of an entry holds the plan of these inputs (R14). -/
def Entry.Planned (plan : PlanOf) (e : Entry) : Prop :=
  ∀ ph, (e.parts.get ph).unstarted = true →
    (e.parts.get ph).replan (plan e.group e.cls e.activation ph) = e.parts.get ph

theorem plansCurrent_iff (s : State) : PlansCurrent s ↔ ∀ e ∈ s.calendar, e.Planned s.plan := Iff.rfl

/-- The plan fields of a part are those of the plan it is replanned with. -/
theorem Part.replan_eq_self_iff (p : Part) (f : PlanFigures) :
    p.replan f = p ↔ p.depth = f.depth ∧ p.mode = f.mode ∧ p.planned = f.planned ∧ p.ls = f.ls ∧ p.es = f.es := by
  constructor
  · intro h
    have field {α : Type} (get : Part → α) : get p = get (p.replan f) := congrArg get h.symm
    exact ⟨field Part.depth, field Part.mode, field Part.planned, field Part.ls, field Part.es⟩
  · rintro ⟨h1, h2, h3, h4, h5⟩
    unfold Part.replan
    rw [← h1, ← h2, ← h3, ← h4, ← h5]

/-- A part changed without a change of its plan fields, and unstarted only if it was before. -/
theorem Entry.Planned.modPart {plan : PlanOf} {e : Entry} (h : e.Planned plan) (ph : Phase) {f : Part → Part}
    (fields : ∀ p, (f p).depth = p.depth ∧ (f p).mode = p.mode ∧ (f p).planned = p.planned ∧ (f p).ls = p.ls ∧
      (f p).es = p.es)
    (unstarted : (f (e.parts.get ph)).unstarted = true → (e.parts.get ph).unstarted = true) :
    (e.modPart ph f).Planned plan := by
  intro k
  by_cases here : k = ph
  · subst here
    rw [show (e.modPart k f).parts.get k = f (e.parts.get k) from Tri.get_set_self ..]
    intro waits
    obtain ⟨h1, h2, h3, h4, h5⟩ := fields (e.parts.get k)
    have before := (Part.replan_eq_self_iff _ _).mp (h k (unstarted waits))
    exact (Part.replan_eq_self_iff _ _).mpr (by rw [h1, h2, h3, h4, h5]; exact before)
  · rw [show (e.modPart ph f).parts.get k = e.parts.get k from Tri.get_set_ne _ _ here]
    exact h k

theorem Entry.Planned.of_parts {plan : PlanOf} {e x : Entry} (h : e.Planned plan) (fixed : x.fixed = e.fixed)
    (parts : x.parts = e.parts) : x.Planned plan := by
  unfold Entry.Planned
  rw [Entry.fixed_group fixed, Entry.fixed_cls fixed, Entry.fixed_activation fixed, parts]
  exact h

theorem State.replanned_planned (s : State) (e : Entry) : (s.replanned e).Planned s.plan := by
  intro ph waits
  have part : (s.replanned e).parts.get ph =
      if (e.parts.get ph).unstarted then (e.parts.get ph).replan (s.plan e.group e.cls e.activation ph)
      else e.parts.get ph := by
    cases ph <;> rfl
  rw [part] at waits ⊢
  split at waits
  · rename_i before
    rw [if_pos before]
    rfl
  · rename_i before
    exact absurd waits before

/-- Every change of an entry keeps its waiting plans those of the inputs, or makes them so. -/
theorem Entry.Change.planned {plan : PlanOf} {e x : Entry} (change : Entry.Change plan e x) (h : e.Planned plan) :
    x.Planned plan := by
  have same (f : PartState) (p : Part) : ({ p with state := f } : Part).depth = p.depth ∧
      ({ p with state := f } : Part).mode = p.mode ∧ ({ p with state := f } : Part).planned = p.planned ∧
      ({ p with state := f } : Part).ls = p.ls ∧ ({ p with state := f } : Part).es = p.es := ⟨rfl, rfl, rfl, rfl, rfl⟩
  cases change with
  | noted _ f noted => exact h.of_parts (Entry.Noted.fixed noted e) (by rw [noted e])
  | retired => exact h.of_parts rfl rfl
  | finished _ ph f b => exact h.modPart ph (fun p => ⟨rfl, rfl, rfl, rfl, rfl⟩) fun waits => nomatch waits
  | ready _ ph state => exact h.modPart ph (same _) fun _ => by simp [Part.unstarted, state]
  | waiting _ ph state => exact h.modPart ph (same _) fun _ => by simp [Part.unstarted, state]
  | replanned s _ plan => exact plan ▸ s.replanned_planned e
  | begun _ q => exact h.of_parts rfl rfl
  | started _ ph now => exact h.modPart ph (fun p => ⟨rfl, rfl, rfl, rfl, rfl⟩) fun waits => nomatch waits
  | resumed _ ph => exact h.modPart ph (same _) fun waits => nomatch waits
  | suspended _ ph => exact h.modPart ph (same _) fun waits => nomatch waits
  | sent _ ph => exact h.modPart ph (fun p => ⟨rfl, rfl, rfl, rfl, rfl⟩) id

/-- The waiting plans stay current over each change. -/
def KeepsPlans : State → State → Prop := KeepsEntries (fun plan e x => e.Planned plan → x.Planned plan)

theorem plans_workKeeps : WorkKeeps KeepsPlans :=
  entries_workKeeps (fun _ _ => id) (fun h k hp => k (h hp)) fun _ _ _ change => change.planned

/-! ### Plans remade (R41, R42) -/

section
variable {s t : State}

/-- The entries with these handles hold the plans of the inputs. -/
def PlannedIn (hs : List Nat) (s : State) : Prop := ∀ e ∈ s.calendar, e.handle ∈ hs → e.Planned s.plan

theorem PlannedIn.keeps {hs : List Nat} (nodup : s.handles.Nodup) (h : PlannedIn hs s) (k : KeepsPlans s t) :
    PlannedIn hs t := by
  intro x hx hin
  obtain ⟨e, he, fixed, planned⟩ := k.2.2 nodup x hx
  rw [k.1.plan]
  exact planned (h e he (Entry.fixed_handle fixed ▸ hin))

theorem PlannedIn.reviewParts {hs : List Nat} (nodup : s.handles.Nodup) (h : PlannedIn hs s) (cutOff : Bool) (k : Nat) :
    PlannedIn (k :: hs) (s.reviewParts true cutOff k) := by
  have replanned : PlannedIn (k :: hs) (s.modEntry k s.replanned) := by
    intro x hx hin
    have plan : (s.modEntry k s.replanned).plan = s.plan := SameInputs.plan (.of_same rfl rfl rfl)
    obtain ⟨e, he, rfl⟩ := List.mem_map.mp hx
    rw [plan]
    by_cases here : e.handle = k
    · rw [if_pos (by simpa using here)]
      exact s.replanned_planned e
    · rw [if_neg (by simpa using here)] at hin ⊢
      exact h e he ((List.mem_cons.mp hin).resolve_left here)
  have nodup' : (s.modEntry k s.replanned).handles.Nodup := (plans_workKeeps.replan s k).2.nodup nodup
  unfold State.reviewParts
  rw [if_pos rfl]
  dsimp only
  split
  · exact replanned.keeps nodup' (plans_workKeeps.reachCutOff _ k)
  · exact replanned.keeps nodup' (plans_workKeeps.rereadParts _ k)

/-- A review that recomputes plans leaves those of every entry current, if those of the entries it leaves out were. -/
theorem State.review_plansCurrent (nodup : s.handles.Nodup) (test cutOff : Entry → Bool)
    (others : ∀ e ∈ s.calendar, test e = false → e.Planned s.plan) : PlansCurrent (s.review true test cutOff) := by
  have parts : ∀ (es : List Entry) (hs : List Nat) (s : State), s.handles.Nodup → PlannedIn hs s →
      PlannedIn (es.map (·.handle) ++ hs) (es.foldl (fun s e => s.reviewParts true (cutOff e) e.handle) s) := by
    intro es
    induction es with
    | nil => exact fun _ _ _ h => h
    | cons e rest ih =>
        intro hs s nodup h
        have step := h.reviewParts nodup (cutOff e) e.handle
        have nodup' := (plans_workKeeps.reviewParts s true (cutOff e) e.handle).2.nodup nodup
        refine fun x hx hin => ih (e.handle :: hs) _ nodup' step x hx ?_
        rw [List.map_cons, List.cons_append] at hin
        obtain here | inside := List.mem_cons.mp hin
        · exact List.mem_append_right _ (by rw [here]; exact List.mem_cons_self)
        · obtain later | before := List.mem_append.mp inside
          · exact List.mem_append_left _ later
          · exact List.mem_append_right _ (List.mem_cons_of_mem _ before)
  have first := parts (s.calendar.filter test) [] s nodup fun _ _ h => nomatch h
  rw [List.append_nil] at first
  have nodup' := (plans_workKeeps.foldl (fun s (e : Entry) => s.reviewParts true (cutOff e) e.handle)
    (fun s e => plans_workKeeps.reviewParts s true (cutOff e) e.handle) (s.calendar.filter test) s).2.nodup nodup
  have reviewed := first.keeps nodup' (plans_workKeeps.foldl (fun s (e : Entry) => s.reviewEntry e.handle)
    (fun s e => plans_workKeeps.reviewEntry s e.handle) (s.calendar.filter test) _)
  have whole := plans_workKeeps.review s true test cutOff
  intro x hx
  obtain ⟨e, he, fixed, planned⟩ := whole.2.2 nodup x hx
  by_cases tested : test e = true
  · refine reviewed x hx ?_
    rw [Entry.fixed_handle fixed]
    exact List.mem_map.mpr ⟨e, List.mem_filter.mpr ⟨he, tested⟩, rfl⟩
  · have now := planned (others e he (by simpa using tested))
    rw [← whole.1.plan] at now
    exact now

theorem KeepsPlans.plansCurrent (k : KeepsPlans s t) (nodup : s.handles.Nodup) (h : PlansCurrent s) :
    PlansCurrent t := by
  intro x hx
  obtain ⟨e, he, -, planned⟩ := k.2.2 nodup x hx
  have := planned (h e he)
  rw [← k.1.plan] at this
  exact this

end

/-! ### Figures recomputed (R115) -/

section
variable {s t : State}

/-- The figures of a group are those of a roster (R114). -/
def FiguredBy (r : Roster) (s : State) (g : Nat) : Prop :=
  (s.group g).figures = ⟨figuresOf r g .L1, figuresOf r g .L2, figuresOf r g .L3⟩

theorem FiguredBy.congr {r r' : Roster} {g : Nat} (h : FiguredBy r s g) (same : ∀ ph, figuresOf r' g ph = figuresOf r g ph) :
    FiguredBy r' s g := by
  unfold FiguredBy
  rw [same, same, same]
  exact h

theorem FiguredBy.of_figures {r : Roster} {g : Nat} (h : FiguredBy r s g)
    (same : ∀ ph, t.figures g ph = s.figures g ph) : FiguredBy r t g := by
  have l1 : (t.group g).figures.l1 = (s.group g).figures.l1 := same .L1
  have l2 : (t.group g).figures.l2 = (s.group g).figures.l2 := same .L2
  have l3 : (t.group g).figures.l3 = (s.group g).figures.l3 := same .L3
  have eta (v : Tri Figures) : v = ⟨v.l1, v.l2, v.l3⟩ := rfl
  unfold FiguredBy at h ⊢
  rw [eta (t.group g).figures, l1, l2, l3, ← eta]
  exact h

theorem State.group_modGroup_self {g : Nat} (inside : g < s.groups.length) (f : GroupRec → GroupRec) :
    (s.modGroup g f).group g = f (s.group g) := by
  simp [State.modGroup, State.group, inside]

theorem State.group_modGroup_ne {g k : Nat} (apart : k ≠ g) (f : GroupRec → GroupRec) :
    (s.modGroup g f).group k = s.group k := by
  simp only [State.modGroup, State.group, List.getD_eq_getElem?_getD, List.getElem?_set_ne (Ne.symm apart)]

theorem State.modGroup_length (g : Nat) (f : GroupRec → GroupRec) :
    (s.modGroup g f).groups.length = s.groups.length := List.length_set ..

/-- The fold that refigures some groups. -/
theorem State.foldl_refigure (gs : List Nat) (s : State) :
    (gs.foldl State.refigure s).roster = s.roster ∧ (gs.foldl State.refigure s).groups.length = s.groups.length ∧
      (∀ g ∉ gs, (gs.foldl State.refigure s).group g = s.group g) ∧
      ∀ g ∈ gs, g < s.groups.length → FiguredBy s.roster (gs.foldl State.refigure s) g := by
  induction gs generalizing s with
  | nil => exact ⟨rfl, rfl, fun _ _ => rfl, fun _ h => nomatch h⟩
  | cons g rest ih =>
      obtain ⟨roster, length, others, figured⟩ := ih (s.refigure g)
      have length' : (s.refigure g).groups.length = s.groups.length := State.modGroup_length g _
      refine ⟨roster, length.trans length', fun k hk => ?_, fun k hk inside => ?_⟩
      · rw [List.foldl_cons, others k fun h => hk (List.mem_cons_of_mem _ h)]
        exact State.group_modGroup_ne (g := g) (fun e => hk (e ▸ List.mem_cons_self)) _
      · by_cases later : k ∈ rest
        · exact figured k later (length' ▸ inside)
        · have here : k = g := (List.mem_cons.mp hk).resolve_right later
          subst here
          unfold FiguredBy
          rw [List.foldl_cons, others k later, State.refigure, State.group_modGroup_self inside]

/-- Figures recomputed for some groups, with the plans of their entries, are current wherever those of the other groups
were. -/
theorem State.recomputeGroups_current {gs : List Nat} (length : s.groups.length = 64)
    (others : ∀ g < 64, g ∉ 0 :: gs → FiguredBy s.roster s g) :
    (s.recomputeGroups gs).groups.length = 64 ∧ (s.recomputeGroups gs).handles.Sublist s.handles ∧
      (∀ g < 64, FiguredBy s.roster (s.recomputeGroups gs) g) ∧
      (s.handles.Nodup → (∀ e ∈ s.calendar, e.group ∉ 0 :: gs → e.Planned s.plan) →
        PlansCurrent (s.recomputeGroups gs)) := by
  obtain ⟨roster, same_length, apart, figured⟩ := s.foldl_refigure (0 :: gs)
  have cal := s.recomputeGroups_keeps gs
  have keeps := plans_workKeeps.recompute ((0 :: gs).foldl State.refigure s) (fun e => (0 :: gs).contains e.group)
  have groups : (s.recomputeGroups gs).groups = ((0 :: gs).foldl State.refigure s).groups := by
    unfold State.recomputeGroups
    rw [State.recompute_cal]
  have refigured (s : State) (g : Nat) : (s.refigure g).settings = s.settings ∧ (s.refigure g).fPlan = s.fPlan ∧
      (s.refigure g).calendar = s.calendar := ⟨rfl, rfl, rfl⟩
  have frame := foldl_frame (fun s t : State => t.settings = s.settings ∧ t.fPlan = s.fPlan ∧ t.calendar = s.calendar)
    (fun _ => ⟨rfl, rfl, rfl⟩) (fun h k => ⟨k.1.trans h.1, k.2.1.trans h.2.1, k.2.2.trans h.2.2⟩) State.refigure
    refigured (0 :: gs) s
  refine ⟨by rw [groups, same_length, length], ?_, fun g inside => ?_, fun nodup planned => ?_⟩
  · have sub := keeps.2.handles_sublist
    unfold State.handles at sub
    rw [frame.2.2] at sub
    exact sub
  · refine FiguredBy.of_figures (s := (0 :: gs).foldl State.refigure s) ?_ fun ph => keeps.1.1 g ph
    by_cases hit : g ∈ 0 :: gs
    · exact figured g hit (length ▸ inside)
    · unfold FiguredBy
      rw [apart g hit]
      exact others g inside hit
  · refine State.review_plansCurrent ?_ _ _ fun e he outside => ?_
    · unfold State.handles
      rw [frame.2.2]
      exact nodup
    · have outside : e.group ∉ 0 :: gs := by simpa using outside
      have plan : ∀ cls a ph, ((0 :: gs).foldl State.refigure s).plan e.group cls a ph = s.plan e.group cls a ph := by
        intro cls a ph
        have figures : ((0 :: gs).foldl State.refigure s).figures e.group ph = s.figures e.group ph := by
          unfold State.figures
          rw [apart e.group outside]
        obtain ⟨settings, fPlan, -⟩ := frame
        simp only [State.plan, figures, settings, fPlan]
      have was := planned e (frame.2.2 ▸ he) outside
      intro ph waits
      rw [plan]
      exact was ph waits

end

end Sys2Proof.Machine
end

section
/-! PROOFS. The figures and the waiting plans stay current under the events on the roster (R40, R41, R115). -/

namespace Sys2Proof.Machine

/-- The roster in its law, and the figures of every group those of the roster (R114). -/
def FiguresRight (s : State) : Prop :=
  RosterInLaw s ∧ s.groups.length = 64 ∧ ∀ g < 64, FiguredBy s.roster s g

/-- What every event does for the figures and the waiting plans. -/
def KeepsCurrent (s t : State) : Prop :=
  FiguresRight s → FiguresRight t ∧ (s.handles.Nodup → PlansCurrent s → t.handles.Nodup ∧ PlansCurrent t)

theorem KeepsCurrent.refl (s : State) : KeepsCurrent s s := fun h => ⟨h, fun n p => ⟨n, p⟩⟩

theorem KeepsCurrent.trans {s t u : State} (h : KeepsCurrent s t) (k : KeepsCurrent t u) : KeepsCurrent s u := by
  intro right
  obtain ⟨mid, plans⟩ := h right
  obtain ⟨last, plans'⟩ := k mid
  refine ⟨last, fun nodup current => ?_⟩
  obtain ⟨nodup', current'⟩ := plans nodup current
  exact plans' nodup' current'

/-- The channels' work leaves the number of groups. -/
theorem groupCount_workKeeps : WorkKeeps (fun s t => t.groups.length = s.groups.length) := by
  have free : FreeKeeps (fun s t => t.groups.length = s.groups.length) :=
    .of_frame (fun _ => rfl) (fun h k => k.trans h) fun s t h => by rw [h]
  refine WorkSteps.keeps (.of_aside free.toFreeEdits ?_ ?_ ?_ ?_ ?_ ?_) free
  · exact fun h => congrArg List.length (h .groups (by decide))
  · intro s h ph e _ _ _
    have groups := State.beginSending_groups s e
    exact (congrArg List.length groups).trans (State.modGroup_length _ _)
  all_goals intros; rfl

/-- An event that leaves the roster, the figures and their number, and the entries' plans. -/
theorem KeepsCurrent.of_plans {s t : State} (plans : KeepsPlans s t) (roster : t.roster = s.roster)
    (count : t.groups.length = s.groups.length) : KeepsCurrent s t := by
  rintro ⟨law, length, figured⟩
  refine ⟨⟨law.of_same roster plans.1.2.1, count.trans length, fun g inside => ?_⟩, fun nodup current =>
    ⟨plans.2.nodup nodup, plans.plansCurrent nodup current⟩⟩
  rw [roster]
  exact (figured g inside).of_figures (plans.1.1 g)

theorem KeepsCurrent.of_within {bs : List Block} {s t : State} (h : Within bs s t)
    (apart : Block.roster ∉ bs ∧ Block.groups ∉ bs ∧ Block.settings ∉ bs ∧ Block.fPlan ∉ bs ∧ Block.calendar ∉ bs) :
    KeepsCurrent s t :=
  .of_plans (KeepsEntries.of_within (fun _ _ => id) h apart.2) (h .roster apart.1)
    (congrArg List.length (h .groups apart.2.1))

theorem current_workKeeps : WorkKeeps KeepsCurrent :=
  ((plans_workKeeps.and roster_workKeeps).and groupCount_workKeeps).imp KeepsCurrent.refl KeepsCurrent.trans
    fun h => .of_plans h.1.1 h.1.2 h.2

/-! ### A change of the roster, and the figures recomputed for it -/

/-- The blocks an event on the roster changes before the figures are recomputed. -/
def rosterBlocks : List Block := [.ports, .roster, .levels, .discovery]

theorem FiguresRight.of_roster {s t : State} (h : FiguresRight s) (k : Within rosterBlocks s t) (law : RosterInLaw t)
    (same : ∀ g < 64, ∀ ph, figuresOf t.roster g ph = figuresOf s.roster g ph) : FiguresRight t := by
  have groups : t.groups = s.groups := k .groups (by decide)
  refine ⟨law, by rw [groups]; exact h.2.1, fun g inside => ?_⟩
  have was := (h.2.2 g inside).congr (same g inside)
  unfold FiguredBy State.group at was ⊢
  rw [groups]
  exact was

/-- A change of the roster that leaves the figures of every group. -/
theorem KeepsCurrent.of_roster {s t : State} (k : Within rosterBlocks s t) (law : RosterInLaw s → RosterInLaw t)
    (same : RosterInLaw s → ∀ g < 64, ∀ ph, figuresOf t.roster g ph = figuresOf s.roster g ph) : KeepsCurrent s t := by
  intro right
  have plans : KeepsPlans s t := ⟨.of_within k (by decide), .of_same (fun _ => id) (k .calendar (by decide))⟩
  exact ⟨right.of_roster k (law right.1) (same right.1), fun nodup current =>
    ⟨plans.2.nodup nodup, plans.plansCurrent nodup current⟩⟩

/-- A change of the roster that leaves the figures of every group but those recomputed. -/
theorem KeepsCurrent.of_recomputed {s t : State} {gs : List Nat} (k : Within rosterBlocks s t)
    (law : RosterInLaw s → RosterInLaw t)
    (same : RosterInLaw s → ∀ g < 64, g ∉ 0 :: gs → ∀ ph, figuresOf t.roster g ph = figuresOf s.roster g ph) :
    KeepsCurrent s (t.recomputeGroups gs) := by
  rintro ⟨before, length, figured⟩
  have groups : t.groups = s.groups := k .groups (by decide)
  have calendar : t.calendar = s.calendar := k .calendar (by decide)
  have plan : t.plan = s.plan := SameInputs.plan (.of_within k (by decide))
  have others : ∀ g < 64, g ∉ 0 :: gs → FiguredBy t.roster t g := by
    intro g inside outside
    have was := (figured g inside).congr (same before g inside outside)
    unfold FiguredBy State.group at was ⊢
    rw [groups]
    exact was
  obtain ⟨length', handles, figured', plans⟩ := t.recomputeGroups_current (gs := gs) (by rw [groups, length]) others
  have roster := t.recomputeGroups_same_roster gs
  refine ⟨⟨(law before).of_same roster ((State.recomputeGroups_roster t gs).within .settings (by decide)), length',
    fun g inside => roster ▸ figured' g inside⟩, fun nodup current => ⟨?_, ?_⟩⟩
  · refine List.Nodup.sublist handles ?_
    unfold State.handles
    rw [calendar]
    exact nodup
  · refine plans ?_ fun e he _ => ?_
    · unfold State.handles
      rw [calendar]
      exact nodup
    · rw [plan]
      exact current e (calendar ▸ he)

/-! ### One unit heard or silent (R88, R89) -/

section
variable {r : Roster} {i g : Nat} {u v : UnitRec}

theorem UnitRec.unmoved (h : u.figuresMoved v = false) : v.mode = u.mode ∧ v.reachable = u.reachable := by
  simp only [UnitRec.figuresMoved, Bool.or_eq_false_iff, bne_eq_false_iff_eq] at h
  exact ⟨h.1.symm, by simp only [UnitRec.reachable, bne, h.2]⟩

theorem mem_dependentGroups {x : Nat × UnitRec} (hx : x ∈ r) (named : i ∈ x.2.route) {k : Nat} (hk : k ∈ x.2.groups) :
    k ∈ dependentGroups r i :=
  List.mem_flatMap.mpr ⟨x, List.mem_filter.mpr ⟨hx, by simpa using named⟩, hk⟩

/-- Whoever is behind a unit in none of the groups that its change of mode concerns is in none of them itself. -/
theorem member_of_unitGroups {changed : Bool} (outside : g ∉ 0 :: unitGroups r i u changed) :
    u.member g = false ∧
      (changed = true → ∀ x ∈ r, i ∈ x.2.route → x.2.member g = false) := by
  obtain ⟨zero, outside⟩ := List.ne_and_not_mem_of_not_mem_cons outside
  obtain ⟨own, behind⟩ := not_or.mp (fun h => outside (List.mem_append.mpr h))
  refine ⟨(u.member_eq_false_iff g).mpr ⟨zero, own⟩, fun moved x hx named => ?_⟩
  rw [if_pos moved] at behind
  exact (x.2.member_eq_false_iff g).mpr ⟨zero, fun hg => behind (mem_dependentGroups hx named hg)⟩

theorem member_congr (groups : v.groups = u.groups) (g : Nat) : v.member g = u.member g := by
  rw [UnitRec.member, groups]
  rfl

/-- A unit that keeps its address, groups, phase and route moves the figures of the groups of R115 alone. -/
theorem figuresOf_set (h : rosterLawful r) (hu : unitAt r i = some u)
    (fixed : v.address = u.address ∧ v.phase = u.phase ∧ v.groups = u.groups ∧ v.relayCapable = u.relayCapable ∧
      v.route = u.route)
    (outside : u.figuresMoved v = false ∨ g ∉ 0 :: unitGroups r i u (u.mode != v.mode)) (ph : Phase) :
    figuresOf (setUnit i v r) g ph = figuresOf r g ph := by
  obtain ⟨-, phase, groups, -, route⟩ := fixed
  have written : setUnit i v r = written i v false r := rfl
  rw [written]
  obtain still | apart := outside
  · obtain ⟨mode, reachable⟩ := UnitRec.unmoved still
    exact figuresOf_written (moved := false) h hu (fun changed => absurd mode (changed.resolve_left Bool.false_ne_true))
      (.inr ⟨groups, phase, route, reachable, mode⟩) ph
  · obtain ⟨own, behind⟩ := member_of_unitGroups apart
    refine figuresOf_written (moved := false) h hu (fun changed x hx _ named => behind ?_ x hx named)
      (.inl ⟨own, (member_congr groups g).trans own⟩) ph
    simpa using Ne.symm (changed.resolve_left Bool.false_ne_true)

end

section
variable (s : State)

theorem State.noticeLost_within (before : Roster) (c : LostCause) : Within [.ports] s (s.noticeLost before c) :=
  (s.noticeLost_ports before c).within

theorem State.applySilence_current (i : Nat) (a : Address) : KeepsCurrent s (s.applySilence i a) := by
  unfold State.applySilence
  split
  · exact .refl s
  · split
    · rename_i u hu
      have fixed := u.silent_fixed s.settings.degradeLimit s.settings.lostLimit
      generalize u.silent s.settings.degradeLimit s.settings.lostLimit = v at fixed ⊢
      have noted : Within rosterBlocks s ((s.modUnit i (fun _ => v)).noticeLost s.roster .silence) :=
        (s.modUnit_within i _).then (State.noticeLost_within _ _ _) (by decide)
      have roster : ((s.modUnit i (fun _ => v)).noticeLost s.roster .silence).roster = setUnit i v s.roster := by
        rw [State.noticeLost_roster, State.modUnit_roster]
      have law (hs : RosterInLaw s) : RosterInLaw ((s.modUnit i (fun _ => v)).noticeLost s.roster .silence) := by
        unfold RosterInLaw State.rosterCapacity
        rw [roster, noted .settings (by decide)]
        exact hs.set hu fixed
      dsimp only
      split
      · refine .of_recomputed noted law fun hs g _ outside ph => ?_
        rw [roster]
        exact figuresOf_set hs.1 hu fixed (.inr outside) ph
      · rename_i still
        refine .of_roster noted law fun hs g _ ph => ?_
        rw [roster]
        exact figuresOf_set hs.1 hu fixed (.inl (by simpa using still)) ph
    · exact .refl s

theorem State.applyReply_current (ph : Phase) (x : Exchange) (r : ReplyReading) (uplink : Nat) (seed : Bool) :
    KeepsCurrent s (s.applyReply ph x r uplink seed) := by
  unfold State.applyReply
  split
  · exact .refl s
  · split
    · rename_i u hu
      have fixed := u.heard_takeSample_fixed seed (marginSample x.hops uplink r.downlink r.hopUp) s.heardSecond
      dsimp only
      generalize (u.takeSample seed (marginSample x.hops uplink r.downlink r.hopUp)).heard s.heardSecond = v
        at fixed ⊢
      generalize sampled : (if x.hops = 0 then (s.modUnit x.index (fun _ => v)).modLevel ph
          (fun l => l.sample (s.settings.levels.get ph) r.downlink) else s.modUnit x.index (fun _ => v)) = t
      have within : Within rosterBlocks s t := by
        rw [← sampled]
        split
        · exact (s.modUnit_within _ _).then (State.modLevel_within _ ph _) (by decide)
        · exact (s.modUnit_within _ _).mono (by decide)
      have roster : t.roster = setUnit x.index v s.roster := by
        rw [← sampled]
        split <;> exact s.modUnit_roster _ v
      have law (hs : RosterInLaw s) : RosterInLaw t := by
        unfold RosterInLaw State.rosterCapacity
        rw [roster, within .settings (by decide)]
        exact hs.set hu fixed
      split
      · refine .of_recomputed within law fun hs g _ outside ph => ?_
        rw [roster]
        exact figuresOf_set hs.1 hu fixed (.inr outside) ph
      · rename_i still
        refine .of_roster within law fun hs g _ ph => ?_
        rw [roster]
        exact figuresOf_set hs.1 hu fixed (.inl (by simpa using still)) ph
    · exact .refl s

end

/-! ### A unit written with its dependents (R103, R106, R125) -/

section
variable {r : Roster} {i g : Nat} {u v : UnitRec}

/-- A unit written moves the figures of its groups, old and new, of those of the units its dependents' routes change,
and, where its own mode changes, of those of the units behind it. -/
theorem figuresOf_written_outside (h : rosterLawful r) (hu : unitAt r i = some u) {moved : Bool} (zero : g ≠ 0)
    (own : g ∉ u.groups ∧ g ∉ v.groups)
    (cleared : g ∉ changedGroups (setUnit i v r) (written i v moved r))
    (behind : v.mode ≠ u.mode → ∀ x ∈ r, x.1 ≠ i → i ∈ x.2.route → x.2.member g = false) (ph : Phase) :
    figuresOf (written i v moved r) g ph = figuresOf r g ph := by
  refine figuresOf_written h hu (fun changed x hx apart named => ?_)
    (.inl ⟨(u.member_eq_false_iff g).mpr ⟨zero, own.1⟩, (v.member_eq_false_iff g).mpr ⟨zero, own.2⟩⟩) ph
  obtain rfl | mode := changed
  · exact member_eq_false_of_changed h.rising.setUnit (mem_setUnit_of_ne hx apart) apart named zero cleared
  · exact behind mode x hx apart named

end

theorem State.editUnit_current (s : State) {i : Nat} {u v : UnitRec} (hu : s.unit? i = some u)
    (address : v.address = u.address) (phase : v.phase = u.phase) (mode : v.mode = u.mode) (state : v.state = u.state)
    (law : RosterInLaw s → LawfulBelow s.rosterCapacity (s.editUnit i u v).roster) :
    KeepsCurrent s (s.editUnit i u v) := by
  intro right
  have hs := right.1
  revert right
  have roster := State.editUnit_roster hs.1 i u v
  have written_law : LawfulBelow s.rosterCapacity (written i v (u.withdrawn v) s.roster) := roster ▸ law hs
  have seen : (if u.withdrawn v then (s.modUnit i (fun _ => v)).withdrawRelay i
      else s.modUnit i (fun _ => v)).roster = written i v (u.withdrawn v) s.roster := by
    rw [← hs.1.written_eq, ← State.modUnit_roster]
    cases u.withdrawn v
    · rfl
    · exact State.withdrawRelay_same_roster _ i
  have within : Within rosterBlocks s (if u.withdrawn v then (s.modUnit i (fun _ => v)).withdrawRelay i
      else s.modUnit i (fun _ => v)) := by
    split
    · exact (s.modUnit_within i _).then (State.withdrawRelay_within _ i) (by decide)
    · exact (s.modUnit_within i _).mono (by decide)
  unfold State.editUnit
  dsimp only
  rw [State.modUnit_roster]
  generalize (if u.withdrawn v = true then (s.modUnit i (fun _ => v)).withdrawRelay i
      else s.modUnit i (fun _ => v)) = t at seen within ⊢
  have lawful (_ : RosterInLaw s) : RosterInLaw t := by
    unfold RosterInLaw State.rosterCapacity
    rw [seen, within .settings (by decide)]
    exact written_law
  rw [seen]
  split
  · rename_i same
    obtain ⟨route, groups, unchanged⟩ := same
    refine KeepsCurrent.of_roster within lawful fun hs g _ ph => ?_
    rw [seen]
    refine figuresOf_written hs.1 hu (fun changed x hx apart named => ?_)
      (.inr ⟨groups.symm, phase, route.symm, by rw [UnitRec.reachable, state]; rfl, mode⟩) ph
    obtain moved | moded := changed
    · have hit := clearDependents_changed hs.1.rising.setUnit (mem_setUnit_of_ne (v := v) hx apart) apart named
      rw [moved] at unchanged
      have none_changed : changedUnits (setUnit i v s.roster) (clearDependents i [i] (setUnit i v s.roster)) = [] :=
        unchanged
      rw [none_changed] at hit
      cases hit
    · exact absurd mode moded
  · refine KeepsCurrent.trans (.of_recomputed within lawful fun hs g _ outside ph => ?_)
      (current_workKeeps.retireSince _ s)
    rw [seen]
    obtain ⟨zero, outside⟩ := List.ne_and_not_mem_of_not_mem_cons outside
    simp only [List.mem_append, not_or] at outside
    exact figuresOf_written_outside hs.1 hu zero outside.1 outside.2 (fun moded => absurd mode moded) ph

theorem State.updateFound_current (s : State) {i : Nat} {u : UnitRec} (hu : unitAt s.roster i = some u) (ph : Phase)
    (p : ProbeInFlight) (r : ProbeReplyReading) (uplink ago : Nat) :
    KeepsCurrent s (s.updateFound ph p r uplink ago i u) := by
  intro right
  have hs := right.1
  revert right
  have law := s.updateFound_inLaw hs hu ph p r uplink ago
  obtain ⟨v, is, roster⟩ := State.updateFound_roster hs.1 ph p r uplink ago i u
  rw [roster] at law
  obtain ⟨address, groups, capable, -⟩ := u.refound_fixed s.roster i ph p.route
    (marginSample p.route.length uplink r.downlink r.hopUp) (s.replySecond ago)
  rw [← is] at address groups capable
  unfold State.updateFound
  dsimp only
  rw [← is, State.modUnit_roster]
  have after : (if (u.route != v.route || u.phase != v.phase) = true then invalidateFrom i (setUnit i v s.roster)
      else setUnit i v s.roster) = written i v (u.movedTo v) s.roster := hs.1.written_eq _
  rw [after]
  have within : Within rosterBlocks s
      ((State.noticeLost { s with roster := written i v (u.movedTo v) s.roster } s.roster .route).register ph i
        u.address) :=
    ((s.roster_within _).then (ds := [.ports, .roster]) (State.noticeLost_within _ _ _) (by decide)).then
      (State.register_within _ ph _ _) (by decide)
  have seen : ((State.noticeLost { s with roster := written i v (u.movedTo v) s.roster } s.roster .route).register ph i
      u.address).roster = written i v (u.movedTo v) s.roster := by
    rw [State.register_roster, State.noticeLost_roster]
  generalize (State.noticeLost { s with roster := written i v (u.movedTo v) s.roster } s.roster .route).register ph i
      u.address = t at seen within ⊢
  have lawful (_ : RosterInLaw s) : RosterInLaw t := by
    unfold RosterInLaw State.rosterCapacity
    rw [seen, within .settings (by decide)]
    exact law
  split
  · refine KeepsCurrent.of_recomputed within lawful fun hs g _ outside ph => ?_
    rw [seen]
    obtain ⟨zero, outside⟩ := List.ne_and_not_mem_of_not_mem_cons outside
    obtain ⟨unit, cleared⟩ := not_or.mp fun h => outside (List.mem_append.mpr h)
    obtain ⟨own, behind⟩ := member_of_unitGroups (g := g) (fun h => (List.mem_cons.mp h).elim zero unit)
    have own := ((u.member_eq_false_iff g).mp own).2
    refine figuresOf_written_outside hs.1 hu zero ⟨own, groups ▸ own⟩ cleared (fun moded x hx _ named => ?_) ph
    exact behind (by simpa using Ne.symm moded) x hx named
  · rename_i still
    obtain ⟨unmoved, unfigured⟩ := (Bool.or_eq_false_iff).mp (Bool.not_eq_true _ |>.mp still)
    refine KeepsCurrent.of_roster within lawful fun hs g _ ph => ?_
    rw [seen]
    obtain ⟨mode, reachable⟩ := UnitRec.unmoved unfigured
    have stays : u.movedTo v = false := unmoved
    simp only [Bool.or_eq_false_iff, bne_eq_false_iff_eq] at unmoved
    refine figuresOf_written hs.1 hu (fun changed => ?_)
      (.inr ⟨groups, unmoved.2.symm, unmoved.1.symm, reachable, mode⟩) ph
    obtain moved | moded := changed
    · rw [stays] at moved
      cases moved
    · exact absurd mode moded

/-! ### A unit recorded or retired (R105, R107, R124) -/

theorem State.recomputed_put_current (s t : State) {i : Nat} {u : UnitRec} (within : Within rosterBlocks s t)
    (roster : t.roster = putUnit i u s.roster) (free : lowestFree s.rosterCapacity s.roster = some i)
    (law : RosterInLaw s → LawfulBelow s.rosterCapacity (putUnit i u s.roster)) :
    KeepsCurrent s (t.recomputeGroups u.groups) := by
  refine .of_recomputed within (fun hs => ?_) fun hs g _ outside ph => ?_
  · unfold RosterInLaw State.rosterCapacity
    rw [roster, within .settings (by decide)]
    exact law hs
  · rw [roster]
    obtain ⟨zero, outside⟩ := List.ne_and_not_mem_of_not_mem_cons outside
    exact figuresOf_put hs.1 (lowestFree_free hs.1.rising free).1 ((u.member_eq_false_iff g).mpr ⟨zero, outside⟩) ph

theorem State.record_current (s : State) {i : Nat} {u : UnitRec} (free : lowestFree s.rosterCapacity s.roster = some i)
    (law : RosterInLaw s → LawfulBelow s.rosterCapacity (putUnit i u s.roster)) : KeepsCurrent s (s.record i u) :=
  (State.recomputed_put_current s { s with roster := putUnit i u s.roster } ((s.roster_within _).mono (by decide)) rfl free
    law).trans (current_workKeeps.retireSince _ s)

theorem State.recordFound_current (s : State) (ph : Phase) (p : ProbeInFlight) (r : ProbeReplyReading) (uplink ago : Nat)
    (fresh : ∀ x ∈ s.roster, x.2.address ≠ r.address) (valid : r.address ≠ 0 ∧ r.address ≠ 0xFFFFFFFF) :
    KeepsCurrent s (s.recordFound ph p r uplink ago) := by
  intro right
  have hs := right.1
  revert right
  have law := s.recordFound_inLaw hs ph p r uplink ago fresh valid
  obtain ⟨full, -⟩ | ⟨i, free, put⟩ := s.recordFound_same_or_put ph p r uplink ago
  · have none_free : s.recordFound ph p r uplink ago = s.post (.rosterFull ph r.address) := by
      unfold State.recordFound
      rw [full]
    rw [none_free]
    exact KeepsCurrent.of_within (s.post_fault _).within (by decide)
  · rw [put] at law
    unfold State.recordFound
    rw [free]
    dsimp only
    refine State.recomputed_put_current s _ ?_ ?_ free fun _ => law
    · exact ((s.roster_within _).then (ds := [.roster, .discovery]) (State.register_within _ ph _ _) (by decide)).then
        (State.offerBoth_ports _ _).within (by decide)
    · rw [State.offerBoth_roster, State.register_roster]

theorem State.retireUnit_current (s : State) {i : Nat} {u : UnitRec} (hu : s.unit? i = some u) :
    KeepsCurrent s (s.retireUnit i u) := by
  intro right
  have hs := right.1
  revert right
  unfold State.retireUnit
  dsimp only
  have roster : (State.withdrawRelay { s with roster := withoutUnit i s.roster } i).roster =
      clearDependents i [i] (withoutUnit i s.roster) :=
    (State.withdrawRelay_same_roster _ i).trans hs.1.without_eq
  have within : Within rosterBlocks s (State.withdrawRelay { s with roster := withoutUnit i s.roster } i) :=
    (s.roster_within _).then (State.withdrawRelay_within _ i) (by decide)
  refine KeepsCurrent.trans (.of_recomputed within (fun hs => ?_) fun hs g _ outside ph => ?_)
    (current_workKeeps.retireSince _ s)
  · unfold RosterInLaw State.rosterCapacity
    rw [roster, within .settings (by decide)]
    exact hs.without
  · rw [roster]
    have outside : g ∉ 0 :: (u.groups ++
        changedGroups (withoutUnit i s.roster) (clearDependents i [i] (withoutUnit i s.roster))) := roster ▸ outside
    obtain ⟨zero, outside⟩ := List.ne_and_not_mem_of_not_mem_cons outside
    obtain ⟨own, cleared⟩ := not_or.mp fun h => outside (List.mem_append.mpr h)
    refine figuresOf_without hs.1 hu ((u.member_eq_false_iff g).mpr ⟨zero, own⟩) (fun x hx apart named => ?_) ph
    exact member_eq_false_of_changed (hs.1.rising.filter _) (mem_withoutUnit.mpr ⟨hx, apart⟩) apart named zero cleared

/-! ### The channels' events -/

theorem State.applyWindow_current (s : State) (ph : Phase) (p : ProbeInFlight) (window : Nat) {w : WindowResult}
    (valid : ∀ r uplink ago, w = .good r uplink ago → r.address ≠ 0 ∧ r.address ≠ 0xFFFFFFFF) :
    KeepsCurrent s (s.applyWindow ph p window w) := by
  intro right
  have hs := right.1
  revert right
  cases w with
  | collision => exact KeepsCurrent.of_within (s.modDisc_within ph _) (by decide)
  | empty => exact KeepsCurrent.refl s
  | good r uplink ago =>
      unfold State.applyWindow
      dsimp only
      split
      · rename_i x known
        exact s.updateFound_current (hs.1.rising.unitAt_iff.mpr (State.indexOf?_mem known).1) ph p r uplink ago
      · rename_i unknown
        exact s.recordFound_current ph p r uplink ago (State.indexOf?_eq_none_iff.mp unknown) (valid r uplink ago rfl)

theorem State.endExchange_current (s : State) (ph : Phase) (x : Exchange) (reply : Option (ReplyReading × Nat)) :
    KeepsCurrent s (s.endExchange ph x reply) :=
  current_workKeeps.endExchange (fun r uplink seed => s.applyReply_current ph x r uplink seed)
    (s.applySilence_current _ _) reply

theorem State.endWindow_current (s : State) (ph : Phase) (r : ProbeRun) (p : ProbeInFlight) (heard : List WindowFrame) :
    KeepsCurrent s (s.endWindow ph r p heard) := by
  have applied := s.applyWindow_current ph p r.next
    (w := readWindow s.identity.code p.filter r.next r.window heard)
    fun q uplink ago e => goodReply_valid (goodReply_of_readWindow e)
  unfold State.endWindow
  dsimp only
  split
  · exact applied.trans (current_workKeeps.endProbe (fun s ph => .of_within (s.modDisc_within ph _) (by decide))
      (fun s ph => .of_within (s.advanceOrigin_within ph) (by decide)) _ ph)
  · exact applied.trans (.of_within (State.modChan_within _ ph _) (by decide))

end Sys2Proof.Machine
end

section
/-! PROOFS. The handle that R2 assigns, admission to the calendar, and the figures and the waiting plans at every step
(R14, R40 to R42, R114, R115). -/

namespace Sys2Proof.Machine

/-! ### The next handle (R2) -/

theorem handleAfter_eq (h : Nat) (inside : 1 ≤ h ∧ h ≤ 65535) : handleAfter h = h % 65535 + 1 := by
  unfold handleAfter
  split
  · rw [Nat.mod_eq_of_lt (by omega)]
  · rw [show h = 65535 by omega]

theorem handleAfter_pos (h : Nat) : 1 ≤ handleAfter h ∧ handleAfter h ≤ 65535 := by
  unfold handleAfter
  split <;> omega

/-- The handles after one, in turn, go round all but 0. -/
theorem handleAfter_iterate (h k : Nat) (inside : 1 ≤ h ∧ h ≤ 65535) :
    handleAfter^[k] h = (h - 1 + k) % 65535 + 1 := by
  induction k with
  | zero =>
      rw [Function.iterate_zero_apply, Nat.add_zero, Nat.mod_eq_of_lt (by omega)]
      omega
  | succ k ih =>
      rw [Function.iterate_succ_apply', ih, handleAfter_eq _ (by omega)]
      omega

theorem nextHandle_mem (used : List Nat) (n h : Nat) (taken : nextHandle used n h ∈ used) :
    ∀ k ≤ n, handleAfter^[k] (handleAfter h) ∈ used := by
  induction n generalizing h with
  | zero =>
      intro k hk
      rw [Nat.le_zero.mp hk]
      exact taken
  | succ n ih =>
      intro k hk
      unfold nextHandle at taken
      split at taken
      · rename_i first
        cases k with
        | zero => simpa using first
        | succ k => exact ih (handleAfter h) taken k (by omega)
      · rename_i free
        exact absurd taken (by simpa using free)

/-- The handle assigned is not in use, while fewer are in use than there are (R2). -/
theorem nextHandle_fresh (used : List Nat) (few : used.length < 65535) (h : Nat) :
    nextHandle used used.length h ∉ used := by
  intro taken
  have all := nextHandle_mem used used.length h taken
  have distinct : ((List.range (used.length + 1)).map (fun k => handleAfter^[k] (handleAfter h))).Nodup := by
    refine List.Nodup.map_on (fun a ha b hb same => ?_) List.nodup_range
    rw [List.mem_range] at ha hb
    have inside := handleAfter_pos h
    rw [handleAfter_iterate _ _ inside, handleAfter_iterate _ _ inside] at same
    omega
  have more := (distinct.subperm fun x hx => by
    obtain ⟨k, hk, rfl⟩ := List.mem_map.mp hx
    exact all k (Nat.lt_succ_iff.mp (List.mem_range.mp hk))).length_le
  rw [List.length_map, List.length_range] at more
  omega

theorem nextHandle_pos (used : List Nat) (n h : Nat) :
    1 ≤ nextHandle used n h ∧ nextHandle used n h ≤ 65535 := by
  induction n generalizing h with
  | zero => exact handleAfter_pos h
  | succ n ih =>
      unfold nextHandle
      split
      · exact ih _
      · exact handleAfter_pos h

theorem calendarCapacity_le (layout : Nat) : Config.calendarCapacity layout ≤ 192 := by
  unfold Config.calendarCapacity
  split <;> decide

theorem State.assignHandle_fresh {s : State} (room : s.calendar.length < s.calendarCapacity) :
    s.assignHandle ∉ s.handles := by
  have few : s.handles.length < 65535 := by
    have capacity : s.calendarCapacity ≤ 192 := calendarCapacity_le _
    rw [List.length_map]
    omega
  have fresh := nextHandle_fresh s.handles few s.lastHandle
  rw [List.length_map] at fresh
  exact fresh

/-! ### Admission (R1, R11) -/

/-- An entry joins among the others without a change of them, or of their order. -/
theorem insertEntry_split (e : Entry) (l : List Entry) :
    ∃ before after, l = before ++ after ∧ insertEntry e l = before ++ e :: after ∧
      (∀ x ∈ before, x.activation ≤ e.activation) ∧ ∀ x, after.head? = some x → e.activation < x.activation := by
  induction l with
  | nil => exact ⟨[], [], rfl, rfl, by simp, by simp⟩
  | cons x rest ih =>
      unfold insertEntry
      split
      · rename_i early
        obtain ⟨before, after, split, joined, low, high⟩ := ih
        refine ⟨x :: before, after, by rw [split]; rfl, by rw [joined]; rfl, fun y hy => ?_, high⟩
        obtain rfl | hy := List.mem_cons.mp hy
        · exact early
        · exact low y hy
      · rename_i late
        exact ⟨[], x :: rest, rfl, rfl, by simp, fun y hy => by cases hy; exact Nat.not_le.mp late⟩

theorem insertEntry_perm (e : Entry) (l : List Entry) : (insertEntry e l).Perm (e :: l) := by
  obtain ⟨before, after, rfl, joined, -, -⟩ := insertEntry_split e l
  rw [joined]
  exact List.perm_middle

theorem mem_insertEntry {e x : Entry} {l : List Entry} : x ∈ insertEntry e l ↔ x = e ∨ x ∈ l := by
  rw [(insertEntry_perm e l).mem_iff, List.mem_cons]

/-- The state once an entry has joined the calendar and its command been answered (R11). -/
def State.joined (s : State) (p : Port) (tag : Byte) (e : Entry) : State :=
  State.reply { s with calendar := insertEntry e s.calendar, lastHandle := e.handle } p 0x01 tag .ok
    (be 2 e.handle ++ be 6 e.firstLs ++ [flagByte e.lateAdmission])

theorem State.admitted_eq (s : State) (p : Port) (tag : Byte) (a : SubmitArgs) (x : Action) (c : EntryClass) :
    s.admitted p tag a x c =
      (((s.joined p tag (s.admittedEntry p tag a x c)).rereadParts (s.admittedEntry p tag a x c).handle).settleEntry
        (s.admittedEntry p tag a x c).handle).retireSince s := rfl

theorem State.admittedEntry_planned (s : State) (p : Port) (tag : Byte) (a : SubmitArgs) (x : Action) (c : EntryClass) :
    (s.admittedEntry p tag a x c).Planned s.plan := by
  intro ph _
  cases ph <;> rfl

theorem State.joined_nodup {s : State} {p : Port} {tag : Byte} {e : Entry} (nodup : s.handles.Nodup)
    (fresh : e.handle ∉ s.handles) : (s.joined p tag e).handles.Nodup := by
  have perm : (s.joined p tag e).handles.Perm (e.handle :: s.handles) := (insertEntry_perm e s.calendar).map _
  exact perm.nodup_iff.mpr (List.nodup_cons.mpr ⟨fresh, nodup⟩)

theorem State.room_of_submitRefusal {s : State} {p : Port} {a : SubmitArgs} (h : s.submitRefusal p a = none) :
    s.calendar.length < s.calendarCapacity ∧ s.liveCount p < s.settings.quota.get p ∧ s.conflicts a = false := by
  unfold State.submitRefusal at h
  split_ifs at h with _ _ _ _ conflict quota full
  exact ⟨Nat.not_le.mp full, Nat.not_le.mp quota, by simpa using conflict⟩

/-! ### Settings, clock and planning frequency -/

/-- The figures stay right where neither they nor the roster change, nor the capacity. -/
theorem FiguresRight.of_same {s t : State} (roster : t.roster = s.roster) (groups : ∀ g, (t.group g).figures = (s.group g).figures)
    (count : t.groups.length = s.groups.length) (capacity : t.rosterCapacity = s.rosterCapacity) (h : FiguresRight s) :
    FiguresRight t := by
  obtain ⟨law, length, figured⟩ := h
  refine ⟨?_, count.trans length, fun g inside => ?_⟩
  · unfold RosterInLaw
    rw [roster, capacity]
    exact law
  · unfold FiguredBy
    rw [groups, roster]
    exact figured g inside

/-- Settings that leave the capacity and every plan. -/
theorem KeepsCurrent.of_settings {s t : State} (roster : t.roster = s.roster) (groups : t.groups = s.groups)
    (calendar : t.calendar = s.calendar) (capacity : t.rosterCapacity = s.rosterCapacity) (plan : t.plan = s.plan) :
    KeepsCurrent s t := by
  intro right
  refine ⟨right.of_same roster (fun g => by rw [State.group, groups]; rfl) (by rw [groups]) capacity,
    fun nodup current => ⟨?_, fun e he => ?_⟩⟩
  · unfold State.handles
    rw [calendar]
    exact nodup
  · have was := current e (calendar ▸ he)
    rw [plan]
    exact was

/-- Every plan is remade, whatever inputs of the plans have changed before (R42). -/
theorem KeepsCurrent.of_review {s t : State} (roster : t.roster = s.roster) (groups : t.groups = s.groups)
    (calendar : t.calendar = s.calendar) (capacity : t.rosterCapacity = s.rosterCapacity) (cutOff : Entry → Bool) :
    KeepsCurrent s (t.review true (fun _ => true) cutOff) := by
  intro right
  have before : FiguresRight t :=
    right.of_same roster (fun g => by rw [State.group, groups]; rfl) (by rw [groups]) capacity
  obtain ⟨after, -⟩ := current_workKeeps.review t true (fun _ => true) cutOff before
  refine ⟨after, fun nodup _ => ?_⟩
  have nodup : t.handles.Nodup := by
    unfold State.handles
    rw [calendar]
    exact nodup
  exact ⟨(plans_workKeeps.review t true (fun _ => true) cutOff).2.nodup nodup,
    State.review_plansCurrent nodup _ cutOff fun _ _ tested => nomatch tested⟩

theorem KeepsCurrent.of_recomputeAll {s t : State} (roster : t.roster = s.roster) (groups : t.groups = s.groups)
    (calendar : t.calendar = s.calendar) (capacity : t.rosterCapacity = s.rosterCapacity) :
    KeepsCurrent s t.recomputeAll := .of_review roster groups calendar capacity _

/-- Parameters that no plan reads leave every plan; the others have every plan remade (R42). -/
theorem State.parameterEffects_current (s : State) (q : Parameter) (w : Nat) :
    KeepsCurrent s (State.parameterEffects { s with settings := q.store s.settings w } q) := by
  cases q with
  | routineRepeats | urgentRepeats | guardMs | leadS | gap =>
      exact KeepsCurrent.of_recomputeAll (s := s) (t := { s with settings := Parameter.store _ s.settings w }) rfl rfl rfl rfl
  | levelMin | levelMax | target | tolerance | pollRetries | degradeLimit | lostLimit | probePeriod | nominal =>
      exact .of_settings rfl rfl rfl rfl rfl

theorem State.dropField_plans (s : State) (leaves : Nat → Bool) : KeepsPlans s (s.dropField leaves) := by
  have figures (g : Nat) : ((s.dropField leaves).group g).figures = (s.group g).figures := by
    simp only [State.dropField, State.group, List.getD_eq_getElem?_getD, List.getElem?_map]
    cases s.groups[g]? <;> rfl
  refine ⟨⟨fun g ph => ?_, rfl, rfl⟩, .of_same (fun _ => id) rfl⟩
  rw [State.figures, figures]
  rfl

theorem State.dropField_current (s : State) (leaves : Nat → Bool) : KeepsCurrent s (s.dropField leaves) :=
  .of_plans (s.dropField_plans leaves) rfl (List.length_map _)

theorem State.crossSecond_current (s : State) (second : Nat) : KeepsCurrent s (s.crossSecond second) := by
  have judged : Within [.excursion, .faults, .ports] { s with fPlan := s.refreshedPlanFrequency }
      (State.judgeExcursion { s with fPlan := s.refreshedPlanFrequency }) := by
    refine (State.judgeExcursion_within _).mono ?_
    decide
  unfold State.crossSecond
  dsimp only
  refine KeepsCurrent.trans ?_ (current_workKeeps.retireSince _ s)
  refine KeepsCurrent.trans ?_ (State.dropField_current _ _)
  have roster := judged .roster (by decide)
  have groups := judged .groups (by decide)
  have calendar := judged .calendar (by decide)
  have settings := judged .settings (by decide)
  refine KeepsCurrent.of_review (s := s) roster groups calendar ?_ _
  unfold State.rosterCapacity
  rw [settings]

theorem State.stepClock_current (s : State) (second : Nat) : KeepsCurrent s (s.stepClock second) := by
  unfold State.stepClock
  dsimp only
  refine KeepsCurrent.trans ?_ (current_workKeeps.retireSince _ s)
  refine KeepsCurrent.trans ?_ (State.dropField_current _ _)
  refine KeepsCurrent.trans ?_ (current_workKeeps.review _ false _ _)
  refine .of_plans ⟨.of_same rfl rfl rfl, ⟨?_, fun _ x hx => ?_⟩⟩ rfl rfl
  · rw [List.map_map]
    exact List.Sublist.refl _
  · obtain ⟨e, he, rfl⟩ := List.mem_map.mp hx
    exact ⟨e, he, rfl, fun planned => planned.of_parts rfl rfl⟩

/-! ### Start-up (R115, R185) -/

theorem State.startUp_figuresRight {s : State} (h : s.store.rosterLawful) (a b : Bool) (f : FaultRec) :
    FiguresRight (s.startUp a b f) ∧ (s.startUp a b f).calendar = [] := by
  have loaded (t : State) : t.loadSettings.groups = t.groups ∧ t.loadSettings.calendar = t.calendar := by
    unfold State.loadSettings
    split
    · exact ⟨rfl, rfl⟩
    · rw [State.post_fault]
      exact ⟨rfl, rfl⟩
  have roster (t : State) (length : t.groups.length = 64) :
      t.loadRoster.groups.length = 64 ∧ t.loadRoster.calendar = t.calendar := by
    unfold State.loadRoster
    split
    · dsimp only
      have fresh (counters : List Byte) : (groupsFrom counters).length = 64 := by
        rw [groupsFrom, List.length_map, List.length_range]
      split
      · rw [State.post_fault]
        exact ⟨fresh _, rfl⟩
      · exact ⟨fresh _, rfl⟩
    · rw [State.post_fault]
      exact ⟨length, rfl⟩
  have calendar (t : State) : t.figureAll.calendar = t.calendar :=
    foldl_frame (fun s t => t.calendar = s.calendar) (fun _ => rfl) (fun h k => k.trans h) State.refigure
      (fun _ _ => rfl) _ t
  have applied (t : State) : t.applySettings.groups = t.groups ∧ t.applySettings.roster = t.roster ∧
      t.applySettings.calendar = t.calendar := ⟨rfl, rfl, rfl⟩
  have figured (t : State) (length : t.groups.length = 64) : t.figureAll.groups.length = 64 ∧
      ∀ g < 64, FiguredBy t.figureAll.roster t.figureAll g := by
    obtain ⟨same, count, -, figured⟩ := State.foldl_refigure (List.range 64) t
    unfold State.figureAll
    rw [same]
    exact ⟨count.trans length, fun g inside => figured g (List.mem_range.mpr inside) (length.symm ▸ inside)⟩
  have start := loaded (s.starting (s.store.atStart a b) f)
  have load := roster (s.starting (s.store.atStart a b) f).loadSettings (by
    rw [start.1]
    rfl)
  have figure := figured _ load.1
  have law : RosterInLaw (s.startUp a b f) := (State.startUp_lawful h a b f).inLaw
  have empty : (s.starting (s.store.atStart a b) f).calendar = [] := rfl
  unfold State.startUp at law ⊢
  rw [(applied _).2.2, calendar, load.2, start.2, empty]
  refine ⟨⟨law, ?_, fun g inside => ?_⟩, rfl⟩
  · rw [(applied _).1]
    exact figure.1
  · have here := figure.2 g inside
    unfold FiguredBy State.group at here ⊢
    rw [(applied _).1, (applied _).2.1]
    exact here

/-! ### Every command -/

theorem KeepsCurrent.of_taken {s t : State} {p : Port} {i : Instr} {f : State → State}
    (run : whenTaken s p i f = .next t) (h : ∀ u, KeepsCurrent u (f u)) : KeepsCurrent s t := by
  obtain ⟨-, rfl⟩ | ⟨-, rfl⟩ := whenTaken_cases run
  · exact KeepsCurrent.trans (.of_settings (t := s.popFrame p) rfl rfl rfl rfl rfl) (h _)
  · exact .refl _

theorem State.reply_current (s : State) (p : Port) (code tag : Byte) (o : ReplyCode) (c : List Byte) :
    KeepsCurrent s (s.reply p code tag o c) := .of_settings rfl rfl rfl rfl rfl

theorem State.admitted_current (s : State) {p : Port} {tag : Byte} {a : SubmitArgs} (x : Action) (c : EntryClass)
    (room : s.calendar.length < s.calendarCapacity) : KeepsCurrent s (s.admitted p tag a x c) := by
  rw [State.admitted_eq]
  refine KeepsCurrent.trans ?_ (current_workKeeps.retireSince _ s)
  refine KeepsCurrent.trans ?_ (current_workKeeps.settleEntry _ _)
  refine KeepsCurrent.trans ?_ (current_workKeeps.rereadParts _ _)
  intro right
  refine ⟨right.of_same rfl (fun _ => rfl) rfl rfl, fun nodup current =>
    ⟨State.joined_nodup nodup (State.assignHandle_fresh room), fun e he => ?_⟩⟩
  obtain rfl | he := mem_insertEntry.mp he
  · exact s.admittedEntry_planned p tag a x c
  · exact current e he

theorem State.removeEntries_current (s t : State) (p : Port) (calendar : t.calendar = s.calendar.filter (fun e => e.origin != p))
    (roster : t.roster = s.roster) (groups : t.groups = s.groups) (settings : t.settings = s.settings)
    (fPlan : t.fPlan = s.fPlan) : KeepsCurrent s t :=
  .of_plans ⟨.of_same groups settings fPlan, .filter (fun _ => id) calendar⟩ roster (by rw [groups])

theorem State.queueHeld_current (s : State) (p : Port) (o : HeldOwner) : KeepsCurrent s (s.queueHeld p o) := by
  unfold State.queueHeld
  split
  · cases o with
    | outcome h =>
        exact .of_plans ⟨.of_same rfl rfl rfl, .filter (p := fun e => e.handle != h) (fun _ => id) rfl⟩ rfl rfl
    | ping | storeDone | survey => exact .of_settings rfl rfl rfl rfl rfl
  · exact .refl s

/-- Every command that touches the roster, the groups, the settings, the calendar or the planning frequency keeps the
figures and the waiting plans current. -/
theorem exec_current {c : Instr} {s t : State} (plain : serves c = false)
    (touched : (touches c).any [Block.roster, .groups, .settings, .calendar, .fPlan].contains = true)
    (stored : s.store.rosterLawful) (run : exec c s = .next t) : KeepsCurrent s t := by
  have started (a b : Bool) (f : FaultRec) : KeepsCurrent s (s.startUp a b f) := fun _ => by
    obtain ⟨right, empty⟩ := State.startUp_figuresRight stored a b f
    refine ⟨right, fun _ _ => ⟨?_, ?_⟩⟩
    · unfold State.handles
      rw [empty]
      exact List.nodup_nil
    · intro e he
      rw [empty] at he
      exact absurd he List.not_mem_nil
  have retired {u : State} (h : KeepsCurrent s u) : KeepsCurrent s (u.retireSince s) :=
    h.trans (current_workKeeps.retireSince u s)
  have record (s : State) (ph : Phase) (r : PhaseRec) : KeepsCurrent s (s.setPhaseRec ph r) :=
    .of_within (s.setPhaseRec_within ph r) (by decide)
  have returned (s : State) (ph : Phase) : KeepsCurrent s (s.returnPhase ph) :=
    .of_within (s.returnPhase_within ph) (by decide)
  cases c with
  | powerOn a b => cases run; exact started a b _
  | pinReset a b => cases run; exact started a b _
  | commandTransfer | fetchTransfer => cases plain
  | submit p tag a =>
      refine .of_taken run fun u => ?_
      split
      · exact u.reply_current _ _ _ _ _
      · rename_i none_fails _
        exact u.admitted_current _ _ (State.room_of_submitRefusal none_fails).1
      · exact u.reply_current _ _ _ _ _
  | cancel p tag h =>
      refine .of_taken run fun u => ?_
      split
      · exact u.reply_current _ _ _ _ _
      · dsimp only
        split
        · exact u.reply_current _ _ _ _ _
        · exact (u.reply_current _ _ _ _ _).trans (current_workKeeps.cancelEntry _ _)
  | applyProfile p tag q =>
      refine .of_taken run fun u => ?_
      split
      · exact u.reply_current _ _ _ _ _
      · split
        · rename_i q _
          refine KeepsCurrent.trans ?_ (current_workKeeps.retireSince _ u)
          exact KeepsCurrent.of_recomputeAll rfl rfl rfl (congrArg Config.rosterCapacity (by cases q <;> rfl))
        · exact u.reply_current _ _ _ _ _
  | setParameter p tag a =>
      refine .of_taken run fun u => ?_
      split
      · exact u.reply_current _ _ _ _ _
      · split
        · rename_i q _
          refine KeepsCurrent.trans ?_ (current_workKeeps.retireSince _ u)
          exact (u.reply_current _ _ _ _ _).trans (State.parameterEffects_current _ q _)
        · exact u.reply_current _ _ _ _ _
  | setGroupPermit p tag g q =>
      refine .of_taken run fun u => ?_
      split
      · exact u.reply_current _ _ _ _ _
      · split
        · split
          · exact u.reply_current _ _ _ _ _
          · exact .of_settings rfl rfl rfl rfl rfl
        · exact u.reply_current _ _ _ _ _
  | setQuota p tag l qa qb =>
      refine .of_taken run fun u => ?_
      split_ifs
      · exact u.reply_current _ _ _ _ _
      · exact u.reply_current _ _ _ _ _
      · exact u.reply_current _ _ _ _ _
      · exact .of_settings rfl rfl rfl rfl rfl
  | addUnit p tag a =>
      refine .of_taken run fun u => ?_
      split
      · exact u.reply_current _ _ _ _ _
      · rename_i i v result
        obtain ⟨free, fresh, valid, route⟩ := State.addUnitResult_unit result
        refine (u.reply_current p 0x0C tag .ok (be 2 i)).trans (State.record_current _ free fun law => ?_)
        exact LawfulBelow.put law free fresh valid route
  | editUnit p tag a =>
      refine .of_taken run fun u => ?_
      split
      · exact u.reply_current _ _ _ _ _
      · rename_i v w result
        intro right
        have law := right.1
        obtain ⟨found, address, phase, mode, state, -⟩ := State.editUnitResult_unit result
          fun x hx => law.1.route (unitAt_mem hx)
        refine ((u.reply_current p 0x0D tag .ok []).trans ?_) right
        exact State.editUnit_current _ found address phase mode state fun hu =>
          State.execEditUnit_inLaw (s := u.reply p 0x0D tag .ok []) hu result
  | retireUnit p tag i =>
      refine .of_taken run fun u => ?_
      split
      · exact u.reply_current _ _ _ _ _
      · split
        · exact u.reply_current _ _ _ _ _
        · rename_i v found
          exact (u.reply_current _ _ _ _ _).trans (State.retireUnit_current _ found)
  | setTime p tag sec ms =>
      refine .of_taken run fun u => ?_
      split
      · exact u.reply_current _ _ _ _ _
      · refine KeepsCurrent.trans ?_ (State.stepClock_current _ _)
        exact .of_settings rfl rfl rfl rfl rfl
  | secondBoundary =>
      cases run
      split
      · exact .refl s
      · refine KeepsCurrent.trans ?_ (State.crossSecond_current s.toNextSecond _)
        exact .of_settings rfl rfl rfl rfl rfl
  | resetPort p tag =>
      refine .of_taken run fun u => ?_
      refine KeepsCurrent.trans ?_ (.of_within (State.noteLine_ports _ _ _).within (by decide))
      exact State.removeEntries_current _ _ p rfl rfl rfl rfl rfl
  | heldNoticeQueued p =>
      cases run
      split
      · split
        · refine KeepsCurrent.trans ?_ (State.queueHeld_current _ _ _)
          exact .of_settings rfl rfl rfl rfl rfl
        · exact .refl s
      · exact .refl s
  | zeroCrossing ph us n b =>
      cases run
      exact retired (current_workKeeps.reportCrossing record returned s ph _ n b)
  | phaseLoss ph =>
      cases run
      split
      · exact retired ((record s ph _).trans (current_workKeeps.losePhase s ph))
      · exact .refl s
  | esReached h ph =>
      cases run
      split
      · exact retired ((current_workKeeps.rereadPart s h ph).trans (current_workKeeps.settleEntry _ h))
      · exact .refl s
  | lsReached h ph =>
      cases run
      split
      · split
        · exact retired (current_workKeeps.cutShortGroup s _)
        · exact .refl s
      · exact .refl s
  | floodEnd ph =>
      cases run
      split
      · rename_i f work
        split
        · exact retired (current_workKeeps.endFlood s ph f work)
        · exact .refl s
      · exact .refl s
  | repeatGapEnd ph =>
      cases run
      split
      · exact retired (current_workKeeps.endGap s _ ph)
      · exact .refl s
  | replyReceived ph x =>
      cases run
      split
      · split
        · exact retired (s.endExchange_current ph _ _)
        · exact .refl s
      · exact .refl s
  | silencePoint ph =>
      cases run
      split
      · split
        · exact retired (s.endExchange_current ph _ _)
        · exact .refl s
      · exact .refl s
  | probeWindowEnd ph x =>
      cases run
      split
      · split
        · exact retired (s.endWindow_current ph _ _ _)
        · exact .refl s
      · exact .refl s
  | _ => cases touched

/-- Every command but the transfers keeps the figures and the waiting plans current. -/
theorem exec_current_of_not_serves {c : Instr} {s t : State} (plain : serves c = false) (stored : s.store.rosterLawful)
    (run : exec c s = .next t) : KeepsCurrent s t := by
  by_cases touched : (touches c).any [Block.roster, .groups, .settings, .calendar, .fPlan].contains = true
  · exact exec_current plain touched stored run
  · have apart (b : Block) (hb : [Block.roster, .groups, .settings, .calendar, .fPlan].contains b = true) :
        b ∉ touches c := fun h => touched (List.any_eq_true.mpr ⟨b, h, hb⟩)
    exact .of_within (exec_within_of_not_serves plain run)
      ⟨apart _ rfl, apart _ rfl, apart _ rfl, apart _ rfl, apart _ rfl⟩

theorem figuresCurrent_iff (s : State) : FiguresCurrent s ↔ RosterLawful s ∧ FiguresRight s :=
  ⟨fun ⟨law, length, figured⟩ => ⟨law, law.inLaw, length, figured⟩, fun ⟨law, _, length, figured⟩ => ⟨law, length, figured⟩⟩

theorem FiguresRight.of_blocks {s t : State} (same : ∀ b ∈ [Block.roster, .groups, .settings], b.same s t)
    (h : FiguresRight s) : FiguresRight t := by
  have groups : t.groups = s.groups := same .groups (by decide)
  have settings : t.settings = s.settings := same .settings (by decide)
  refine h.of_same (same .roster (by decide)) (fun g => by rw [State.group, groups]; rfl) (by rw [groups]) ?_
  rw [State.rosterCapacity, settings]
  rfl

/-- Every step keeps the figures current, and with them the waiting plans. -/
theorem step_current {s t : State} (hs : FiguresCurrent s) (run : step s = .next t) (J : State → Prop)
    (is : ∀ s, J s → FiguresRight s)
    (blind : ∀ {s t}, (∀ b ∈ [Block.roster, .store, .groups, .settings, .calendar, .fPlan], b.same s t) → J s → J t)
    (keeps : ∀ {s t}, KeepsCurrent s t → J s → J t) (hJ : J s) : J t := by
  have lawful := (figuresCurrent_iff s).mp hs
  refine (step_keeps (J := fun s => RosterLawful s ∧ J s)
    [.roster, .store, .groups, .settings, .calendar, .fPlan] (by decide) ?_ ?_ ⟨lawful.1, hJ⟩ run).2
  · rintro s t same ⟨law, h⟩
    have roster : t.roster = s.roster := same .roster (by decide)
    have store : t.store = s.store := same .store (by decide)
    have settings : t.settings = s.settings := same .settings (by decide)
    refine ⟨?_, blind same h⟩
    unfold RosterLawful State.rosterCapacity
    rw [roster, store, settings]
    exact law
  · rintro c s t plain - run ⟨law, h⟩
    refine ⟨?_, keeps (exec_current_of_not_serves plain law.2.1 run) h⟩
    exact exec_rosterLawful_of_not_serves plain run law

/-- Settles O38. -/
theorem figuresAndPlansStayCurrent : Obligations.FiguresAndPlansStayCurrent := by
  intro s t hs run
  have right := ((figuresCurrent_iff s).mp hs).2
  have law := rosterStaysLawful s t hs.1 run
  refine ⟨(figuresCurrent_iff t).mpr ⟨law, ?_⟩, fun nodup plans => ?_⟩
  · exact step_current hs run FiguresRight (fun _ => id)
      (fun same => FiguresRight.of_blocks fun b hb => same b (by revert b; decide)) (fun k h => (k h).1) right
  · refine (step_current hs run (fun s => FiguresRight s ∧ s.handles.Nodup ∧ PlansCurrent s) (fun _ h => h.1) ?_
      (fun k h => ⟨(k h.1).1, (k h.1).2 h.2.1 h.2.2⟩) ⟨right, nodup, plans⟩).2
    rintro s t same ⟨h, nodup, current⟩
    have calendar : t.calendar = s.calendar := same .calendar (by decide)
    have plan : t.plan = s.plan :=
      SameInputs.plan (.of_same (same .groups (by decide)) (same .settings (by decide)) (same .fPlan (by decide)))
    refine ⟨h.of_blocks fun b hb => same b (by revert b; decide), ?_, fun e he => ?_⟩
    · unfold State.handles
      rw [calendar]
      exact nodup
    · have was := current e (calendar ▸ he)
      rw [plan]
      exact was

end Sys2Proof.Machine
end

section
/-! PROOFS. Relations kept by every command other than a start-up: what an invariant of the calendar, the channels and
the lists of work has to show, event by event. -/

namespace Sys2Proof.Machine

/-! ### No outcome, no retirement (R25) -/

theorem State.retireSince_of_same {s t : State} (same : t.calendar = s.calendar) : t.retireSince s = t := by
  refine State.retireSince_of_none fun e he => ?_
  unfold Entry.decidedSince
  cases outcome : e.outcome with
  | none => rfl
  | some o =>
      have known : s.calendar.any (fun x => x.handle == e.handle && x.outcome.isSome) = true :=
        List.any_eq_true.mpr ⟨e, same ▸ he, by simp [outcome]⟩
      simp [known]

/-- The end of an event, once what comes before has led into the relation: the entries retire whose outcomes it decided. -/
def Retires (R : State → State → Prop) (s t : State) : Prop :=
  ∃ v b, R s v ∧ b.calendar = s.calendar ∧ t = v.retireSince b

section
variable {R : State → State → Prop} {s t u : State}

/-- Where the calendar stays no entry retires. -/
theorem Retires.of_same (h : R s t) (same : t.calendar = s.calendar) : Retires R s t :=
  ⟨t, t, h, same, (State.retireSince_of_same rfl).symm⟩

theorem Retires.ended (h : R s t) : Retires R s (t.retireSince s) := ⟨t, s, h, rfl, rfl⟩

theorem Retires.after (trans : ∀ {s t u}, R s t → R t u → R s u) (first : R s t) (same : t.calendar = s.calendar)
    (h : Retires R t u) : Retires R s u := by
  obtain ⟨v, b, rest, before, rfl⟩ := h
  exact ⟨v, b, trans first rest, before.trans same, rfl⟩

end

/-! ### The roster's events, for a relation that does not read the roster -/

/-- The blocks that the invariants of the calendar, of the channels and of the lists of work do not read, the ports and the
retirement queues aside. -/
def quietBlocks : List Block :=
  [.pending, .faults, .freeCount, .elapsed, .clock, .fPlan, .excursion, .hold, .testMasks, .readCursors, .levels, .identity,
    .store, .surveys, .roster, .lastHandle]

/-- The blocks that those invariants do not read. -/
def unreadBlocks : List Block := quietBlocks ++ [.ports, .retirement]

/-- A relation that holds over what an event makes of the calendar as a whole, before entries retire (chapter 1). -/
structure CalReviews (R : State → State → Prop) : Prop extends CalSteps R where
  review : ∀ s recomputes test cutOff, R s (s.review recomputes test cutOff)
  withdraw : ∀ s h, s.Undecided h → R s (s.cancelled h)
  reach : ∀ s h ph, R s ((s.rereadPart h ph).settleEntry h)
  reread : ∀ s h, R s ((s.rereadParts h).settleEntry h)

/-- A relation that holds over what an event makes of the calendar as a whole (chapter 1). -/
structure CalActs (R : State → State → Prop) : Prop extends CalReviews R where
  join : ∀ s h, R s (s.joinRetirement h)

theorem CalEdits.reviews {R : State → State → Prop} (hR : CalEdits R) : CalReviews R where
  toCalSteps := hR.toCalSteps
  review := hR.review
  withdraw s h := hR.cancelled s h
  reach s h ph := hR.trans (hR.rereadPart s h ph) (hR.settleEntry _ h)
  reread s h := hR.trans (hR.rereadParts s h) (hR.settleEntry _ h)

theorem CalKeeps.acts {R : State → State → Prop} (hR : CalKeeps R) : CalActs R where
  toCalReviews := hR.reviews
  join := hR.join

theorem CalActs.retireSince {R : State → State → Prop} (hR : CalActs R) (s before : State) : R s (s.retireSince before) :=
  hR.retireSince_of hR.join s before

section
variable {R : State → State → Prop} (hR : CalReviews R) (quiet : ∀ {s t}, Within quietBlocks s t → R s t)
  (refigure : ∀ s g, R s (s.refigure g))
include hR

theorem CalReviews.noticeLost (s : State) (before : Roster) (cause : LostCause) : R s (s.noticeLost before cause) :=
  hR.foldl _ (fun s _ => hR.offerBoth s _ _) _ s

include refigure

theorem CalReviews.recomputeGroups (s : State) (gs : List Nat) : R s (s.recomputeGroups gs) :=
  hR.trans (hR.foldl _ refigure _ s) (hR.review _ true _ _)

include quiet

omit refigure in
theorem CalReviews.rosterNoted (s : State) (r before : Roster) (cause : LostCause) :
    R s (State.noticeLost { s with roster := r } before cause) :=
  hR.trans (quiet ((s.roster_within r).mono (by decide))) (hR.noticeLost _ before cause)

omit refigure in
theorem CalReviews.post (s : State) (f : FaultReport) : R s (s.post f) := by
  refine hR.trans (quiet ?_) (hR.offerBoth { s with faults := _ } _ _)
  intro b hb
  cases b <;> first | rfl | exact absurd (by decide) hb

theorem CalReviews.applySilence (s : State) (i : Nat) (a : Address) : R s (s.applySilence i a) := by
  unfold State.applySilence
  split
  · exact hR.refl s
  · split
    · have noted (v : UnitRec) : R s ((s.modUnit i (fun _ => v)).noticeLost s.roster .silence) :=
        hR.trans (quiet ((s.modUnit_within i _).mono (by decide))) (hR.noticeLost _ _ _)
      dsimp only
      split
      · exact hR.trans (noted _) (hR.recomputeGroups refigure _ _)
      · exact noted _
    · exact hR.refl s

theorem CalReviews.applyReply (s : State) (ph : Phase) (x : Exchange) (r : ReplyReading) (uplink : Nat) (seed : Bool) :
    R s (s.applyReply ph x r uplink seed) := by
  unfold State.applyReply
  split
  · exact hR.refl s
  · split
    · have sampled (v : UnitRec) (f : LevelRec → LevelRec) : R s
          (if x.hops = 0 then (s.modUnit x.index (fun _ => v)).modLevel ph f else s.modUnit x.index (fun _ => v)) := by
        split
        · exact quiet ((s.modUnit_within _ _).then (State.modLevel_within _ ph _) (by decide))
        · exact quiet ((s.modUnit_within _ _).mono (by decide))
      dsimp only
      split
      · exact hR.trans (sampled _ _) (hR.recomputeGroups refigure _ _)
      · exact sampled _ _
    · exact hR.refl s

theorem CalReviews.record (s : State) (i : Nat) (u : UnitRec) : Retires R s (s.record i u) :=
  .ended (hR.trans (quiet ((s.roster_within _).mono (by decide))) (hR.recomputeGroups refigure _ _))

theorem CalReviews.editUnit (s : State) (i : Nat) (u v : UnitRec) : Retires R s (s.editUnit i u v) := by
  have withdrawn : R s (if u.withdrawn v then (s.modUnit i (fun _ => v)).withdrawRelay i
        else s.modUnit i (fun _ => v)) ∧
      (if u.withdrawn v then (s.modUnit i (fun _ => v)).withdrawRelay i else s.modUnit i (fun _ => v)).calendar =
        s.calendar := by
    have written : R s (s.modUnit i (fun _ => v)) := quiet ((s.modUnit_within i _).mono (by decide))
    split
    · exact ⟨hR.trans written (hR.rosterNoted quiet _ _ _ _),
        ((s.modUnit_within i _).then (ds := [.roster, .ports]) (State.withdrawRelay_within _ i) (by decide)) .calendar
          (by decide)⟩
    · exact ⟨written, rfl⟩
  unfold State.editUnit
  dsimp only
  generalize (if u.withdrawn v = true then (s.modUnit i (fun _ => v)).withdrawRelay i
      else s.modUnit i (fun _ => v)) = t at withdrawn ⊢
  split
  · exact .of_same withdrawn.1 withdrawn.2
  · exact .ended (hR.trans withdrawn.1 (hR.recomputeGroups refigure _ _))

theorem CalReviews.retireUnit (s : State) (i : Nat) (u : UnitRec) : Retires R s (s.retireUnit i u) :=
  .ended (hR.trans (hR.trans (quiet ((s.roster_within _).mono (by decide))) (hR.rosterNoted quiet _ _ _ _))
    (hR.recomputeGroups refigure _ _))

/-- What a window finds, where a record joins the channel's list as it may (R123 to R125). -/
theorem CalReviews.applyWindow {s : State} {ph : Phase} {p : ProbeInFlight} {window : Nat} {r : WindowResult}
    (register : ∀ t i a, t.channels = s.channels → t.discovery = s.discovery → R t (t.register ph i a))
    (collide : R s (s.modDisc ph (fun d => d.collide p window))) : R s (s.applyWindow ph p window r) := by
  unfold State.applyWindow
  split
  · split
    · rename_i x _
      unfold State.updateFound
      dsimp only
      generalize (if (x.2.route != _ || _) = true then invalidateFrom x.1 _ else _ : Roster) = after
      have noted : Within [.roster, .ports] s (State.noticeLost { s with roster := after } s.roster .route) :=
        (s.roster_within after).then (State.noticeLost_within _ _ _) (by decide)
      have registered := hR.trans (hR.rosterNoted quiet s after s.roster .route)
        (register _ x.1 x.2.address (noted .channels (by decide)) (noted .discovery (by decide)))
      split
      · exact hR.trans registered (hR.recomputeGroups refigure _ _)
      · exact registered
    · unfold State.recordFound
      split
      · exact hR.post quiet s _
      · have placed (r' : Roster) (i : Nat) (a : Address) : R s (State.register { s with roster := r' } ph i a) :=
          hR.trans (quiet ((s.roster_within r').mono (by decide))) (register { s with roster := r' } i a rfl rfl)
        dsimp only
        exact hR.trans (hR.trans (placed _ _ _) (hR.offerBoth _ _ _)) (hR.recomputeGroups refigure _ _)
  · exact collide
  · exact hR.refl s

end

/-! ### What every command comes to -/

/-- A relation that holds over every event that may decide an outcome, up to the retirement of the entries it decides. -/
structure EventSteps (R : State → State → Prop) : Prop extends CalReviews R where
  quiet : ∀ {s t}, Within quietBlocks s t → R s t
  popped : ∀ s p, R s (s.popFrame p)
  reply : ∀ s p code tag o c, R s (s.reply p code tag o c)
  refigure : ∀ s g, R s (s.refigure g)
  settings : ∀ s v, v.layout = s.settings.layout → v.quota = s.settings.quota → R s { s with settings := v }
  dropField : ∀ s leaves, R s (s.dropField leaves)
  timeStep : ∀ s : State, R s
    { s with calendar := s.calendar.map (fun (e : Entry) => { e with timeStepped := e.timeStepped || e.sequence.isSome }) }
  joined : ∀ s p tag a x c, s.submitRefusal p a = none → R s (s.joined p tag (s.admittedEntry p tag a x c))
  crossing : ∀ s ph instant noise b, R s (s.reportCrossing ph instant noise b)
  loss : ∀ s ph, s.lossDue ph = true → R s (s.losePhase ph)
  flood : ∀ s ph f, (s.chan ph).work = some (.flood f) → R s (s.endFlood ph f)
  gapEnd : ∀ s ph h, (s.chan ph).gapLeft = some 0 → (s.chan ph).openPart = some h → R s (s.endGap h ph)
  exchange : ∀ s ph x reply, (s.chan ph).listeningFor = some x → R s (s.endExchange ph x reply)
  window : ∀ s ph r p heard, (s.chan ph).work = some (.probe r) → (s.chan ph).state = .listening →
    (s.disc ph).probe = some p → R s (s.endWindow ph r p heard)

/-- A relation that holds over every command other than a start-up, event by event. -/
structure EventKeeps (R : State → State → Prop) : Prop extends CalActs R, EventSteps R where
  unread : ∀ {s t}, Within unreadBlocks s t → R s t
  queueHeld : ∀ s p o, R s (s.queueHeld p o)
  runLine : ∀ s : State, s.line = .stopped → R s { s with line := if s.hold.a || s.hold.b then .held else .running }
  addHold : ∀ s p, s.hold.get p = false → R s (s.addHold p)
  releaseHold : ∀ s p, R s (s.releaseHold p)
  pinged : ∀ s ph r, (s.pingQueue ph).length < 8 → R s (s.modPings ph (· ++ [r]))
  silence : ∀ s ph, R s (s.completeQueued ph .silent)
  startDiscovery : ∀ s, R s (s.mapDiscovery Discovery.start)
  stopDiscovery : ∀ s, R s (s.mapDiscovery Discovery.stop)
  cycle : ∀ s ph, s.restOver ph = true → R s (s.modDisc ph Discovery.cycle)
  resetOwned : ∀ s p, R s (s.resetOwned p)
  outbound : ∀ s ph w, (s.chan ph).work = some w → (s.chan ph).state = .sending →
    R s (s.modChan ph (fun c => { c with state := .listening }))
  quiet := fun h => unread (h.mono (by decide))
  popped := fun s p => unread ((State.modPort_ports s p _).within.mono (by decide))
  reply := fun s p code tag o c => unread ((s.reply_within p code tag o c).mono (by decide))

theorem State.pingResultOf_room {s : State} {i : Nat} {u : UnitRec} (h : s.pingResultOf i = .ok u) :
    (s.pingQueue u.phase).length < 8 := by
  unfold State.pingResultOf at h
  split at h
  · cases h
  · split at h
    · cases h
    · split at h
      · cases h
      · rename_i room
        cases h
        exact Nat.not_le.mp room

/-- A CANCEL that is accepted is of an entry without an outcome (R19). -/
theorem State.undecided_of_cancelRefusal {s : State} {p : Port} {h : Nat} (accepted : s.cancelRefusal p h = none) :
    s.Undecided h := by
  intro e found
  unfold State.cancelRefusal at accepted
  rw [found] at accepted
  dsimp only at accepted
  split_ifs at accepted with _ decided
  exact Option.not_isSome_iff_eq_none.mp decided

/-- The commands at whose end entries may retire. -/
def retiring : Instr → Bool
  | .submit .. | .cancel .. | .applyProfile .. | .setParameter .. | .addUnit .. | .editUnit .. | .retireUnit ..
  | .setTime .. | .zeroCrossing .. | .phaseLoss .. | .secondBoundary | .esReached .. | .lsReached .. | .floodEnd ..
  | .repeatGapEnd .. | .replyReceived .. | .silencePoint .. | .probeWindowEnd .. => true
  | _ => false

section
variable {R : State → State → Prop} (hR : EventSteps R)
include hR

theorem EventSteps.replied (s : State) (p : Port) (code tag : Byte) (o : ReplyCode) (c : List Byte) :
    Retires R s (s.reply p code tag o c) := .of_same (hR.reply s p code tag o c) rfl

theorem EventSteps.unmoved (s : State) : Retires R s s := .of_same (hR.refl s) rfl

theorem EventSteps.after_reply (s : State) (p : Port) (code tag : Byte) (o : ReplyCode) (c : List Byte) {t : State}
    (h : Retires R (s.reply p code tag o c) t) : Retires R s t :=
  .after hR.trans (hR.reply s p code tag o c) rfl h

theorem EventSteps.of_taken {s t : State} {p : Port} {i : Instr} {f : State → State}
    (run : whenTaken s p i f = .next t) (h : ∀ u, Retires R u (f u)) : Retires R s t := by
  obtain ⟨-, rfl⟩ | ⟨-, rfl⟩ := whenTaken_cases run
  · exact .after hR.trans (hR.popped s p) rfl (h (s.popFrame p))
  · exact hR.unmoved _

theorem EventSteps.stepClock (s : State) (second : Nat) : Retires R s (s.stepClock second) :=
  .ended (hR.trans (hR.trans (hR.timeStep s) (hR.review _ false _ _)) (hR.dropField _ _))

theorem EventSteps.crossSecond (s : State) (second : Nat) : Retires R s (s.crossSecond second) := by
  have planned : R s { s with fPlan := s.refreshedPlanFrequency } := by
    refine hR.quiet fun b hb => ?_
    cases b <;> first | rfl | exact absurd (by decide) hb
  have judged (u : State) : R u u.judgeExcursion := by
    have flagged (b : Bool) : R u { u with excursion := b } := by
      refine hR.quiet fun k hk => ?_
      cases k <;> first | rfl | exact absurd (by decide) hk
    unfold State.judgeExcursion
    split
    · split_ifs
      · exact hR.refl u
      · exact hR.trans (flagged true) (hR.post hR.quiet _ _)
      · exact flagged false
    · exact flagged false
  exact .ended (hR.trans (hR.trans (hR.trans planned (judged _)) (hR.review _ true _ _)) (hR.dropField _ _))

theorem EventSteps.parameterEffects (s : State) (q : Parameter) : R s (s.parameterEffects q) := by
  have level (ph : Phase) (f : LevelRec → LevelRec) : R s (s.modLevel ph f) :=
    hR.quiet ((s.modLevel_within ph f).mono (by decide))
  cases q with
  | routineRepeats | urgentRepeats | guardMs | leadS | gap => exact hR.review s true _ _
  | levelMin ph => exact level ph fun l => (l.reacquire).within (s.settings.levels.get ph)
  | levelMax ph => exact level ph fun l => (l.reacquire).within (s.settings.levels.get ph)
  | target ph => exact level ph LevelRec.reacquire
  | tolerance | pollRetries | degradeLimit | lostLimit | probePeriod | nominal => exact hR.refl s

theorem EventSteps.admitted (s : State) (p : Port) (tag : Byte) (a : SubmitArgs) (x : Action) (c : EntryClass)
    (passes : s.submitRefusal p a = none) : Retires R s (s.admitted p tag a x c) := by
  rw [State.admitted_eq]
  exact .ended (hR.trans (hR.joined s p tag a x c passes) (hR.reread _ _))

/-- Every command at whose end entries may retire is in the relation up to there. -/
theorem EventSteps.exec {c : Instr} {s t : State} (retires : retiring c = true) (run : Machine.exec c s = .next t) :
    Retires R s t := by
  cases c with
  | submit p tag a =>
      refine hR.of_taken run fun u => ?_
      split
      · exact hR.replied u _ _ _ _ _
      · rename_i passes _
        exact hR.admitted u p tag a _ _ passes
      · exact hR.replied u _ _ _ _ _
  | cancel p tag h =>
      refine hR.of_taken run fun u => ?_
      split
      · exact hR.replied u _ _ _ _ _
      · rename_i accepted
        dsimp only
        split
        · exact hR.replied u _ _ _ _ _
        · refine hR.after_reply u p 0x02 tag .ok [] ?_
          rw [State.cancelEntry_retires]
          exact .ended (hR.withdraw _ _ (State.undecided_of_cancelRefusal accepted))
  | applyProfile p tag q =>
      refine hR.of_taken run fun u => ?_
      split
      · exact hR.replied u _ _ _ _ _
      · split
        · rename_i q _
          have written := hR.trans (hR.reply u p 0x08 tag .ok []) (hR.settings (u.reply p 0x08 tag .ok [])
            (u.settings.withProfile q) (by cases q <;> rfl) (by cases q <;> rfl))
          refine .ended (hR.trans (hR.trans written ?_) (hR.review _ true _ _))
          exact hR.quiet ((State.reacquireAll_within _).mono (by decide))
        · exact hR.replied u _ _ _ _ _
  | setParameter p tag a =>
      refine hR.of_taken run fun u => ?_
      split
      · exact hR.replied u _ _ _ _ _
      · split
        · rename_i q _
          refine .ended (hR.trans (hR.trans (hR.reply u _ _ _ _ _) (hR.settings _ _ ?_ ?_)) (hR.parameterEffects _ q))
          · cases q <;> rfl
          · cases q <;> rfl
        · exact hR.replied u _ _ _ _ _
  | addUnit p tag a =>
      refine hR.of_taken run fun u => ?_
      split
      · exact hR.replied u _ _ _ _ _
      · exact hR.after_reply u _ _ _ _ _ (hR.record hR.quiet hR.refigure _ _ _)
  | editUnit p tag a =>
      refine hR.of_taken run fun u => ?_
      split
      · exact hR.replied u _ _ _ _ _
      · exact hR.after_reply u _ _ _ _ _ (hR.editUnit hR.quiet hR.refigure _ _ _ _)
  | retireUnit p tag i =>
      refine hR.of_taken run fun u => ?_
      split
      · exact hR.replied u _ _ _ _ _
      · split
        · exact hR.replied u _ _ _ _ _
        · exact hR.after_reply u _ _ _ _ _ (hR.retireUnit hR.quiet hR.refigure _ _ _)
  | setTime p tag sec ms =>
      refine hR.of_taken run fun u => ?_
      split
      · exact hR.replied u _ _ _ _ _
      · refine hR.after_reply u p 0x19 tag .ok
          (be 4 (u.clock.millis / 1000) ++ be 2 (u.clock.millis % 1000) ++ [clockStateByte u.clock.isSet]) ?_
        refine Retires.after hR.trans (hR.quiet ?_) ?_ (hR.stepClock _ _)
        · intro b hb
          cases b <;> first | rfl | exact absurd (by decide) hb
        · rfl
  | zeroCrossing ph us n b =>
      cases run
      exact .ended (hR.crossing s ph _ n b)
  | phaseLoss ph =>
      cases run
      split
      · rename_i due
        exact .ended (hR.loss s ph due)
      · exact hR.unmoved s
  | secondBoundary =>
      cases run
      split
      · exact hR.unmoved s
      · refine Retires.after hR.trans (hR.quiet ?_) ?_ (hR.crossSecond s.toNextSecond _)
        · intro b hb
          cases b <;> first | rfl | exact absurd (by decide) hb
        · rfl
  | esReached h ph =>
      cases run
      split
      · exact .ended (hR.reach s h ph)
      · exact hR.unmoved s
  | lsReached h ph =>
      cases run
      split
      · split
        · exact .ended (hR.cutShortGroup s _)
        · exact hR.unmoved s
      · exact hR.unmoved s
  | floodEnd ph =>
      cases run
      split
      · rename_i f work
        split
        · exact .ended (hR.flood s ph f work)
        · exact hR.unmoved s
      · exact hR.unmoved s
  | repeatGapEnd ph =>
      cases run
      split
      · rename_i h left part
        exact .ended (hR.gapEnd s ph h left part)
      · exact hR.unmoved s
  | replyReceived ph x =>
      cases run
      split
      · rename_i e r listens _
        split
        · exact .ended (hR.exchange s ph e _ listens)
        · exact hR.unmoved s
      · exact hR.unmoved s
  | silencePoint ph =>
      cases run
      split
      · rename_i e listens
        split
        · exact .ended (hR.exchange s ph e _ listens)
        · exact hR.unmoved s
      · exact hR.unmoved s
  | probeWindowEnd ph x =>
      cases run
      split
      · rename_i r p work probe
        split
        · rename_i ended
          exact .ended (hR.window s ph r p x work ended.1 probe)
        · exact hR.unmoved s
      · exact hR.unmoved s
  | _ => cases retires

end

section
variable {R : State → State → Prop} (hR : EventKeeps R)
include hR

theorem EventKeeps.noteLine (s : State) (line : LineState) (hold : Duo Bool) : R s (s.noteLine line hold) :=
  hR.unread ((State.noteLine_ports _ _ _).within.mono (by decide))

theorem EventKeeps.of_taken {s t : State} {p : Port} {i : Instr} {f : State → State}
    (run : whenTaken s p i f = .next t) (h : ∀ u, R u (f u)) : R s t := by
  obtain ⟨-, rfl⟩ | ⟨-, rfl⟩ := whenTaken_cases run
  · exact hR.trans (hR.popped s p) (h (s.popFrame p))
  · exact hR.refl _

/-- Every command that is neither a transfer nor a start-up is in the relation. -/
theorem EventKeeps.exec {c : Instr} {s t : State} (plain : serves c = false)
    (start : ∀ a b, c ≠ .powerOn a b ∧ c ≠ .pinReset a b) (run : Machine.exec c s = .next t) : R s t := by
  by_cases retires : retiring c = true
  · obtain ⟨v, b, h, -, rfl⟩ := hR.toEventSteps.exec retires run
    exact hR.trans h (hR.retireSince v b)
  cases c with
  | submit | cancel | applyProfile | setParameter | addUnit | editUnit | retireUnit | setTime | zeroCrossing | phaseLoss
  | secondBoundary | esReached | lsReached | floodEnd | repeatGapEnd | replyReceived | silencePoint | probeWindowEnd =>
      exact absurd rfl retires
  | powerOn a b => exact absurd rfl (start a b).1
  | pinReset a b => exact absurd rfl (start a b).2
  | commandTransfer | fetchTransfer => cases plain
  | runLine p tag =>
      refine hR.of_taken run fun u => ?_
      split
      · exact hR.reply u _ _ _ _ _
      · rename_i stopped
        split
        · exact hR.reply u _ _ _ _ _
        · refine hR.trans (hR.trans (hR.reply u p 0x05 tag .ok []) ?_) (hR.noteLine _ _ _)
          exact hR.runLine (u.reply p 0x05 tag .ok []) (not_not.mp stopped)
  | holdLine p tag =>
      refine hR.of_taken run fun u => ?_
      dsimp only
      split
      · exact hR.reply u _ _ _ _ _
      · rename_i apart
        refine hR.trans (hR.trans (hR.reply u p 0x06 tag .ok []) ?_) (hR.noteLine _ _ _)
        exact hR.addHold (u.reply p 0x06 tag .ok []) p (by simpa using apart)
  | releaseLine p tag =>
      refine hR.of_taken run fun u => ?_
      split
      · exact hR.trans (hR.trans (hR.reply u _ _ _ _ _) (hR.releaseHold _ p)) (hR.noteLine _ _ _)
      · exact hR.reply u _ _ _ _ _
  | setGroupPermit p tag g q =>
      refine hR.of_taken run fun u => ?_
      split
      · exact hR.reply u _ _ _ _ _
      · split
        · split
          · exact hR.reply u _ _ _ _ _
          · exact hR.trans (hR.reply u _ _ _ _ _) (hR.settings _ _ rfl rfl)
        · exact hR.reply u _ _ _ _ _
  | setQuota p tag l qa qb =>
      refine hR.of_taken run fun u => ?_
      split_ifs
      · exact hR.reply u _ _ _ _ _
      · exact hR.reply u _ _ _ _ _
      · exact hR.reply u _ _ _ _ _
      · refine hR.trans ?_ (hR.unread ((State.startSave_within _ p tag _).mono (by decide)))
        exact hR.trans (hR.reply u _ _ _ _ _) (hR.settings _ _ rfl rfl)
  | pingUnit p tag i r =>
      refine hR.of_taken run fun u => ?_
      split
      · exact hR.reply u _ _ _ _ _
      · rename_i v result
        have joined := hR.trans (hR.reply u p 0x12 tag .ok [channelByte v.phase]) (hR.pinged _ v.phase
          { origin := p, tag, index := i.toNat, address := v.address, register := r, state := .queued, dropped := false }
          (State.pingResultOf_room result))
        dsimp only
        split
        · exact hR.trans joined (hR.silence _ _)
        · exact joined
  | startDiscovery p tag =>
      exact hR.of_taken run fun u => hR.trans (hR.reply u _ _ _ _ _) (hR.startDiscovery _)
  | stopDiscovery p tag =>
      exact hR.of_taken run fun u => hR.trans (hR.reply u _ _ _ _ _) (hR.stopDiscovery _)
  | resetPort p tag =>
      refine hR.of_taken run fun u => ?_
      refine hR.trans (hR.trans (hR.trans (hR.trans ?_ (hR.resetOwned (u.modPort p PortRec.reset) p))
        (hR.reply _ _ _ _ _ _)) (hR.releaseHold _ p)) (hR.noteLine _ _ _)
      exact hR.unread ((State.modPort_ports u p _).within.mono (by decide))
  | heldNoticeQueued p =>
      cases run
      split
      · split
        · exact hR.trans (hR.unread ((State.modPort_ports s p _).within.mono (by decide))) (hR.queueHeld _ p _)
        · exact hR.refl s
      · exact hR.refl s
  | outboundSpanEnd ph =>
      cases run
      split
      · rename_i w work
        split
        · rename_i ended
          simp only [Bool.and_eq_true, decide_eq_true_eq] at ended
          exact hR.outbound s ph w work ended.1
        · exact hR.refl s
      · exact hR.refl s
  | restEnd ph =>
      cases run
      split
      · rename_i ended
        exact hR.cycle s ph ended
      · exact hR.refl s
  | _ => exact hR.unread ((exec_within_of_not_serves rfl run).mono (by dsimp only [touches]; decide))

end

end Sys2Proof.Machine
end

section
/-! PROOFS. The calendar keeps its order, its capacity and its quotas, and the lists of work their bounds (R1, R3, R62,
R90, R113, R117, R126). -/

namespace Sys2Proof.Machine

/-! ### An invariant kept by every command is kept by every step -/

theorem EventKeeps.step {J : State → Prop} (hR : EventKeeps (fun s t => J s → J t))
    (started : ∀ s a b f, J s → J (s.startUp a b f)) {s t : State} (hs : J s) (run : Machine.step s = .next t) : J t := by
  refine step_keeps (J := J) [.mains, .calendar, .line, .channels, .pings, .groups, .discovery, .settings] (by decide)
    (fun same h => hR.unread (fun b hb => ?_) h) (fun c s t plain _ run h => ?_) hs run
  · cases b <;> first | exact same _ (by decide) | exact absurd (by decide) hb
  · by_cases start : ∀ a b, c ≠ .powerOn a b ∧ c ≠ .pinReset a b
    · exact hR.exec plain start run h
    · simp only [not_forall, not_and_or, not_not] at start
      obtain ⟨a, b, rfl | rfl⟩ := start
      · cases run
        exact started s a b _ h
      · cases run
        exact started s a b _ h

/-- A relation kept by the channels' work, and over what the events do beside it, is kept by every event up to the
retirement of the entries it decides. -/
theorem EventSteps.of_work {R : State → State → Prop} (hR : WorkSteps R)
    (blind : ∀ {s t}, Within (quietBlocks ++ [.mains, .line, .channels, .pings, .discovery]) s t → R s t)
    (popped : ∀ s p, R s (s.popFrame p)) (reply : ∀ s p code tag o c, R s (s.reply p code tag o c))
    (refigure : ∀ s g, R s (s.refigure g))
    (settings : ∀ (s : State) v, v.layout = s.settings.layout → v.quota = s.settings.quota → R s { s with settings := v })
    (dropField : ∀ s leaves, R s (s.dropField leaves))
    (timeStep : ∀ s : State, R s { s with
      calendar := s.calendar.map (fun (e : Entry) => { e with timeStepped := e.timeStepped || e.sequence.isSome }) })
    (joined : ∀ s p tag a x c, s.submitRefusal p a = none → R s (s.joined p tag (s.admittedEntry p tag a x c))) :
    EventSteps R where
  toCalReviews := hR.reviews
  quiet h := blind (h.mono (by decide))
  popped := popped
  reply := reply
  refigure := refigure
  settings := settings
  dropField := dropField
  timeStep := timeStep
  joined := joined
  crossing s ph instant noise b :=
    hR.reportCrossing (fun s ph r => blind ((s.setPhaseRec_within ph r).mono (by decide)))
      (fun s ph => blind ((s.returnPhase_within ph).mono (by decide))) s ph instant noise b
  loss s ph _ := hR.trans (blind ((s.setPhaseRec_within ph _).mono (by decide))) (hR.losePhase s ph)
  flood s ph f work := hR.endFlood s ph f work
  gapEnd s ph h _ _ := hR.endGap s h ph
  exchange s ph x reply _ :=
    hR.endExchange
      (fun r uplink seed => hR.reviews.applyReply (fun h => blind (h.mono (by decide))) refigure s ph x r uplink seed)
      (hR.reviews.applySilence (fun h => blind (h.mono (by decide))) refigure s _ _) reply
  window s ph r p heard _ _ _ := by
    refine hR.endWindow (fun s ph => blind ((s.modDisc_within ph _).mono (by decide)))
      (fun s ph => blind ((s.advanceOrigin_within ph).mono (by decide)))
      (fun s ph w => blind ((s.modChan_within ph _).mono (by decide))) (fun k w => ?_) r heard
    exact hR.reviews.applyWindow (fun h => blind (h.mono (by decide))) refigure
      (fun t i a _ _ => blind ((t.register_within ph i a).mono (by decide)))
      (blind ((s.modDisc_within ph _).mono (by decide)))

/-- A relation that reads the calendar, the groups and the settings alone, kept by the channels' work, is kept by every
event. -/
theorem EventKeeps.of_work {R : State → State → Prop} (hR : WorkKeeps R)
    (blind : ∀ {s t}, Within (unreadBlocks ++ [.mains, .line, .channels, .pings, .discovery]) s t → R s t)
    (refigure : ∀ s g, R s (s.refigure g))
    (settings : ∀ (s : State) v, v.layout = s.settings.layout → v.quota = s.settings.quota → R s { s with settings := v })
    (dropField : ∀ s leaves, R s (s.dropField leaves))
    (timeStep : ∀ s : State, R s { s with
      calendar := s.calendar.map (fun (e : Entry) => { e with timeStepped := e.timeStepped || e.sequence.isSome }) })
    (retired : ∀ s p h, R s (s.retireEntry p h))
    (joined : ∀ s p tag a x c, s.submitRefusal p a = none → R s (s.joined p tag (s.admittedEntry p tag a x c)))
    (removed : ∀ s p, R s (s.removeEntries p)) : EventKeeps R :=
  { hR.acts,
    EventSteps.of_work hR.toWorkSteps (fun h => blind (h.mono (by decide)))
      (fun s p => blind ((State.modPort_ports s p _).within.mono (by decide)))
      (fun s p code tag o c => blind ((s.reply_within p code tag o c).mono (by decide))) refigure settings dropField
      timeStep joined with
    unread := fun h => blind (h.mono (by decide))
    queueHeld := fun s p o => by
      unfold State.queueHeld
      split
      · rename_i i _
        refine hR.trans (blind ((State.pushItem_ports s p i).within.mono (by decide))) ?_
        cases o with
        | outcome h => exact retired _ p h
        | ping | storeDone | survey =>
            refine blind ?_
            intro b hb
            cases b <;> first | rfl | exact absurd (by decide) hb
      · exact hR.refl s
    runLine := fun s _ => by
      refine blind ?_
      intro b hb
      cases b <;> first | rfl | exact absurd (by decide) hb
    addHold := fun s p _ => blind ((s.addHold_within p).mono (by decide))
    releaseHold := fun s p => blind ((s.releaseHold_within p).mono (by decide))
    pinged := fun s ph r _ => blind ((s.modPings_within ph _).mono (by decide))
    silence := fun s ph => blind ((s.completeQueued_within ph _).mono (by decide))
    startDiscovery := fun s => by
      refine blind ?_
      intro b hb
      cases b <;> first | rfl | exact absurd (by decide) hb
    stopDiscovery := fun s => by
      refine blind ?_
      intro b hb
      cases b <;> first | rfl | exact absurd (by decide) hb
    cycle := fun s ph _ => blind ((s.modDisc_within ph _).mono (by decide))
    resetOwned := fun s p => by
      refine hR.trans (removed s p) (blind ?_)
      intro b hb
      cases b <;> first | rfl | exact absurd (by decide) hb
    outbound := fun s ph _ _ _ => blind ((s.modChan_within ph _).mono (by decide)) }

/-! ### The calendar's order, capacity and quotas (R1, R3, R10) -/

/-- What admission fixed of the entries, in order, is within the bounds of R1 and R3. -/
def OrderBounded (capacity quotaA quotaB : Nat)
    (l : List (Nat × Port × Byte × Nat × Action × Nat × Option Nat × EntryClass × Bool)) : Prop :=
  (l.map (·.2.2.2.2.2.1)).Pairwise (· ≤ ·) ∧ l.length ≤ capacity ∧
    ((l.filter (fun v => v.2.1 == .A)).length ≤ quotaA ∧ (l.filter (fun v => v.2.1 == .B)).length ≤ quotaB) ∧
    l.Pairwise (fun v w => ¬ (v.2.2.2.1 = w.2.2.2.1 ∧ v.2.2.2.2.2.1 = w.2.2.2.2.2.1))

theorem calendarBounded_iff (s : State) :
    CalendarBounded s ↔
      OrderBounded s.calendarCapacity s.settings.quota.a s.settings.quota.b (s.calendar.map Entry.fixed) := by
  unfold CalendarBounded OrderBounded State.liveCount
  rw [List.map_map, List.length_map, List.filter_map, List.filter_map, List.length_map, List.length_map,
    List.pairwise_map (f := Entry.fixed)]
  rfl

theorem OrderBounded.sublist {capacity a b : Nat}
    {l k : List (Nat × Port × Byte × Nat × Action × Nat × Option Nat × EntryClass × Bool)}
    (h : OrderBounded capacity a b l) (sub : k.Sublist l) : OrderBounded capacity a b k := by
  obtain ⟨order, room, ⟨quotaA, quotaB⟩, apart⟩ := h
  exact ⟨order.sublist (sub.map _), sub.length_le.trans room,
    ⟨(sub.filter _).length_le.trans quotaA, (sub.filter _).length_le.trans quotaB⟩, apart.sublist sub⟩

theorem CalendarBounded.of_sublist {s t : State} (sub : (t.calendar.map Entry.fixed).Sublist (s.calendar.map Entry.fixed))
    (layout : t.settings.layout = s.settings.layout) (quota : t.settings.quota = s.settings.quota)
    (h : CalendarBounded s) : CalendarBounded t := by
  rw [calendarBounded_iff] at h ⊢
  unfold State.calendarCapacity at h ⊢
  rw [layout, quota]
  exact h.sublist sub

/-- Admission within the bounds, in the place of R1. -/
theorem State.joined_calendarBounded {s : State} {p : Port} {a : SubmitArgs} (passes : s.submitRefusal p a = none)
    (tag : Byte) (x : Action) (c : EntryClass) (h : CalendarBounded s) :
    CalendarBounded (s.joined p tag (s.admittedEntry p tag a x c)) := by
  obtain ⟨room, quota, apart⟩ := State.room_of_submitRefusal passes
  obtain ⟨order, capacity, ⟨quotaA, quotaB⟩, distinct⟩ := h
  generalize is : s.admittedEntry p tag a x c = e
  have group : e.group = a.group.toNat := by rw [← is]; rfl
  have activation : e.activation = a.activation.toNat := by rw [← is]; rfl
  have origin : e.origin = p := by rw [← is]; rfl
  have others : ∀ y ∈ s.calendar, ¬ (y.group = e.group ∧ y.activation = e.activation) := by
    intro y hy same
    have clash : s.conflicts a = true :=
      List.any_eq_true.mpr ⟨y, hy, by rw [same.1, same.2, group, activation]; simp⟩
    rw [apart] at clash
    cases clash
  obtain ⟨before, after, split, joined, low, high⟩ := insertEntry_split e s.calendar
  have calendar : (s.joined p tag e).calendar = before ++ e :: after := joined
  have perm : (s.joined p tag e).calendar.Perm (e :: s.calendar) := insertEntry_perm e s.calendar
  have later : ∀ y ∈ after, e.activation ≤ y.activation := by
    intro y hy
    cases after with
    | nil => cases hy
    | cons z rest =>
        have first := high z rfl
        rw [split, List.map_append] at order
        have tail := (List.pairwise_append.mp order).2.1
        obtain rfl | hy := List.mem_cons.mp hy
        · exact first.le
        · exact first.le.trans ((List.pairwise_cons.mp tail).1 _ (List.mem_map_of_mem hy))
  have count (q : Port) : (s.joined p tag e).liveCount q = s.liveCount q + if p = q then 1 else 0 := by
    unfold State.liveCount
    rw [(perm.filter _).length_eq, List.filter_cons, origin]
    by_cases here : p = q
    · simp [here]
    · simp [here]
  refine ⟨?_, ?_, ?_, ?_⟩
  · rw [calendar, List.map_append, List.map_cons]
    rw [split, List.map_append] at order
    obtain ⟨front, back, across⟩ := List.pairwise_append.mp order
    refine List.pairwise_append.mpr ⟨front, List.pairwise_cons.mpr ⟨fun k hk => ?_, back⟩, fun k hk m hm => ?_⟩
    · obtain ⟨y, hy, rfl⟩ := List.mem_map.mp hk
      exact later y hy
    · obtain rfl | hm := List.mem_cons.mp hm
      · obtain ⟨y, hy, rfl⟩ := List.mem_map.mp hk
        exact low y hy
      · exact across k hk m hm
  · rw [perm.length_eq]
    exact room
  · have a := count .A
    have b := count .B
    rw [a, b]
    cases p with
    | A => exact ⟨quota, quotaB⟩
    | B => exact ⟨quotaA, quota⟩
  · refine (perm.pairwise_iff fun h k => h ⟨k.1.symm, k.2.symm⟩).mpr (List.pairwise_cons.mpr ⟨fun y hy same => ?_, distinct⟩)
    exact others y hy ⟨same.1.symm, same.2.symm⟩

/-- Every event keeps the calendar's bounds. -/
theorem calendarBounded_eventKeeps : EventKeeps (fun s t => CalendarBounded s → CalendarBounded t) := by
  have work : WorkKeeps (fun s t => CalendarBounded s → CalendarBounded t) :=
    (entries_workKeeps (Q := fun _ _ _ => True) (fun _ _ => trivial) (fun _ _ => trivial) fun _ _ _ _ => trivial).imp
      (fun _ => id) (fun h k hs => k (h hs)) fun h => .of_sublist h.2.1 (by rw [h.1.2.1]) (by rw [h.1.2.1])
  have same {s t : State} (calendar : t.calendar = s.calendar) (layout : t.settings.layout = s.settings.layout)
      (quota : t.settings.quota = s.settings.quota) : CalendarBounded s → CalendarBounded t :=
    .of_sublist (by rw [calendar]) layout quota
  refine .of_work work (fun {s t} h => ?_) (fun s g => same rfl rfl rfl) (fun s v layout quota => same rfl layout quota)
    (fun s leaves => same rfl rfl rfl) (fun s => ?_) (fun s p h => ?_) (fun s p tag a x c passes => ?_) fun s p => ?_
  · exact same (h .calendar (by decide)) (by rw [h .settings (by decide)]) (by rw [h .settings (by decide)])
  · refine .of_sublist ?_ rfl rfl
    rw [List.map_map]
    exact List.Sublist.refl _
  · exact .of_sublist (List.filter_sublist.map _) rfl rfl
  · exact State.joined_calendarBounded passes tag x c
  · exact .of_sublist (List.filter_sublist.map _) rfl rfl

end Sys2Proof.Machine
end

section
/-! PROOFS. Start-up leaves every block but those it loads as it starts; an entry that has started has its sequence, and
the field-pending lists stay within their bound (R62, R64, R113). -/

namespace Sys2Proof.Machine

/-! ### Start-up, block by block -/

/-- The blocks that loading the store writes (R185). -/
def loadedBlocks : List Block := [.settings, .store, .faults, .ports, .roster, .groups, .fPlan, .levels]

theorem State.loadSettings_within (s : State) : Within [.settings, .store, .faults, .ports] s s.loadSettings := by
  unfold State.loadSettings
  split
  · intro b hb
    cases b <;> first | rfl | exact absurd (by decide) hb
  · refine Within.then (bs := [.settings]) ?_ (State.post_fault _ _).within (by decide)
    intro b hb
    cases b <;> first | rfl | exact absurd (by decide) hb

theorem State.loadRoster_within (s : State) : Within [.roster, .groups, .store, .faults, .ports] s s.loadRoster := by
  unfold State.loadRoster
  split
  · rename_i v _
    have loaded : Within [.roster, .groups, .store] s
        { s with
          roster := v.roster s.rosterCapacity, groups := groupsFrom v.counters
          store := { s.store with rosterValid := true } } := by
      intro b hb
      cases b <;> first | rfl | exact absurd (by decide) hb
    dsimp only
    split
    · exact loaded.then (State.post_fault _ _).within (by decide)
    · exact loaded.mono (by decide)
  · exact (s.post_fault _).within.mono (by decide)

theorem State.figureAll_within (s : State) : Within [.groups] s s.figureAll := by
  refine foldl_frame (Within [.groups]) (Within.refl _) (fun h k => h.trans k) State.refigure (fun t g => ?_) _ s
  intro b hb
  cases b <;> first | rfl | exact absurd (by decide) hb

theorem State.applySettings_within (s : State) : Within [.fPlan, .levels] s s.applySettings := by
  intro b hb
  cases b <;> first | rfl | exact absurd (by decide) hb

/-- Start-up leaves every block but those it loads at its start-up value (R185). -/
theorem State.startUp_rest (s : State) (a b : Bool) (f : FaultRec) :
    Within loadedBlocks (s.starting (s.store.atStart a b) f) (s.startUp a b f) := by
  have settings := (s.starting (s.store.atStart a b) f).loadSettings_within
  have roster := settings.then (State.loadRoster_within _) (ds := loadedBlocks) (by decide)
  exact (roster.then (State.figureAll_within _) (ds := loadedBlocks) (by decide)).then (State.applySettings_within _)
    (by decide)

theorem State.startUp_calendar (s : State) (a b : Bool) (f : FaultRec) : (s.startUp a b f).calendar = [] :=
  s.startUp_rest a b f .calendar (by decide)

theorem CalendarBounded.of_empty {s : State} (empty : s.calendar = []) : CalendarBounded s := by
  unfold CalendarBounded State.liveCount
  rw [empty]
  simp

/-! ### What the arbiter's choice of a part says (R61, R62) -/

theorem mem_of_earliestFirst {ph : Phase} {es : List Entry} {e : Entry} (h : earliestFirst ph es = some e) : e ∈ es := by
  have kept (l : List Entry) : ∀ best, l.foldl (fun best e =>
      match best with
      | none => some e
      | some b => if (e.parts.get ph).ls < (b.parts.get ph).ls then some e else best) best = some e →
      best = some e ∨ e ∈ l := by
    induction l with
    | nil => exact fun best h => .inl h
    | cons x rest ih =>
        intro best h
        obtain found | found := ih _ h
        · cases best with
          | none => exact .inr (by simpa using Or.inl (Option.some.inj found).symm)
          | some b =>
              dsimp only at found
              split at found
              · exact .inr (by simpa using Or.inl (Option.some.inj found).symm)
              · exact .inl found
        · exact .inr (List.mem_cons_of_mem _ found)
  obtain none | found := kept es none h
  · cases none
  · exact found

/-- A candidate of a class is a READY part of the calendar that can start. -/
theorem State.mem_candidates {s : State} {ph : Phase} {c : EntryClass} {due : Bool} {now : Nat} {e : Entry} :
    e ∈ s.candidates ph c due now ↔ e ∈ s.calendar ∧ e.cls = c ∧ (e.parts.get ph).state = .ready ∧
      (if due then (e.parts.get ph).ls ≤ now else (e.parts.get ph).es ≤ now ∧ now < (e.parts.get ph).ls) ∧
      s.canStart e now = true := by
  unfold State.candidates
  rw [List.mem_filter]
  cases due <;> simp [and_assoc]

/-- The part that the arbiter chooses is a candidate of one of its four classes (R61). -/
theorem State.choose_part {s : State} {ph : Phase} {h : Nat} (chosen : s.choose ph = some (.part h)) :
    ∃ c due e, earliestFirst ph (s.candidates ph c due (s.crossingNow ph)) = some e ∧ e.handle = h := by
  unfold State.choose at chosen
  simp only [Option.or_eq_some_iff, Option.map_eq_some_iff] at chosen
  have other (o : Option Choice) (apart : o = some (.part h) → False) (same : o = some (.part h)) :
    ∃ c due e, earliestFirst ph (s.candidates ph c due (s.crossingNow ph)) = some e ∧ e.handle = h := (apart same).elim
  rcases chosen with ⟨e, found, same⟩ | ⟨-, ⟨k, -, same⟩ | ⟨-, ⟨e, found, same⟩ | ⟨-, ⟨e, found, same⟩ |
    ⟨-, ⟨e, found, same⟩ | ⟨-, ⟨e, -, same⟩ | ⟨-, same | ⟨-, same⟩⟩⟩⟩⟩⟩⟩
  · exact ⟨_, _, e, found, by cases same; rfl⟩
  · cases same
  · exact ⟨_, _, e, found, by cases same; rfl⟩
  · exact ⟨_, _, e, found, by cases same; rfl⟩
  · exact ⟨_, _, e, found, by cases same; rfl⟩
  · cases same
  · split at same <;> cases same
  · unfold State.discoveryWork at same
    dsimp only at same
    split_ifs at same <;> cases same

/-- A part that starts is a READY part of an entry that R62 lets start. -/
theorem State.chosen_part {s : State} {ph : Phase} {h : Nat} (chosen : s.choose ph = some (.part h)) :
    ∃ e ∈ s.calendar, e.handle = h ∧ (e.parts.get ph).state = .ready ∧ s.canStart e (s.crossingNow ph) = true := by
  obtain ⟨c, due, e, found, handle⟩ := State.choose_part chosen
  obtain ⟨mem, -, ready, -, able⟩ := State.mem_candidates.mp (mem_of_earliestFirst found)
  exact ⟨e, mem, handle, ready, able⟩

theorem State.canStart_iff (s : State) (e : Entry) (now : Nat) :
    s.canStart e now = true ↔
      (∀ o ∈ s.calendar, o.handle ≠ e.handle → o.group = e.group → o.locks = false) ∧
        ((s.group e.group).fieldPending.length < 4 ∨ e.state = .sending) ∧ now < e.cutOff * 1000 := by
  unfold State.canStart
  simp only [Bool.and_eq_true, Bool.or_eq_true, decide_eq_true_eq, Bool.not_eq_true',
    List.any_eq_false, bne_iff_ne, beq_iff_eq, not_and, and_assoc, Bool.not_eq_true, ne_eq]
  rfl

/-! ### Sequences and field-pending lists (R62, R64, R113) -/

/-- An entry that has started has its sequence (R64). -/
def Entry.sequenced (e : Entry) : Prop := e.anyStarted = true → e.sequence.isSome = true

theorem Entry.anyStarted_modPart (e : Entry) (ph : Phase) (f : Part → Part) (h : ∀ p, (f p).start = p.start) :
    (e.modPart ph f).anyStarted = e.anyStarted := by
  cases ph <;> simp [Entry.anyStarted, Entry.modPart, Tri.toList, Tri.set, Tri.get, h]

theorem Entry.Change.sequenced {plan : PlanOf} {e x : Entry} (change : Entry.Change plan e x) (h : e.sequenced) :
    x.sequenced := by
  have same {y : Entry} (started : y.anyStarted = e.anyStarted) (sequence : y.sequence = e.sequence) : y.sequenced := by
    unfold Entry.sequenced
    rw [started, sequence]
    exact h
  cases change with
  | noted _ f noted =>
      rw [noted e]
      exact same rfl rfl
  | retired => exact same rfl rfl
  | replanned s =>
      refine same ?_ rfl
      have each (ph : Phase) : ((s.replanned e).parts.get ph).start = (e.parts.get ph).start := by
        have part : (s.replanned e).parts.get ph =
            if (e.parts.get ph).unstarted then (e.parts.get ph).replan (s.plan e.group e.cls e.activation ph)
            else e.parts.get ph := by
          cases ph <;> rfl
        rw [part]
        split <;> rfl
      have l1 := each .L1
      have l2 := each .L2
      have l3 := each .L3
      simp only [Tri.get] at l1 l2 l3
      simp only [Entry.anyStarted, Tri.toList, List.any_cons, l1, l2, l3]
  | begun _ q => exact fun _ => rfl
  | started _ ph now begun => exact fun _ => begun
  | finished | ready | waiting | resumed | suspended | sent => exact same (Entry.anyStarted_modPart e _ _ fun _ => rfl) rfl

/-- An entry that has not started is not SENDING. -/
theorem Entry.anyStarted_of_sending {e : Entry} (h : e.state = .sending) : e.anyStarted = true := by
  unfold Entry.state at h
  split_ifs at h with h1 h2 h3 h4 h5 <;> first | exact h4 | cases h

theorem mem_insertActivation {a b : Nat} {l : List Nat} : b ∈ insertActivation a l ↔ b = a ∨ b ∈ l := by
  induction l with
  | nil => simp [insertActivation]
  | cons c rest ih =>
      unfold insertActivation
      split
      · rw [List.mem_cons, List.mem_cons, ih]
        tauto
      · rw [List.mem_cons]

theorem insertActivation_length (a : Nat) (l : List Nat) : (insertActivation a l).length = l.length + 1 := by
  induction l with
  | nil => rfl
  | cons c rest ih =>
      unfold insertActivation
      split
      · rw [List.length_cons, ih, List.length_cons]
      · rfl

theorem insertActivation_pairwise (a : Nat) {l : List Nat} (h : l.Pairwise (· ≤ ·)) :
    (insertActivation a l).Pairwise (· ≤ ·) := by
  induction l with
  | nil => simp [insertActivation]
  | cons c rest ih =>
      obtain ⟨low, rest_ordered⟩ := List.pairwise_cons.mp h
      unfold insertActivation
      split
      · rename_i before
        refine List.pairwise_cons.mpr ⟨fun b hb => ?_, ih rest_ordered⟩
        obtain rfl | hb := mem_insertActivation.mp hb
        · exact before
        · exact low b hb
      · rename_i after
        refine List.pairwise_cons.mpr ⟨fun b hb => ?_, h⟩
        obtain rfl | hb := List.mem_cons.mp hb
        · omega
        · have := low b hb
          omega

/-- The handles, the sequences and the field-pending lists of the work lists' bounds. -/
def SequencesBounded (s : State) : Prop :=
  s.handles.Nodup ∧ (∀ e ∈ s.calendar, e.sequenced) ∧ ∀ g ∈ s.groups, g.fieldBounded

/-- The relation between entries under which the sequences stay. -/
abbrev Sequenced (_ : PlanOf) (e x : Entry) : Prop := e.sequenced → x.sequenced

theorem SequencesBounded.of_follows {s t : State} {P : PlanOf} (follows : Follows (Sequenced P) s t)
    (groups : ∀ g ∈ t.groups, ∃ k ∈ s.groups, k.fieldBounded → g.fieldBounded) (h : SequencesBounded s) :
    SequencesBounded t := by
  obtain ⟨nodup, sequenced, field⟩ := h
  refine ⟨follows.nodup nodup, fun x hx => ?_, fun g hg => ?_⟩
  · obtain ⟨e, he, -, change⟩ := follows.2 nodup x hx
    exact change (sequenced e he)
  · obtain ⟨k, hk, change⟩ := groups g hg
    exact change (field k hk)

theorem SequencesBounded.of_same {s t : State} {P : PlanOf} (follows : Follows (Sequenced P) s t)
    (groups : t.groups = s.groups) : SequencesBounded s → SequencesBounded t :=
  .of_follows follows fun g hg => ⟨g, groups ▸ hg, id⟩

theorem State.modGroup_mem {s : State} {g : Nat} {f : GroupRec → GroupRec} {r : GroupRec}
    (h : r ∈ (s.modGroup g f).groups) : r ∈ s.groups ∨ (s.group g ∈ s.groups ∧ r = f (s.group g)) := by
  unfold State.modGroup at h
  dsimp only at h
  by_cases inside : g < s.groups.length
  · obtain h | h := List.mem_or_eq_of_mem_set h
    · exact .inl h
    · refine .inr ⟨?_, h⟩
      unfold State.group
      rw [List.getD_eq_getElem _ _ inside]
      exact List.getElem_mem inside
  · rw [List.set_eq_of_length_le (Nat.not_lt.mp inside)] at h
    exact .inl h

/-- Every event keeps the sequences and the field-pending lists within their bounds. -/
theorem sequencesBounded_eventKeeps : EventKeeps (fun s t => SequencesBounded s → SequencesBounded t) := by
  have refl (P : PlanOf) (e : Entry) : Sequenced P e e := id
  have change (P : PlanOf) (e x : Entry) (h : Entry.Change P e x) : Sequenced P e x := h.sequenced
  have entries := (entries_workKeeps refl (fun h k hs => k (h hs)) change).toFreeKeeps.and
    (FreeKeeps.of_frame (R := fun s t => t.groups = s.groups) (fun _ => rfl) (fun h k => k.trans h)
      fun s t h => h.within .groups (by decide))
  have cal : FreeKeeps (fun s t => SequencesBounded s → SequencesBounded t) :=
    entries.imp (fun _ => id) (fun h k hs => k (h hs)) fun h => .of_same h.1.2 h.2
  have modEntry (s : State) (h : Nat) {f : Entry → Entry} (fixed : ∀ e, (f e).fixed = e.fixed)
      (by_change : s.handles.Nodup → ∀ e, s.entry? h = some e → Entry.Change s.plan e (f e)) :
      SequencesBounded s → SequencesBounded (s.modEntry h f) :=
    .of_same (KeepsEntries.modEntry refl change s h fixed by_change).2 rfl
  have same {s t : State} (calendar : t.calendar = s.calendar) (groups : t.groups = s.groups) :
      SequencesBounded s → SequencesBounded t := .of_same (.of_same (refl s.plan) calendar) groups
  have work : WorkKeeps (fun s t => SequencesBounded s → SequencesBounded t) := by
    refine WorkSteps.keeps (.of_aside cal.toFreeEdits (fun h => same (h .calendar (by decide)) (h .groups (by decide)))
      ?_ ?_ ?_ ?_ ?_) cal
    · rintro s h ph e chosen found unsent bounded
      obtain ⟨x, hx, handle, -, able⟩ := State.chosen_part chosen
      cases Option.some.inj ((handle ▸ State.entry?_of_mem bounded.1 hx).symm.trans found)
      have room : (s.group e.group).fieldPending.length < 4 := by
        obtain ⟨-, room | sending, -⟩ := (State.canStart_iff s e _).mp able
        · exact room
        · have begun := bounded.2.1 e hx (Entry.anyStarted_of_sending sending)
          rw [unsent] at begun
          cases begun
      have follows : Follows (Sequenced s.plan) s (s.beginSending e) :=
        .trans (fun h k hs => k (h hs)) (.modEntry (refl s.plan) e.handle
          (f := fun x => { x with sequence := some ((s.group e.group).sequence + 1) }) (fun _ => rfl) fun _ x _ =>
          change s.plan x _ (.begun x _)) (.of_same (refl s.plan) (s.beginSending_calendar e))
      obtain ⟨nodup, sequenced, field⟩ := bounded
      refine ⟨follows.nodup nodup, fun y hy => ?_, fun g hg => ?_⟩
      · obtain ⟨z, hz, -, keeps⟩ := follows.2 nodup y hy
        exact keeps (sequenced z hz)
      · rw [State.beginSending_groups] at hg
        obtain old | ⟨before, rfl⟩ := State.modGroup_mem hg
        · exact field g old
        · obtain ⟨-, ordered⟩ := field _ before
          dsimp only [GroupRec.fieldBounded]
          split
          · exact field _ before
          · exact ⟨by rw [insertActivation_length]; exact room, insertActivation_pairwise _ ordered⟩
    · exact fun s h ph e now found begun => modEntry s h (fun _ => rfl) fun _ x hx =>
        .started x ph now (by rw [Option.some.inj (hx.symm.trans found)]; exact begun)
    · exact fun s h ph => modEntry s h (fun _ => rfl) fun _ x _ => .resumed x ph
    · exact fun s h ph => modEntry s h (fun _ => rfl) fun _ x _ => .suspended x ph
    · exact fun s h ph => modEntry s h (fun _ => rfl) fun _ x _ => .sent x ph
  refine .of_work work (fun h => same (h .calendar (by decide)) (h .groups (by decide))) (fun s g => ?_)
    (fun s v _ _ => same rfl rfl) (fun s leaves => ?_) (fun s => ?_) (fun s p h => ?_) (fun s p tag a x c passes => ?_)
    fun s p => ?_
  · refine .of_follows (.of_same (refl s.plan) rfl) fun r hr => ?_
    obtain old | ⟨before, rfl⟩ := State.modGroup_mem hr
    · exact ⟨r, old, id⟩
    · exact ⟨_, before, id⟩
  · refine .of_follows (.of_same (refl s.plan) rfl) fun r hr => ?_
    obtain ⟨k, hk, rfl⟩ := List.mem_map.mp hr
    exact ⟨k, hk, fun ⟨few, ordered⟩ => ⟨(List.length_filter_le _ _).trans few, ordered.sublist List.filter_sublist⟩⟩
  · refine .of_same (P := s.plan) ⟨?_, fun _ x hx => ?_⟩ rfl
    · rw [List.map_map]
      exact List.Sublist.refl _
    · obtain ⟨e, he, rfl⟩ := List.mem_map.mp hx
      exact ⟨e, he, rfl, fun h => h⟩
  · exact .of_same (.filter (p := fun e => e.handle != h) (refl s.plan) rfl) rfl
  · intro bounded
    obtain ⟨nodup, sequenced, field⟩ := bounded
    refine ⟨State.joined_nodup nodup (State.assignHandle_fresh (State.room_of_submitRefusal passes).1), fun e he => ?_,
      field⟩
    obtain rfl | he := mem_insertEntry.mp he
    · exact fun started => nomatch started
    · exact sequenced e he
  · exact .of_same (.filter (p := fun e => e.origin != p) (refl s.plan) rfl) rfl

end Sys2Proof.Machine
end

section
/-! PROOFS. The lists of work stay within their bounds at every step (R90, R117, R123, R126). -/

namespace Sys2Proof.Machine

/-! ### The place a registration list has beside the work in progress -/

/-- The registration records that may wait beside a piece of work: fewer while one is in flight, and none before the
windows of a probe that find them (R126). -/
def Work.listRoom : Work → Nat
  | .probe r => r.next
  | .exchange x => if x.owner = .registration then 3 else 4
  | .flood _ => 4

def listRoom (w : Option Work) : Nat := w.elim 4 Work.listRoom

/-- A probe's window in progress is one of its four. -/
def windowFits : Option Work → Prop
  | some (.probe r) => r.next ≤ 3
  | _ => True

theorem Discovery.bounded_iff (d : Discovery) (w : Option Work) :
    d.bounded w ↔ d.stack.length ≤ 8 ∧ windowFits w ∧ d.registration.length ≤ listRoom w := by
  unfold Discovery.bounded
  cases w with
  | none => simp [windowFits, listRoom]
  | some w =>
      cases w with
      | flood f => simp [windowFits, listRoom, Work.listRoom]
      | probe r => simp [windowFits, listRoom, Work.listRoom]
      | exchange x =>
          by_cases owner : x.owner = .registration <;> simp [windowFits, listRoom, Work.listRoom, owner]
          omega

theorem listRoom_le {w : Option Work} (fits : windowFits w) : listRoom w ≤ 4 := by
  cases w with
  | none => exact Nat.le_refl 4
  | some w =>
      cases w with
      | flood f => exact Nat.le_refl 4
      | probe r => exact Nat.le_succ_of_le fits
      | exchange x =>
          unfold listRoom Option.elim Work.listRoom
          dsimp only
          split <;> omega

section
variable {d e : Discovery} {w v : Option Work}

/-- Fewer records and filters, beside work that leaves at least as many places. -/
theorem Discovery.bounded_of_le (h : d.bounded w) (stack : d.stack.length ≤ 8 → e.stack.length ≤ 8)
    (registration : e.registration.length ≤ d.registration.length)
    (room : windowFits w → windowFits v ∧ listRoom w ≤ listRoom v) : e.bounded v := by
  obtain ⟨few, fits, records⟩ := (Discovery.bounded_iff d w).mp h
  obtain ⟨fits', more⟩ := room fits
  exact (Discovery.bounded_iff e v).mpr ⟨stack few, fits', registration.trans (records.trans more)⟩

/-- Work of four places takes over. -/
theorem Discovery.bounded_of_free (h : d.bounded w) (fits : windowFits v) (room : listRoom v = 4) : d.bounded v :=
  Discovery.bounded_of_le h id (Nat.le_refl _) fun before => ⟨fits, room ▸ listRoom_le before⟩

end

/-! ### The lists of a state -/

/-- The ping queues, the split stacks and the registration lists within their bounds (R90, R117, R126). -/
def ListsBounded (s : State) : Prop := ∀ ph, (s.pingQueue ph).length ≤ 8 ∧ (s.disc ph).bounded (s.chan ph).work

theorem workBounded_iff (s : State) : WorkBounded s ↔ SequencesBounded s ∧ ListsBounded s := by
  constructor
  · rintro ⟨nodup, sequenced, field, ⟨p1, p2, p3⟩, d1, d2, d3⟩
    refine ⟨⟨nodup, sequenced, field⟩, fun ph => ?_⟩
    cases ph with
    | L1 => exact ⟨p1, d1⟩
    | L2 => exact ⟨p2, d2⟩
    | L3 => exact ⟨p3, d3⟩
  · rintro ⟨⟨nodup, sequenced, field⟩, lists⟩
    exact ⟨nodup, sequenced, field, ⟨(lists .L1).1, (lists .L2).1, (lists .L3).1⟩, (lists .L1).2, (lists .L2).2,
      (lists .L3).2⟩

/-- The lists' bounds are kept. -/
abbrev KeepsLists (s t : State) : Prop := ListsBounded s → ListsBounded t

section
variable {s t : State} {ph : Phase}

theorem KeepsLists.of_phases (h : ∀ ph, ((s.pingQueue ph).length ≤ 8 → (t.pingQueue ph).length ≤ 8) ∧
    ((s.disc ph).bounded (s.chan ph).work → (t.disc ph).bounded (t.chan ph).work)) : KeepsLists s t :=
  fun lists ph => ⟨(h ph).1 (lists ph).1, (h ph).2 (lists ph).2⟩

theorem KeepsLists.of_within {bs : List Block} (h : Within bs s t)
    (apart : Block.pings ∉ bs ∧ Block.discovery ∉ bs ∧ Block.channels ∉ bs) : KeepsLists s t := by
  refine .of_phases fun ph => ?_
  unfold State.pingQueue State.disc State.chan
  rw [h .pings apart.1, h .discovery apart.2.1, h .channels apart.2.2]
  exact ⟨id, id⟩

theorem KeepsLists.modPings (f : List PingRec → List PingRec)
    (h : (s.pingQueue ph).length ≤ 8 → (f (s.pingQueue ph)).length ≤ 8) : KeepsLists s (s.modPings ph f) := by
  refine .of_phases fun k => ⟨?_, id⟩
  by_cases here : k = ph
  · subst here
    rw [State.pingQueue_modPings_self]
    exact h
  · rw [State.pingQueue_modPings_ne _ _ here]
    exact id

theorem KeepsLists.modDisc (f : Discovery → Discovery)
    (h : (s.disc ph).bounded (s.chan ph).work → (f (s.disc ph)).bounded (s.chan ph).work) :
    KeepsLists s (s.modDisc ph f) := by
  refine .of_phases fun k => ⟨id, ?_⟩
  change (s.disc k).bounded (s.chan k).work → ((s.modDisc ph f).disc k).bounded (s.chan k).work
  by_cases here : k = ph
  · subst here
    rw [State.disc_modDisc_self]
    exact h
  · rw [State.disc_modDisc_ne _ _ here]
    exact id

theorem KeepsLists.modChan (f : Channel → Channel)
    (h : (s.disc ph).bounded (s.chan ph).work → (s.disc ph).bounded (f (s.chan ph)).work) :
    KeepsLists s (s.modChan ph f) := by
  refine .of_phases fun k => ⟨id, ?_⟩
  change (s.disc k).bounded (s.chan k).work → (s.disc k).bounded ((s.modChan ph f).chan k).work
  by_cases here : k = ph
  · subst here
    rw [State.chan_modChan_self]
    exact h
  · rw [State.chan_modChan_ne _ _ here]
    exact id

/-- A channel's work is taken off, or goes on. -/
theorem KeepsLists.modChan_work (f : Channel → Channel) (h : (f (s.chan ph)).work = (s.chan ph).work) :
    KeepsLists s (s.modChan ph f) := .modChan f fun bounded => h ▸ bounded

theorem KeepsLists.modChan_free (f : Channel → Channel) (h : (f (s.chan ph)).work = none) :
    KeepsLists s (s.modChan ph f) :=
  .modChan f fun bounded => by
    rw [h]
    exact Discovery.bounded_of_free bounded trivial rfl

theorem KeepsLists.transmit (w : Work) (h : (s.disc ph).bounded (s.chan ph).work → (s.disc ph).bounded (some w)) :
    KeepsLists s (s.transmit ph w) :=
  fun lists => KeepsLists.of_within (State.modLevel_within _ ph _) (by decide) (KeepsLists.modChan _ h lists)

theorem KeepsLists.sendRepeat (h : Nat) : KeepsLists s (s.sendRepeat h ph) := by
  unfold State.sendRepeat
  split
  · exact .transmit _ fun bounded => Discovery.bounded_of_free bounded trivial rfl
  · exact id

end

theorem setInFlight_length (st : PingState) (q : List PingRec) : (setInFlight st q).length = q.length := by
  induction q with
  | nil => rfl
  | cons r rest ih =>
      unfold setInFlight
      split
      · rfl
      · rw [List.length_cons, ih, List.length_cons]

theorem setOldestQueued_length (st : PingState) (q : List PingRec) : (setOldestQueued st q).length = q.length := by
  induction q with
  | nil => rfl
  | cons r rest ih =>
      unfold setOldestQueued
      split
      · rfl
      · rw [List.length_cons, ih, List.length_cons]

theorem dropPings_length (p : Port) (q : List PingRec) : (dropPings p q).length ≤ q.length := by
  rw [dropPings, List.length_map]
  exact List.length_filter_le _ _

theorem eraseP_length_le {α : Type} (p : α → Bool) (l : List α) : (l.eraseP p).length ≤ l.length :=
  List.eraseP_sublist.length_le

section
variable (s : State) (ph : Phase)

theorem State.offerHeld_ping_lists (p : Port) (k : Phase) : KeepsLists s (s.offerHeld p (.ping k)) := by
  obtain h | h | ⟨i, -, h⟩ := s.offerHeld_cases p (.ping k) <;> rw [h]
  · exact .of_within (State.modPort_ports s p _).within (by decide)
  · exact id
  · refine fun lists => KeepsLists.modPings _ (fun few => (eraseP_length_le _ _).trans few) ?_
    exact KeepsLists.of_within (State.pushItem_ports s p i).within (by decide) lists

theorem State.completeQueued_lists (r : PingResult) : KeepsLists s (s.completeQueued ph r) := by
  unfold State.completeQueued
  split
  · exact fun lists => State.offerHeld_ping_lists _ _ ph
      (KeepsLists.modPings _ (fun few => (setOldestQueued_length _ _).le.trans few) lists)
  · exact id

theorem State.completeInFlight_lists (r : PingResult) : KeepsLists s (s.completeInFlight ph r) := by
  unfold State.completeInFlight
  split
  · split
    · exact .modPings _ fun few => (eraseP_length_le _ _).trans few
    · exact fun lists => State.offerHeld_ping_lists _ _ ph
        (KeepsLists.modPings _ (fun few => (setInFlight_length _ _).le.trans few) lists)
  · exact id

theorem State.requeueInFlight_lists : KeepsLists s (s.requeueInFlight ph) := by
  unfold State.requeueInFlight
  split
  · split
    · exact .modPings _ fun few => (eraseP_length_le _ _).trans few
    · exact .modPings _ fun few => (setInFlight_length _ _).le.trans few
  · exact id

theorem State.advanceOrigin_lists (empty : (s.disc ph).stack = []) : KeepsLists s (s.advanceOrigin ph) := by
  unfold State.advanceOrigin
  dsimp only
  split
  · refine .modDisc _ fun bounded => Discovery.bounded_of_le bounded (fun _ => ?_) (Nat.le_refl _) fun fits => ⟨fits, Nat.le_refl _⟩
    rw [empty]
    exact Nat.one_le_ofNat
  · exact .modDisc _ fun bounded => Discovery.bounded_of_le bounded id (Nat.le_refl _) fun fits => ⟨fits, Nat.le_refl _⟩

/-- An exchange starts beside records that leave it its place. -/
theorem State.startExchange_lists (owner : ExchangeOwner) (k : ExchangeFrame) (e : Option Entry) (i : Nat) (u : UnitRec)
    (room : (s.disc ph).bounded (s.chan ph).work →
      (s.disc ph).registration.length + (if owner = .registration then 1 else 0) ≤ 4) :
    KeepsLists s (s.startExchange ph owner k e i u) :=
  .transmit _ fun bounded => ⟨bounded.1, room bounded⟩

theorem Discovery.registration_le {d : Discovery} {w : Option Work} (h : d.bounded w) : d.registration.length ≤ 4 := by
  obtain ⟨-, fits, records⟩ := (Discovery.bounded_iff d w).mp h
  exact records.trans (listRoom_le fits)

/-- A probe is chosen only where no registration record waits (R120). -/
theorem State.choose_probe (chosen : s.choose ph = some .probe) : (s.disc ph).registration = [] := by
  unfold State.choose at chosen
  simp only [Option.or_eq_some_iff, Option.map_eq_some_iff] at chosen
  rcases chosen with ⟨e, -, same⟩ | ⟨-, ⟨k, -, same⟩ | ⟨-, ⟨e, -, same⟩ | ⟨-, ⟨e, -, same⟩ | ⟨-, ⟨e, -, same⟩ |
    ⟨-, ⟨e, -, same⟩ | ⟨-, same | ⟨-, same⟩⟩⟩⟩⟩⟩⟩
  all_goals try cases same
  · split at same <;> cases same
  · unfold State.discoveryWork at same
    dsimp only at same
    split_ifs at same with waits probing
    · cases same
    · simpa using waits

theorem Starts.lists {s t : State} {ph : Phase} {c : Choice} (chosen : s.choose ph = some c) (h : Starts s ph c t) :
    KeepsLists s t := by
  cases h with
  | part h =>
      unfold State.startPart
      split
      · rename_i e _
        have begun : KeepsLists s (if e.sequence.isNone then s.beginSending e else s) := by
          split
          · refine .of_within (bs := [.ports, .calendar, .groups]) ?_ (by decide)
            refine Within.then (bs := [.calendar, .groups]) ?_ (State.offer_within _ _ _) (by decide)
            intro b hb
            cases b <;> first | rfl | exact absurd (by decide) hb
          · exact id
        refine fun lists => KeepsLists.sendRepeat h (KeepsLists.modChan_work _ rfl ?_)
        exact begun lists
      · exact id
  | resume h => exact fun lists => KeepsLists.sendRepeat h (KeepsLists.modChan_work _ rfl lists)
  | confirm =>
      exact State.startExchange_lists s ph _ _ _ _ _ fun bounded => by
        simpa using Discovery.registration_le bounded
  | ping =>
      refine fun lists => State.startExchange_lists _ ph _ _ _ _ _ (fun bounded => ?_)
        (KeepsLists.modPings _ (fun few => (setOldestQueued_length _ _).le.trans few) lists)
      simpa using Discovery.registration_le bounded
  | registration i a rest u list =>
      have shrunk : (s.disc ph).bounded (s.chan ph).work → rest.length + 1 ≤ 4 := by
        intro bounded
        have := Discovery.registration_le bounded
        rwa [list] at this
      intro lists
      refine State.startExchange_lists _ ph _ _ _ _ _ (fun _ => ?_) (KeepsLists.modDisc _ (fun bounded => ?_) lists)
      · rw [State.disc_modDisc_self]
        exact shrunk (lists ph).2
      · refine Discovery.bounded_of_le bounded id ?_ fun fits => ⟨fits, Nat.le_refl _⟩
        rw [list]
        exact Nat.le_succ _
  | probe f rest o route stack =>
      have empty := s.choose_probe ph chosen
      intro lists
      refine KeepsLists.transmit _ (fun bounded => ?_) (KeepsLists.modDisc _ (fun bounded => ?_) lists)
      · refine ⟨bounded.1, Nat.zero_le _, ?_⟩
        rw [State.disc_modDisc_self]
        exact (congrArg List.length empty).le
      · refine Discovery.bounded_of_le bounded (fun few => ?_) (Nat.le_refl _) fun fits => ⟨fits, Nat.le_refl _⟩
        exact (List.tail_sublist _).length_le.trans few

end

/-! ### The calendar's operations and the channels' work -/

theorem State.modEntry_within (s : State) (h : Nat) (f : Entry → Entry) : Within [.calendar] s (s.modEntry h f) := by
  intro b hb
  cases b <;> first | rfl | exact absurd (by decide) hb

/-- A relation that the ports, the calendar and the retirement queues say nothing to holds over the calendar's operations
once a channel may give up a part. -/
theorem FreeKeeps.of_blind {R : State → State → Prop} (refl : ∀ s, R s s) (trans : ∀ {s t u}, R s t → R t u → R s u)
    (blind : ∀ {s t}, Within [.ports, .calendar, .retirement] s t → R s t)
    (giveUp : ∀ s ph h, R s (s.modChan ph (·.giveUp h))) : FreeKeeps R where
  refl := refl
  trans := trans
  offer s p k c := blind (s.offer_ports p _).cal.within
  join s h := blind (s.joinRetirement_cal h).within
  noteAny s h f _ := blind ((s.modEntry_within h f).mono (by decide))
  decideAny s h := blind ((s.modEntry_within h _).mono (by decide))
  finishAny s h ph f b := blind ((s.modEntry_within h _).mono (by decide))
  ready s h ph e _ _ := blind ((s.modEntry_within h _).mono (by decide))
  wait s h ph e _ _ := blind ((s.modEntry_within h _).mono (by decide))
  replan s h := blind ((s.modEntry_within h _).mono (by decide))
  giveUp := giveUp

theorem Channel.giveUp_work (c : Channel) (h : Nat) : (c.giveUp h).work = c.work := by
  unfold Channel.giveUp
  dsimp only
  split_ifs <;> rfl

theorem lists_calKeeps : FreeKeeps KeepsLists :=
  .of_blind (fun _ => id) (fun h k lists => k (h lists)) (fun h => .of_within h (by decide))
    fun _ _ h => .modChan_work _ (Channel.giveUp_work _ h)

theorem lists_workKeeps : WorkKeeps KeepsLists where
  toFreeKeeps := lists_calKeeps
  post s f := .of_within (s.post_fault f).within (by decide)
  settleLine s := .of_within s.settleLine_within (by decide)
  markQuiet s ph := .modChan_work _ rfl
  clearWork s ph := .modChan_free _ rfl
  halted s ph := .modChan_free _ rfl
  silent s ph := s.completeQueued_lists ph _
  unregister s ph := .modDisc _ fun bounded =>
    Discovery.bounded_of_le bounded id (Nat.zero_le _) fun fits => ⟨fits, Nat.le_refl _⟩
  started s ph c t chosen h := (Starts.of_serve h).lists chosen
  goOn s ph c t _ h := by
    cases GoesOn.of_serve h with
    | idle => exact id
    | notReached => exact lists_calKeeps.trans (lists_calKeeps.decideUnit s _ ph _) (lists_calKeeps.settleConfirm _ _)
    | unconfirmed =>
        exact lists_calKeeps.trans (lists_calKeeps.decideUnconfirmed s _ ph _) (lists_calKeeps.settleConfirm _ _)
    | notSent => exact s.completeQueued_lists ph _
    | discarded i a rest list =>
        refine .modDisc _ fun bounded => Discovery.bounded_of_le bounded id ?_ fun fits => ⟨fits, Nat.le_refl _⟩
        rw [list]
        exact Nat.le_succ _
    | origin =>
        refine fun lists => State.advanceOrigin_lists _ ph ?_ (KeepsLists.modDisc _ (fun bounded => ?_) lists)
        · rw [State.disc_modDisc_self]
        · exact Discovery.bounded_of_le bounded (fun _ => Nat.zero_le _) (Nat.le_refl _) fun fits => ⟨fits, Nat.le_refl _⟩
  suspend s h ph := fun lists => KeepsLists.modChan_work (s := s.modPart h ph _) _ rfl lists
  send s h ph := .sendRepeat h
  floodOff s ph := .modChan_free _ rfl
  sent s h ph f _ _ := fun lists => KeepsLists.modChan_free (s := s) Channel.endFlood rfl lists
  closeOpen s ph := .modChan_work _ rfl
  gap s ph := .modChan_work _ rfl
  absent s ph := .modChan_work _ rfl
  lost s ph := .modChan_free _ rfl
  requeue s ph := s.requeueInFlight_lists ph
  relist s ph x work owner := by
    intro lists
    have bounded := (lists ph).2
    rw [work] at bounded
    have room := bounded.2
    simp only [owner, if_true] at room
    refine KeepsLists.modDisc _ (fun before => ?_) (KeepsLists.modChan_free Channel.lost rfl lists)
    rw [State.chan_modChan_self]
    exact ⟨before.1, room⟩
  restack s ph := by
    refine .modDisc _ fun bounded => ?_
    unfold Discovery.abandonProbe
    split
    · dsimp only
      split_ifs with stopped room
      · exact bounded
      · exact Discovery.bounded_of_le bounded (fun _ => room) (Nat.le_refl _) fun fits => ⟨fits, Nat.le_refl _⟩
      · exact bounded
    · exact bounded
  sample s ph noise := .of_within (s.sampleSlot_within ph noise) (by decide)
  count s ph b := by
    refine .modChan _ fun bounded => Discovery.bounded_of_le bounded id (Nat.le_refl _) fun fits => ?_
    unfold Channel.countCrossing
    dsimp only
    cases work : (s.chan ph).work with
    | none => exact ⟨trivial, Nat.le_refl _⟩
    | some w =>
        rw [work] at fits
        cases w <;> exact ⟨fits, Nat.le_refl _⟩
  inFlight s ph r := s.completeInFlight_lists ph r

/-! ### A probe's windows (R123 to R126) -/

/-- The lists while a window of a probe is read: one more record may stand in its channel's list. -/
def WindowLists (before : State) (ph : Phase) (n : Nat) (s : State) : Prop :=
  ∀ k, (s.chan k).work = (before.chan k).work ∧ (s.pingQueue k).length ≤ 8 ∧ (s.disc k).stack.length ≤ 8 ∧
    (s.disc k).registration.length ≤ if k = ph then n + 1 else listRoom (before.chan k).work

section
variable {s : State} {ph : Phase} {r : ProbeRun}

theorem State.applyWindow_lists (lists : ListsBounded s) (work : (s.chan ph).work = some (.probe r))
    (p : ProbeInFlight) (window : Nat) (w : WindowResult) : WindowLists s ph r.next (s.applyWindow ph p window w) := by
  have start : WindowLists s ph r.next s := by
    intro k
    obtain ⟨few, -, records⟩ := (Discovery.bounded_iff _ _).mp (lists k).2
    refine ⟨rfl, (lists k).1, few, ?_⟩
    split
    · rename_i here
      subst here
      rw [work] at records
      exact Nat.le_succ_of_le records
    · exact records
  have own : (s.disc ph).registration.length ≤ r.next := by
    have records := ((Discovery.bounded_iff _ _).mp (lists ph).2).2.2
    rwa [work] at records
  have blind {bs : List Block} {t u : State} (h : Within bs t u)
      (apart : Block.pings ∉ bs ∧ Block.discovery ∉ bs ∧ Block.channels ∉ bs) :
      WindowLists s ph r.next t → WindowLists s ph r.next u := by
    unfold WindowLists State.pingQueue State.disc State.chan
    rw [h .channels apart.2.2, h .pings apart.1, h .discovery apart.2.1]
    exact id
  have channel (t : State) (f : Discovery → Discovery) (ht : WindowLists s ph r.next t)
      (h : (f (t.disc ph)).stack.length ≤ 8 ∧ (f (t.disc ph)).registration.length ≤ r.next + 1) :
      WindowLists s ph r.next (t.modDisc ph f) := by
    intro k
    obtain ⟨same, few, filters, records⟩ := ht k
    refine ⟨same, few, ?_⟩
    by_cases here : k = ph
    · subst here
      rw [State.disc_modDisc_self, if_pos rfl]
      exact h
    · rw [State.disc_modDisc_ne _ _ here]
      exact ⟨filters, records⟩
  have given : FreeKeeps (fun t u => WindowLists s ph r.next t → WindowLists s ph r.next u) := by
    refine .of_blind (fun _ => id) (fun h k x => k (h x)) (fun h => blind h (by decide)) fun t k h lists q => ?_
    refine ⟨?_, (lists q).2⟩
    by_cases here : q = k
    · subst here
      rw [State.chan_modChan_self, Channel.giveUp_work]
      exact (lists q).1
    · rw [State.chan_modChan_ne _ _ here]
      exact (lists q).1
  refine given.acts.applyWindow (fun h => blind h (by decide)) (fun t g => ?_) (fun t i a _ discovery before => ?_) ?_ start
  · refine blind (bs := [.groups]) ?_ (by decide)
    intro b hb
    cases b <;> first | rfl | exact absurd (by decide) hb
  · unfold State.register
    split
    · exact before
    · refine channel t _ before ⟨(before ph).2.2.1, ?_⟩
      rw [List.length_append, State.disc, discovery]
      exact Nat.succ_le_succ own
  · refine fun before => channel s _ before ?_
    obtain ⟨-, -, filters, records⟩ := before ph
    rw [if_pos rfl] at records
    unfold Discovery.collide
    split_ifs with stopped room
    · exact ⟨filters, records⟩
    · exact ⟨room.2, records⟩
    · exact ⟨filters, records⟩

theorem State.advanceOrigin_clearWork (t : State) (ph : Phase) :
    (t.advanceOrigin ph).clearWork ph = (t.clearWork ph).advanceOrigin ph := by
  unfold State.advanceOrigin
  dsimp only
  have disc : (t.clearWork ph).disc ph = t.disc ph := rfl
  have roster : (t.clearWork ph).roster = t.roster := rfl
  rw [disc, roster]
  cases t.roster.find? (fun x => Origin.next (t.disc ph).origin ≤ x.1 && x.2.originFor ph) <;> rfl

/-- A window of a probe leaves the lists within their bounds. -/
theorem State.endWindow_lists (work : (s.chan ph).work = some (.probe r)) (p : ProbeInFlight) (heard : List WindowFrame) :
    KeepsLists s (s.endWindow ph r p heard) := by
  intro lists
  have fits : r.next ≤ 3 := by
    have := ((Discovery.bounded_iff _ _).mp (lists ph).2).2.1
    rwa [work] at this
  have read := State.applyWindow_lists lists work p r.next (readWindow s.identity.code p.filter r.next r.window heard)
  unfold State.endWindow
  dsimp only
  generalize s.applyWindow ph p r.next (readWindow s.identity.code p.filter r.next r.window heard) = t at read
  have other (k : Phase) (here : k ≠ ph) : (t.pingQueue k).length ≤ 8 ∧ (t.disc k).bounded (t.chan k).work := by
    obtain ⟨same, few, filters, records⟩ := read k
    rw [if_neg here] at records
    refine ⟨few, (Discovery.bounded_iff _ _).mpr ⟨filters, ?_, same ▸ records⟩⟩
    rw [same]
    exact ((Discovery.bounded_iff _ _).mp (lists k).2).2.1
  obtain ⟨-, few, filters, records⟩ := read ph
  rw [if_pos rfl] at records
  split
  · rename_i last
    rw [last] at records
    refine lists_workKeeps.afterWork _ ph ?_
    have cleared : ListsBounded (t.clearWork ph) := by
      intro k
      by_cases here : k = ph
      · subst here
        refine ⟨few, ?_⟩
        rw [State.clearWork, State.chan_modChan_self]
        exact ⟨filters, records⟩
      · rw [State.clearWork, State.chan_modChan_ne _ _ here]
        exact other k here
    have off : ListsBounded ((t.clearWork ph).modDisc ph (fun d => { d with probe := none })) :=
      KeepsLists.modDisc _ (fun bounded =>
        Discovery.bounded_of_le bounded id (Nat.le_refl _) fun fits => ⟨fits, Nat.le_refl _⟩) cleared
    split
    · rename_i searches
      rw [State.advanceOrigin_clearWork]
      exact State.advanceOrigin_lists _ ph searches.2 off
    · exact off
  · rename_i more
    intro k
    by_cases here : k = ph
    · subst here
      refine ⟨few, ?_⟩
      rw [State.chan_modChan_self]
      exact ⟨filters, show r.next + 1 ≤ 3 by omega, records⟩
    · rw [State.chan_modChan_ne _ _ here]
      exact other k here

end

/-! ### Every event -/

theorem Work.orphan_listRoom (w : Work) (owned : Nat → Bool) : (w.orphan owned).listRoom = w.listRoom := by
  cases w with
  | flood | probe => rfl
  | exchange x =>
      unfold Work.orphan Work.listRoom
      dsimp only
      cases owner : x.owner <;> simp [owner]

theorem Work.orphan_fits (w : Work) (owned : Nat → Bool) (fits : windowFits (some w)) :
    windowFits (some (w.orphan owned)) := by
  cases w with
  | flood | probe => exact fits
  | exchange x =>
      unfold Work.orphan
      dsimp only
      cases x.owner <;> trivial

theorem lists_eventKeeps : EventKeeps KeepsLists where
  toCalActs := lists_calKeeps.acts
  unread h := .of_within h (by decide)
  refigure s g := .of_phases fun _ => ⟨id, id⟩
  settings s v _ _ := .of_phases fun _ => ⟨id, id⟩
  dropField s leaves := .of_phases fun _ => ⟨id, id⟩
  timeStep s := .of_phases fun _ => ⟨id, id⟩
  queueHeld s p o := by
    unfold State.queueHeld
    split
    · rename_i i _
      refine fun lists => ?_
      have pushed : ListsBounded (s.pushItem p i) :=
        KeepsLists.of_within (State.pushItem_ports s p i).within (by decide) lists
      cases o with
      | ping ph => exact KeepsLists.modPings _ (fun few => (eraseP_length_le _ _).trans few) pushed
      | outcome | storeDone | survey => exact KeepsLists.of_phases (fun _ => ⟨id, id⟩) pushed
    · exact id
  joined s p tag a x c _ := .of_phases fun _ => ⟨id, id⟩
  runLine s _ := .of_phases fun _ => ⟨id, id⟩
  addHold s p _ := by
    have drained (c : Channel) : c.drain.work = c.work := by
      unfold Channel.drain
      split <;> rfl
    unfold State.addHold
    dsimp only
    split
    · split
      · refine fun lists => KeepsLists.of_within (State.settleLine_within _) (by decide) ?_
        refine KeepsLists.of_phases (s := s) (fun ph => ⟨id, ?_⟩) lists
        cases ph <;> exact fun bounded => (drained _).symm ▸ bounded
      · exact .of_phases fun _ => ⟨id, id⟩
    · exact .of_phases fun _ => ⟨id, id⟩
  releaseHold s p := .of_within (s.releaseHold_within p) (by decide)
  pinged s ph r room := .modPings _ fun _ => by
    rw [List.length_append]
    exact room
  silence s ph := s.completeQueued_lists ph _
  startDiscovery s := by
    have started (d : Discovery) (w : Option Work) (h : d.bounded w) : d.start.bounded w := by
      unfold Discovery.start
      split
      · exact Discovery.bounded_of_le h (fun _ => Nat.one_le_ofNat) (Nat.le_refl _) fun fits => ⟨fits, Nat.le_refl _⟩
      · exact h
    exact .of_phases fun ph => ⟨id, by cases ph <;> exact started _ _⟩
  stopDiscovery s := by
    have stopped (d : Discovery) (w : Option Work) (h : d.bounded w) : d.stop.bounded w := by
      unfold Discovery.stop
      split
      · exact Discovery.bounded_of_le h (fun _ => Nat.zero_le _) (Nat.le_refl _) fun fits => ⟨fits, Nat.le_refl _⟩
      · exact h
      · exact h
    exact .of_phases fun ph => ⟨id, by cases ph <;> exact stopped _ _⟩
  cycle s ph _ := .modDisc _ fun bounded =>
    Discovery.bounded_of_le bounded (fun _ => Nat.one_le_ofNat) (Nat.le_refl _) fun fits => ⟨fits, Nat.le_refl _⟩
  resetOwned s p := by
    have released (d : Discovery) (c : Channel) (owned : Nat → Bool) (h : d.bounded c.work) :
        d.bounded (c.releaseOwned owned).work := by
      have work : (c.releaseOwned owned).work = c.work.map (Work.orphan owned) := by
        unfold Channel.releaseOwned
        dsimp only
        split_ifs <;> rfl
      rw [work]
      refine Discovery.bounded_of_le h id (Nat.le_refl _) fun fits => ?_
      cases running : c.work with
      | none => exact ⟨trivial, Nat.le_refl _⟩
      | some w =>
          rw [running] at fits
          exact ⟨w.orphan_fits owned fits, (w.orphan_listRoom owned).ge⟩
    refine .of_phases fun ph => ⟨fun few => ?_, ?_⟩
    · cases ph <;> exact (dropPings_length p _).trans few
    · cases ph <;> exact released _ _ _
  crossing s ph instant noise b :=
    lists_workKeeps.reportCrossing (fun s ph r => .of_within (s.setPhaseRec_within ph r) (by decide))
      (fun s ph => .modChan_work _ (by split <;> rfl)) s ph instant noise b
  loss s ph _ :=
    fun lists => lists_workKeeps.losePhase s ph (KeepsLists.of_within (s.setPhaseRec_within ph _) (by decide) lists)
  flood s ph f work := lists_workKeeps.endFlood s ph f work
  gapEnd s ph h _ _ := lists_workKeeps.endGap s h ph
  outbound s ph _ _ _ := .modChan_work _ rfl
  exchange s ph x reply _ :=
    lists_workKeeps.endExchange
      (fun r uplink seed => lists_calKeeps.acts.applyReply (fun h => .of_within h (by decide))
        (fun _ _ => .of_phases fun _ => ⟨id, id⟩) s ph x r uplink seed)
      (lists_calKeeps.acts.applySilence (fun h => .of_within h (by decide)) (fun _ _ => .of_phases fun _ => ⟨id, id⟩) s _ _)
      reply
  window s ph r p heard work _ _ := State.endWindow_lists work p heard

theorem State.startUp_lists (s : State) (a b : Bool) (f : FaultRec) : ListsBounded (s.startUp a b f) := by
  have rest := s.startUp_rest a b f
  intro ph
  unfold State.pingQueue State.disc State.chan
  rw [rest .pings (by decide), rest .discovery (by decide), rest .channels (by decide)]
  cases ph <;> exact ⟨Nat.zero_le 8, Nat.zero_le 8, Nat.zero_le 4⟩

/-- After a start-up no activation is pending in the field (R116). -/
theorem State.startUp_fieldPending (s : State) (a b : Bool) (f : FaultRec) :
    ∀ g ∈ (s.startUp a b f).groups, g.fieldPending = [] := by
  have settings : (s.starting (s.store.atStart a b) f).loadSettings.groups = State.bare.groups :=
    State.loadSettings_within _ .groups (by decide)
  have fresh : ∀ g ∈ State.bare.groups, g.fieldPending = [] := by
    intro g hg
    rw [List.eq_of_mem_replicate hg]
    rfl
  have roster (t : State) (ht : ∀ g ∈ t.groups, g.fieldPending = []) : ∀ g ∈ t.loadRoster.groups, g.fieldPending = [] := by
    unfold State.loadRoster
    split
    · rename_i v _
      have loaded : ∀ g ∈ groupsFrom v.counters, g.fieldPending = [] := by
        intro g hg
        obtain ⟨i, -, rfl⟩ := List.mem_map.mp hg
        rfl
      dsimp only
      split
      · rw [State.post_fault]
        exact loaded
      · exact loaded
    · rw [State.post_fault]
      exact ht
  have figured (t : State) (ht : ∀ g ∈ t.groups, g.fieldPending = []) : ∀ g ∈ t.figureAll.groups, g.fieldPending = [] := by
    refine foldl_frame (fun s t => (∀ g ∈ s.groups, g.fieldPending = []) → ∀ g ∈ t.groups, g.fieldPending = [])
      (fun _ => id) (fun h k => k ∘ h) State.refigure (fun u i before g hg => ?_) _ t ht
    obtain old | ⟨inside, rfl⟩ := State.modGroup_mem hg
    · exact before g old
    · exact before (u.group i) inside
  have applied (t : State) : t.applySettings.groups = t.groups := rfl
  unfold State.startUp
  rw [applied]
  refine figured _ (roster _ ?_)
  rw [settings]
  exact fresh

theorem State.startUp_sequences (s : State) (a b : Bool) (f : FaultRec) : SequencesBounded (s.startUp a b f) := by
  refine ⟨?_, ?_, ?_⟩
  · unfold State.handles
    rw [State.startUp_calendar]
    exact List.nodup_nil
  · rw [State.startUp_calendar]
    exact fun e he => absurd he List.not_mem_nil
  · intro g hg
    unfold GroupRec.fieldBounded
    rw [s.startUp_fieldPending a b f g hg]
    exact ⟨Nat.zero_le 4, List.Pairwise.nil⟩

/-- Settles O32: the calendar's bounds and those of the lists of work are kept by every event, and hold after a
start-up. -/
theorem calendarAndWorkListsStayBounded : Obligations.CalendarAndWorkListsStayBounded := by
  intro s t run
  refine ⟨fun h => ?_, fun h => ?_⟩
  · exact calendarBounded_eventKeeps.step (fun s a b f _ => .of_empty (s.startUp_calendar a b f)) h run
  · obtain ⟨sequences, lists⟩ := (workBounded_iff s).mp h
    refine (workBounded_iff t).mpr ⟨?_, ?_⟩
    · exact sequencesBounded_eventKeeps.step (fun s a b f _ => s.startUp_sequences a b f) sequences run
    · exact lists_eventKeeps.step (fun s a b f _ => s.startUp_lists a b f) lists run

end Sys2Proof.Machine
end

section
/-! PROOFS. The line and the channels agree at every step (R51, R55, R56), and only a start-up stops the line or ends a
halt (R49, R56). -/

namespace Sys2Proof.Machine

/-! ### What a coherent channel is doing -/

/-- A channel without work: HALTED, IDLE while its phase is PRESENT, or OFFLINE while it is ABSENT. -/
def Channel.Resting (c : Channel) (present : Bool) : Prop :=
  c.gapLeft = none ∧ c.work = none ∧
    (c.state = .halted ∨ (present = true ∧ c.state = .idle) ∨ (present = false ∧ c.state = .offline))

/-- A channel with work. -/
def Channel.Working (c : Channel) (present : Bool) : Prop :=
  present = true ∧ c.gapLeft = none ∧ c.work.isSome = true ∧ (c.state = .sending ∨ c.state = .listening)

/-- A channel between two repeats. -/
def Channel.InGap (c : Channel) (line : LineState) (present : Bool) : Prop :=
  present = true ∧ c.gapLeft.isSome = true ∧ c.work = none ∧ c.state = .sending ∧ line = .running

theorem Channel.busy_iff (c : Channel) : c.busy = true ↔ c.state = .sending ∨ c.state = .listening := by
  unfold Channel.busy
  rw [Bool.or_eq_true, decide_eq_true_eq, decide_eq_true_eq]

theorem Channel.busy_eq_false_iff (c : Channel) : c.busy = false ↔ c.state ≠ .sending ∧ c.state ≠ .listening := by
  rw [← Bool.not_eq_true, Channel.busy_iff, not_or]

theorem Channel.coherent_iff (c : Channel) (line : LineState) (present : Bool) :
    c.coherent line present ↔ c.Resting present ∨ c.Working present ∨ c.InGap line present := by
  unfold Channel.coherent Channel.Resting Channel.Working Channel.InGap
  rw [Channel.busy_iff]
  cases hs : c.state <;> cases hp : present <;> cases hw : c.work <;> cases hg : c.gapLeft <;> simp

/-- What the work of other channels and the calendar make of a channel: a gap may end in IDLE, and the rest stays. -/
def Channel.Yields (c d : Channel) : Prop :=
  d.work.isSome = c.work.isSome ∧
    ((d.state = c.state ∧ d.gapLeft.isSome = c.gapLeft.isSome) ∨
      (c.gapLeft.isSome = true ∧ d.state = .idle ∧ d.gapLeft = none))

theorem Channel.Yields.refl (c : Channel) : c.Yields c := ⟨rfl, .inl ⟨rfl, rfl⟩⟩

theorem Channel.Yields.trans {c d e : Channel} (h : c.Yields d) (k : d.Yields e) : c.Yields e := by
  refine ⟨k.1.trans h.1, ?_⟩
  obtain ⟨-, ⟨state, gap⟩ | ⟨gap, idle, closed⟩⟩ := h
  · obtain ⟨-, ⟨state', gap'⟩ | ⟨gap', rest⟩⟩ := k
    · exact .inl ⟨state'.trans state, gap'.trans gap⟩
    · exact .inr ⟨gap ▸ gap', rest⟩
  · obtain ⟨-, ⟨state', gap'⟩ | ⟨gap', -⟩⟩ := k
    · refine .inr ⟨gap, state'.trans idle, ?_⟩
      rw [closed] at gap'
      simpa using gap'
    · rw [closed] at gap'
      cases gap'

theorem Channel.giveUp_yields (c : Channel) (h : Nat) : c.Yields (c.giveUp h) := by
  unfold Channel.giveUp
  dsimp only
  split_ifs with h1 h2 h3 h2 h3
  · exact ⟨rfl, .inr ⟨h3, rfl, rfl⟩⟩
  · exact ⟨rfl, .inl ⟨rfl, rfl⟩⟩
  · exact ⟨rfl, .inl ⟨rfl, rfl⟩⟩
  · exact ⟨rfl, .inr ⟨h3, rfl, rfl⟩⟩
  · exact ⟨rfl, .inl ⟨rfl, rfl⟩⟩
  · exact Channel.Yields.refl c

section
variable {c d : Channel} {line : LineState} {present : Bool}

theorem Channel.Yields.coherent (h : c.Yields d) (hc : c.coherent line present) : d.coherent line present := by
  rw [Channel.coherent_iff] at hc ⊢
  obtain ⟨work, same | ⟨gap, idle, closed⟩⟩ := h
  · have none_iff {α : Type} {x y : Option α} (h : x.isSome = y.isSome) (hy : y = none) : x = none := by
      rw [hy] at h
      simpa using h
    obtain ⟨state, gap⟩ := same
    obtain ⟨g, w, st⟩ | ⟨p, g, w, st⟩ | ⟨p, g, w, st, run⟩ := hc
    · exact .inl ⟨none_iff gap g, none_iff work w, state ▸ st⟩
    · exact .inr (.inl ⟨p, none_iff gap g, work.trans w, state ▸ st⟩)
    · exact .inr (.inr ⟨p, gap.trans g, none_iff work w, state.trans st, run⟩)
  · obtain ⟨g, -⟩ | ⟨-, g, -⟩ | ⟨p, g, w, st, -⟩ := hc
    · rw [g] at gap
      cases gap
    · rw [g] at gap
      cases gap
    · rw [w] at work
      exact .inl ⟨closed, by simpa using work, .inr (.inl ⟨p, idle⟩)⟩

/-- Only a channel in a gap changes its state so. -/
theorem Channel.Yields.state (h : c.Yields d) (gap : c.gapLeft = none) : d.state = c.state ∧ d.gapLeft = none := by
  obtain ⟨-, ⟨state, same⟩ | ⟨open_, -⟩⟩ := h
  · rw [gap] at same
    exact ⟨state, by simpa using same⟩
  · rw [gap] at open_
    cases open_

theorem Channel.coherent.gap_of_not_running (h : c.coherent line present) (halts : line ≠ .running) : c.gapLeft = none := by
  obtain ⟨g, -⟩ | ⟨-, g, -⟩ | ⟨-, -, -, -, run⟩ := (Channel.coherent_iff _ _ _).mp h
  · exact g
  · exact g
  · exact absurd run halts

theorem Channel.coherent.gap_of_state (h : c.coherent line present) (apart : c.state ≠ .sending) : c.gapLeft = none := by
  obtain ⟨g, -⟩ | ⟨-, g, -⟩ | ⟨-, -, -, st, -⟩ := (Channel.coherent_iff _ _ _).mp h
  · exact g
  · exact g
  · exact absurd st apart

theorem Channel.coherent.phase_present (h : c.coherent line present) (online : c.state ≠ .offline ∧ c.state ≠ .halted) :
    present = true := by
  obtain ⟨-, -, halted | ⟨p, -⟩ | ⟨-, offline⟩⟩ | ⟨p, -⟩ | ⟨p, -⟩ := (Channel.coherent_iff _ _ _).mp h
  · exact absurd halted online.2
  · exact p
  · exact absurd offline online.1
  · exact p
  · exact p

theorem Channel.coherent.working (h : c.coherent line present) (work : c.work.isSome = true) : c.Working present := by
  obtain ⟨-, w, -⟩ | working | ⟨-, -, w, -⟩ := (Channel.coherent_iff _ _ _).mp h
  · rw [w] at work
    cases work
  · exact working
  · rw [w] at work
    cases work

/-- A coherent channel that is not in a gap agrees with another line too. -/
theorem Channel.coherent.of_line (h : c.coherent line present) (gap : c.gapLeft = none) (other : LineState) :
    c.coherent other present := by
  rw [Channel.coherent_iff] at h ⊢
  obtain resting | working | ⟨-, open_, -⟩ := h
  · exact .inl resting
  · exact .inr (.inl working)
  · rw [gap] at open_
    cases open_

end

/-! ### The channels and the line -/

theorem State.anyBusy_iff (s : State) : s.anyBusy = true ↔ ∃ k, (s.chan k).busy = true := by
  unfold State.anyBusy Tri.toList
  rw [List.any_eq_true]
  constructor
  · rintro ⟨c, hc, busy⟩
    simp only [List.mem_cons, List.not_mem_nil, or_false] at hc
    obtain rfl | rfl | rfl := hc
    · exact ⟨.L1, busy⟩
    · exact ⟨.L2, busy⟩
    · exact ⟨.L3, busy⟩
  · rintro ⟨k, busy⟩
    exact ⟨s.chan k, by cases k <;> simp [State.chan, Tri.get], busy⟩

theorem State.anyBusy_eq_false_iff (s : State) : s.anyBusy = false ↔ ∀ k, (s.chan k).busy = false := by
  rw [← Bool.not_eq_true, State.anyBusy_iff, not_exists]
  exact forall_congr' fun k => by rw [Bool.not_eq_true]

/-- A channel agrees with its phase and the line; of those named it is HALTED. -/
def Fits (H : Phase → Prop) (s : State) (k : Phase) : Prop :=
  (s.chan k).coherent s.line (s.phaseRec k).present ∧ (H k → (s.chan k).state = .halted) ∧
    (s.line = .stopped ∨ s.line = .held → (s.chan k).busy = false)

/-- Every channel agrees with its phase and the line. -/
def Loose (H : Phase → Prop) (s : State) : Prop := ∀ k, Fits H s k

/-- The channels agree with the line, and a DRAINING line has one at work (R51). -/
def Sound (H : Phase → Prop) (s : State) : Prop := Loose H s ∧ (s.line = .draining → s.anyBusy = true)

/-- A channel whose work ends: it is at work or has just ended it, on a line at work. -/
def Occupied (H : Phase → Prop) (ph : Phase) (s : State) : Prop :=
  (∀ k ≠ ph, Fits H s k) ∧ ¬ H ph ∧ (s.phaseRec ph).present = true ∧ (s.chan ph).gapLeft = none ∧
    ((s.chan ph).state ≠ .offline ∧ (s.chan ph).state ≠ .halted) ∧ s.line ≠ .stopped ∧ s.line ≠ .held

theorem channelsCoherent_iff (s : State) : ChannelsCoherent s ↔ Sound (fun _ => False) s := by
  unfold ChannelsCoherent Sound Loose Fits
  rw [State.anyBusy_eq_false_iff]
  constructor
  · rintro ⟨c1, c2, c3, drained, still⟩
    exact ⟨fun k => ⟨by cases k <;> assumption, False.elim, fun h => still h k⟩, drained⟩
  · rintro ⟨fits, drained⟩
    exact ⟨(fits .L1).1, (fits .L2).1, (fits .L3).1, drained, fun h k => (fits k).2.2 h⟩

/-- The line stays, each phase stays PRESENT or ABSENT, and each channel but for a gap that may end in IDLE. -/
def Yields (s t : State) : Prop :=
  t.line = s.line ∧ (∀ k, (t.phaseRec k).present = (s.phaseRec k).present) ∧ ∀ k, (s.chan k).Yields (t.chan k)

section
variable {H : Phase → Prop} {s t u : State} {ph : Phase}

theorem Yields.refl (s : State) : Yields s s := ⟨rfl, fun _ => rfl, fun _ => .refl _⟩

theorem Yields.trans (h : Yields s t) (k : Yields t u) : Yields s u :=
  ⟨k.1.trans h.1, fun q => (k.2.1 q).trans (h.2.1 q), fun q => (h.2.2 q).trans (k.2.2 q)⟩

theorem Yields.of_within {bs : List Block} (h : Within bs s t)
    (apart : Block.line ∉ bs ∧ Block.mains ∉ bs ∧ Block.channels ∉ bs) : Yields s t := by
  unfold Yields State.phaseRec State.chan
  rw [h .line apart.1, h .mains apart.2.1, h .channels apart.2.2]
  exact ⟨rfl, fun _ => rfl, fun _ => .refl _⟩

theorem Yields.modChan (ph : Phase) (f : Channel → Channel) (h : (s.chan ph).Yields (f (s.chan ph))) :
    Yields s (s.modChan ph f) := by
  refine ⟨rfl, fun _ => rfl, fun k => ?_⟩
  by_cases here : k = ph
  · subst here
    rw [State.chan_modChan_self]
    exact h
  · rw [State.chan_modChan_ne _ _ here]
    exact .refl _

/-- A channel's other fields change. -/
theorem Yields.modChan_same (ph : Phase) (f : Channel → Channel)
    (h : ∀ c, (f c).state = c.state ∧ (f c).work = c.work ∧ (f c).gapLeft = c.gapLeft) : Yields s (s.modChan ph f) := by
  obtain ⟨state, work, gap⟩ := h (s.chan ph)
  exact .modChan ph f ⟨by rw [work], .inl ⟨state, by rw [gap]⟩⟩

theorem Yields.setPhaseRec (ph : Phase) (r : PhaseRec) (h : r.present = (s.phaseRec ph).present) :
    Yields s (s.setPhaseRec ph r) := by
  refine ⟨rfl, fun k => ?_, fun _ => .refl _⟩
  by_cases here : k = ph
  · subst here
    rw [State.phaseRec_setPhaseRec_self]
    exact h
  · rw [State.phaseRec_setPhaseRec_ne _ _ here]

theorem Fits.of_yields (h : Yields s t) {k : Phase} (fits : Fits H s k) : Fits H t k := by
  obtain ⟨line, present, channel⟩ := h
  obtain ⟨coherent, halted, still⟩ := fits
  refine ⟨?_, fun hk => ?_, fun stops => ?_⟩
  · rw [line, present]
    exact (channel k).coherent coherent
  · have state := halted hk
    exact ((channel k).state (coherent.gap_of_state (by rw [state]; decide))).1.trans state
  · rw [line] at stops
    have before := still stops
    have gap := coherent.gap_of_not_running (by rintro run; rw [run] at stops; simp at stops)
    unfold Channel.busy at before ⊢
    rw [((channel k).state gap).1]
    exact before

theorem Loose.of_yields (h : Yields s t) (loose : Loose H s) : Loose H t := fun k => (loose k).of_yields h

theorem Sound.of_yields (h : Yields s t) (sound : Sound H s) : Sound H t := by
  refine ⟨sound.1.of_yields h, fun drains => ?_⟩
  rw [h.1] at drains
  obtain ⟨k, busy⟩ := (State.anyBusy_iff s).mp (sound.2 drains)
  refine (State.anyBusy_iff t).mpr ⟨k, ?_⟩
  have gap := (sound.1 k).1.gap_of_not_running (by rw [drains]; decide)
  unfold Channel.busy at busy ⊢
  rw [((h.2.2 k).state gap).1]
  exact busy

theorem Occupied.of_yields (h : Yields s t) (occupied : Occupied H ph s) : Occupied H ph t := by
  obtain ⟨others, free, present, gap, online, work⟩ := occupied
  have own := (h.2.2 ph).state gap
  refine ⟨fun k apart => (others k apart).of_yields h, free, (h.2.1 ph).trans present, own.2, ?_, ?_⟩
  · rw [own.1]
    exact online
  · rw [h.1]
    exact work

/-- The calendar's operations leave the line, and end no work. -/
theorem yields_calKeeps : FreeKeeps Yields :=
  .of_blind Yields.refl Yields.trans (fun h => .of_within h (by decide))
    fun _ ph h => .modChan ph _ (Channel.giveUp_yields _ h)

theorem Fits.of_same {k : Phase} (chan : t.chan k = s.chan k) (line : t.line = s.line)
    (present : (t.phaseRec k).present = (s.phaseRec k).present) (fits : Fits H s k) : Fits H t k := by
  unfold Fits
  rw [chan, line, present]
  exact fits

/-- A channel with work is occupied. -/
theorem Sound.occupied (sound : Sound H s) (work : (s.chan ph).work.isSome = true) : Occupied H ph s := by
  obtain ⟨coherent, halted, still⟩ := sound.1 ph
  obtain ⟨present, gap, -, state⟩ := coherent.working work
  have busy := (Channel.busy_iff _).mpr state
  have online : (s.chan ph).state ≠ .offline ∧ (s.chan ph).state ≠ .halted := by
    obtain state | state := state <;> rw [state] <;> decide
  refine ⟨fun k _ => sound.1 k, fun named => online.2 (halted named), present, gap, online, fun stops => ?_, fun stops => ?_⟩
  · rw [still (.inl stops)] at busy
    cases busy
  · rw [still (.inr stops)] at busy
    cases busy

theorem Occupied.modChan (occupied : Occupied H ph s) (f : Channel → Channel)
    (h : (f (s.chan ph)).state = (s.chan ph).state ∧ (f (s.chan ph)).gapLeft = (s.chan ph).gapLeft) :
    Occupied H ph (s.modChan ph f) := by
  obtain ⟨others, free, present, gap, online, work⟩ := occupied
  refine ⟨fun k apart => (others k apart).of_same (State.chan_modChan_ne _ _ apart) rfl rfl, free, present, ?_, ?_, work⟩
  · rw [State.chan_modChan_self, h.2]
    exact gap
  · rw [State.chan_modChan_self, h.1]
    exact online

/-- The channel's work is off the wiring. -/
theorem Occupied.clearWork (occupied : Occupied H ph s) : Loose H (s.clearWork ph) := by
  obtain ⟨others, free, present, -, -, stopped, held⟩ := occupied
  intro k
  by_cases here : k = ph
  · subst here
    refine ⟨?_, fun named => absurd named free, fun stops => stops.elim (absurd · stopped) (absurd · held)⟩
    rw [State.clearWork, State.chan_modChan_self]
    exact (Channel.coherent_iff _ _ _).mpr (.inl ⟨rfl, rfl, .inr (.inl ⟨present, rfl⟩)⟩)
  · exact (others k here).of_same (State.chan_modChan_ne _ _ here) rfl rfl

/-- The test of R51 restores the agreement of a DRAINING line. -/
theorem Loose.settleLine (loose : Loose H s) : Sound H s.settleLine := by
  unfold State.settleLine
  split
  · rename_i ended
    rw [Bool.and_eq_true, decide_eq_true_eq, Bool.not_eq_true'] at ended
    obtain ⟨drains, idle⟩ := ended
    refine ⟨fun k => ⟨?_, (loose k).2.1, fun _ => (State.anyBusy_eq_false_iff s).mp idle k⟩, fun h => nomatch h⟩
    exact (loose k).1.of_line ((loose k).1.gap_of_not_running (by rw [drains]; decide)) .held
  · rename_i goes
    refine ⟨loose, fun drains => ?_⟩
    rw [drains] at goes
    simpa using goes

theorem Loose.checkDrained (loose : Loose H s) : Sound H s.checkDrained :=
  loose.settleLine.of_yields (.of_within (State.noteLine_ports _ _ _).within (by decide))

end

end Sys2Proof.Machine
end

section
/-! PROOFS. Each event keeps the line and the channels in agreement (R51, R55, R56). -/

namespace Sys2Proof.Machine

variable {H : Phase → Prop} {s t : State} {ph : Phase}

/-! ### Work that starts (R56, R60) -/

theorem State.completeQueued_yields (s : State) (ph : Phase) (r : PingResult) : Yields s (s.completeQueued ph r) :=
  .of_within (s.completeQueued_within ph r) (by decide)

theorem GoesOn.yields {c : Choice} (h : GoesOn s ph c t) : Yields s t := by
  cases h with
  | idle => exact .refl s
  | notReached => exact (yields_calKeeps.decideUnit s _ ph _).trans (yields_calKeeps.settleConfirm _ _)
  | unconfirmed => exact (yields_calKeeps.decideUnconfirmed s _ ph _).trans (yields_calKeeps.settleConfirm _ _)
  | notSent => exact s.completeQueued_yields ph _
  | discarded => exact .of_within (s.modDisc_within ph _) (by decide)
  | origin =>
      exact .of_within ((s.modDisc_within ph _).then (ds := [.discovery]) (State.advanceOrigin_within _ ph) (by decide))
        (by decide)

/-- A channel that is free to start work: IDLE, or between two repeats, on a RUNNING line. -/
def Ready (H : Phase → Prop) (ph : Phase) (s : State) : Prop :=
  Sound H s ∧ s.line = .running ∧ (s.chan ph).state ≠ .offline ∧ (s.chan ph).state ≠ .halted

theorem Ready.of_yields (h : Yields s t) (ready : Ready H ph s) : Ready H ph t := by
  obtain ⟨sound, runs, online⟩ := ready
  refine ⟨sound.of_yields h, h.1.trans runs, ?_⟩
  obtain ⟨-, same | ⟨-, idle, -⟩⟩ := h.2.2 ph
  · rw [same.1]
    exact online
  · rw [idle]
    decide

theorem Ready.transmit (ready : Ready H ph s) (w : Work) : Sound H (s.transmit ph w) := by
  obtain ⟨sound, runs, online⟩ := ready
  refine Sound.of_yields (s := s.modChan ph (fun c =>
    { c with
      state := .sending, work := some w, gapLeft := none, quiet := false
      haltPending := c.haltPending || c.bufferBad })) (.of_within (State.modLevel_within _ ph _) (by decide)) ?_
  refine ⟨fun k => ?_, fun drains => absurd (runs.symm.trans drains) (by decide)⟩
  by_cases here : k = ph
  · subst here
    obtain ⟨coherent, halted, -⟩ := sound.1 k
    refine ⟨?_, fun named => absurd (halted named) online.2, fun stops => ?_⟩
    · rw [State.chan_modChan_self]
      exact (Channel.coherent_iff _ _ _).mpr (.inr (.inl ⟨coherent.phase_present online, rfl, rfl, .inl rfl⟩))
    · have runs' : (s.modChan k (fun c =>
        { c with
          state := .sending, work := some w, gapLeft := none, quiet := false
          haltPending := c.haltPending || c.bufferBad })).line = .running := runs
      rw [runs'] at stops
      simp at stops
  · exact (sound.1 k).of_same (State.chan_modChan_ne _ _ here) rfl rfl

theorem Ready.sendRepeat (ready : Ready H ph s) (h : Nat) : Sound H (s.sendRepeat h ph) := by
  unfold State.sendRepeat
  split
  · exact ready.transmit _
  · exact ready.1

theorem State.beginSending_yields (s : State) (e : Entry) : Yields s (s.beginSending e) := by
  refine .of_within (bs := [.ports, .calendar, .groups]) ?_ (by decide)
  refine Within.then (bs := [.calendar, .groups]) ?_ (State.offer_within _ _ _) (by decide)
  intro b hb
  cases b <;> first | rfl | exact absurd (by decide) hb

theorem State.modPart_yields (s : State) (h : Nat) (ph : Phase) (f : Part → Part) : Yields s (s.modPart h ph f) :=
  .of_within (State.modEntry_within s h _) (by decide)

theorem Starts.sound {c : Choice} (h : Starts s ph c t) (ready : Ready H ph s) : Sound H t := by
  cases h with
  | part h =>
      unfold State.startPart
      split
      · rename_i e _
        have begun : Yields s (if e.sequence.isNone then s.beginSending e else s) := by
          split
          · exact s.beginSending_yields e
          · exact .refl s
        refine Ready.sendRepeat (ready.of_yields ?_) h
        exact begun.trans ((State.modPart_yields _ h ph _).trans (.modChan_same ph _ fun _ => ⟨rfl, rfl, rfl⟩))
      · exact ready.1
  | resume h =>
      refine Ready.sendRepeat (ready.of_yields ?_) h
      exact (State.modPart_yields _ h ph _).trans (.modChan_same ph _ fun _ => ⟨rfl, rfl, rfl⟩)
  | confirm => exact ready.transmit _
  | ping => exact (ready.of_yields (.of_within (s.modPings_within ph _) (by decide))).transmit _
  | registration | probe => exact (ready.of_yields (.of_within (s.modDisc_within ph _) (by decide))).transmit _

theorem Ready.arbitrate (rounds : Nat) (ready : Ready H ph s) : Sound H (State.arbitrate rounds ph s) := by
  induction rounds generalizing s with
  | zero => exact ready.1
  | succ rounds ih =>
      unfold State.arbitrate
      split
      · exact ready.1
      · split
        · rename_i served
          exact (Starts.of_serve served).sound ready
        · rename_i served
          exact ih (ready.of_yields (GoesOn.of_serve served).yields)

theorem State.stopPart_settleEntry_yields (s : State) (h : Nat) (ph : Phase) : Yields s ((s.stopPart h ph).settleEntry h) :=
  (yields_calKeeps.stopPart s h ph).trans (yields_calKeeps.settleEntry _ h)

theorem State.suspend_yields (s : State) (h : Nat) (ph : Phase) : Yields s (s.suspend h ph) :=
  (s.modPart_yields h ph _).trans (.modChan_same ph _ fun _ => ⟨rfl, rfl, rfl⟩)

theorem Sound.atCrossing (sound : Sound H s) (ph : Phase) : Sound H (s.atCrossing ph) := by
  unfold State.atCrossing
  dsimp only
  split
  · exact sound
  · rename_i free
    simp only [Bool.or_eq_true, decide_eq_true_eq, not_or, not_not] at free
    have ready : Ready H ph s := ⟨sound, free.1, by rw [free.2]; decide⟩
    split
    · rename_i h _
      split
      · unfold State.resumeOpen
        split
        · split_ifs
          · exact sound.of_yields (s.stopPart_settleEntry_yields h ph)
          · exact (ready.of_yields (s.suspend_yields h ph)).arbitrate _
          · exact ready.sendRepeat h
        · exact sound
      · exact sound
    · exact ready.arbitrate _

theorem State.markQuiet_yields (s : State) (ph : Phase) : Yields s (s.markQuiet ph) :=
  .modChan_same ph _ fun _ => ⟨rfl, rfl, rfl⟩

/-! ### Work that ends (R51, R57, R59) -/

theorem Loose.halt (loose : Loose H s) (ph : Phase) : Loose H (s.halt ph) := by
  have halted : Loose H (s.modChan ph Channel.halted) := by
    intro k
    by_cases here : k = ph
    · subst here
      refine ⟨?_, fun _ => ?_, fun _ => ?_⟩
      · rw [State.chan_modChan_self]
        exact (Channel.coherent_iff _ _ _).mpr (.inl ⟨rfl, rfl, .inl rfl⟩)
      · rw [State.chan_modChan_self]
        rfl
      · rw [State.chan_modChan_self]
        rfl
    · exact (loose k).of_same (State.chan_modChan_ne _ _ here) rfl rfl
  have silence (u : State) : Yields u (u.silenceQueue ph) :=
    foldl_frame Yields Yields.refl Yields.trans _ (fun v _ => v.completeQueued_yields ph _) _ u
  refine halted.of_yields ?_
  unfold State.halt
  refine Yields.trans ?_ (yields_calKeeps.haltConfirmations _ ph)
  refine Yields.trans ?_ (.of_within (State.modDisc_within _ ph _) (by decide))
  exact (Yields.of_within (State.post_fault _ _).within (by decide)).trans (silence _)

theorem Loose.afterWork (loose : Loose H s) (ph : Phase) : Sound H (s.afterWork ph) := by
  have ended : Loose H (if (s.chan ph).haltPending then s.halt ph else s) := by
    split
    · exact loose.halt ph
    · exact loose
  exact (ended.checkDrained.atCrossing ph).of_yields (State.markQuiet_yields _ ph)

theorem Occupied.clearAfter (occupied : Occupied H ph s) : Sound H ((s.clearWork ph).afterWork ph) :=
  occupied.clearWork.afterWork ph

theorem Occupied.afterFlood (occupied : Occupied H ph s) (work : (s.chan ph).work = none) (h : Nat) (e : Entry) :
    Sound H (s.afterFlood h ph e) := by
  have closed : Yields s (s.modChan ph (fun c => { c with openPart := none })) :=
    .modChan_same ph _ fun _ => ⟨rfl, rfl, rfl⟩
  unfold State.afterFlood
  dsimp only
  split_ifs with ended halts urgent runs
  · refine (occupied.of_yields (closed.trans ?_)).clearAfter
    exact (yields_calKeeps.finishAnyPart _ h ph _).trans (yields_calKeeps.settleEntry _ h)
  · exact occupied.clearAfter
  · exact (occupied.of_yields (s.suspend_yields h ph)).clearAfter
  · exact occupied.clearAfter
  · have running : s.line = .running := not_not.mp runs
    obtain ⟨others, free, present, -, -⟩ := occupied
    refine ⟨fun k => ?_, fun drains => absurd (running.symm.trans drains) (by decide)⟩
    by_cases here : k = ph
    · subst here
      refine ⟨?_, fun named => absurd named free, fun stops => ?_⟩
      · rw [State.chan_modChan_self]
        exact (Channel.coherent_iff _ _ _).mpr (.inr (.inr ⟨present, rfl, work, rfl, running⟩))
      · have line : (s.modChan k (fun c => c.enterGap s.settings.gap)).line = .running := running
        rw [line] at stops
        simp at stops
    · exact (others k here).of_same (State.chan_modChan_ne _ _ here) rfl rfl

theorem Sound.endFlood (sound : Sound H s) {f : Flood} (work : (s.chan ph).work = some (.flood f)) :
    Sound H (s.endFlood ph f) := by
  have occupied : Occupied H ph (s.modChan ph Channel.endFlood) :=
    (sound.occupied (by rw [work]; rfl)).modChan _ ⟨rfl, rfl⟩
  unfold State.endFlood
  dsimp only
  split
  · rename_i h _
    have sent := occupied.of_yields (State.modPart_yields _ h ph (fun p => { p with sent := p.sent + 1 }))
    split
    · refine sent.afterFlood ?_ _ _
      exact congrArg Channel.work (State.chan_modChan_self s ph Channel.endFlood)
    · exact sent.clearAfter
  · exact occupied.clearAfter

theorem State.modChan_modChan (s : State) (ph : Phase) (f g : Channel → Channel) :
    (s.modChan ph f).modChan ph g = s.modChan ph (fun c => g (f c)) := by
  cases ph <;> rfl

/-- What becomes of the work that a phase's loss abandons, the channel being OFFLINE (R57, R86, R94, R126, R127). -/
theorem State.abandonWork_yields (s : State) (ph : Phase) : Yields (s.modChan ph Channel.lost) (s.abandonWork ph) := by
  have flood (u : State) (f : Flood) : Yields u (u.abandonFlood ph f) := by
    unfold State.abandonFlood
    split
    · split
      · split
        · refine Yields.trans (t := u.modChan ph (fun c => { c with openPart := none })) ?_ ?_
          · exact .modChan_same ph _ fun _ => ⟨rfl, rfl, rfl⟩
          · exact (yields_calKeeps.finishAnyPart _ _ ph _).trans (yields_calKeeps.settleEntry _ _)
        · exact .refl _
      · exact .refl _
    · exact .refl _
  unfold State.abandonWork
  dsimp only
  split
  · exact flood _ _
  · unfold State.abandonExchange
    split
    · split
      · split
        · exact .refl _
        · exact yields_calKeeps.settleConfirm _ _
      · exact .refl _
    · exact .refl _
    · exact .of_within (State.requeueInFlight_within _ ph) (by decide)
    · exact .of_within (State.modDisc_within _ ph _) (by decide)
  · exact .of_within (State.modDisc_within _ ph _) (by decide)
  · exact .refl _

/-- The work of an ABSENT phase is off the wiring, and its channel OFFLINE or HALTED (R57, R158). -/
theorem Sound.losePhase (sound : Sound H s) (ph : Phase) : Sound H (s.losePhase ph) := by
  have absent (f : Channel → Channel)
      (h : ((f (s.chan ph)).gapLeft = none ∧ (f (s.chan ph)).work = none) ∧
        ((f (s.chan ph)).state = .halted ∨ ((s.chan ph).state ≠ .halted ∧ (f (s.chan ph)).state = .offline))) :
      Loose H ((s.setPhaseRec ph PhaseRec.fresh).modChan ph f) := by
    intro k
    by_cases here : k = ph
    · subst here
      obtain ⟨⟨gap, work⟩, state⟩ := h
      refine ⟨?_, fun named => ?_, fun _ => ?_⟩
      · rw [State.chan_modChan_self]
        refine (Channel.coherent_iff _ _ _).mpr (.inl ⟨gap, work, ?_⟩)
        obtain halted | ⟨-, offline⟩ := state
        · exact .inl halted
        · refine .inr (.inr ⟨?_, offline⟩)
          exact congrArg PhaseRec.present (s.phaseRec_setPhaseRec_self k PhaseRec.fresh)
      · rw [State.chan_modChan_self]
        exact state.resolve_right fun offline => offline.1 ((sound.1 k).2.1 named)
      · rw [State.chan_modChan_self]
        refine (Channel.busy_eq_false_iff _).mpr ?_
        change (f (s.chan k)).state ≠ _ ∧ (f (s.chan k)).state ≠ _
        obtain halted | ⟨-, offline⟩ := state
        · rw [halted]
          decide
        · rw [offline]
          decide
    · have chan : ((s.setPhaseRec ph PhaseRec.fresh).modChan ph f).chan k = s.chan k :=
        State.chan_modChan_ne (s.setPhaseRec ph PhaseRec.fresh) f here
      exact (sound.1 k).of_same chan rfl (congrArg PhaseRec.present (State.phaseRec_setPhaseRec_ne s PhaseRec.fresh here))
  have ended (u : State) (hu : (u.chan ph).state = .halted ∧ Loose H u ∨
      (u.chan ph).state ≠ .halted ∧ Loose H (u.modChan ph Channel.lost)) :
      Loose H (if (u.chan ph).state = .halted then u
        else if ((u.abandonWork ph).chan ph).haltPending then (u.abandonWork ph).halt ph else u.abandonWork ph) := by
    obtain ⟨halted, loose⟩ | ⟨runs, loose⟩ := hu
    · rw [if_pos halted]
      exact loose
    · rw [if_neg runs]
      have abandoned := loose.of_yields (u.abandonWork_yields ph)
      split
      · exact abandoned.halt ph
      · exact abandoned
  unfold State.losePhase
  refine Loose.checkDrained (Loose.of_yields (.of_within (State.post_fault _ _).within (by decide)) (ended _ ?_))
  have own : (((s.setPhaseRec ph PhaseRec.fresh).modChan ph
      (fun c => { c with absentSinceFlood := true, quiet := false })).chan ph).state = (s.chan ph).state := by
    rw [State.chan_modChan_self]
    rfl
  rw [own, State.modChan_modChan]
  by_cases halted : (s.chan ph).state = .halted
  · refine .inl ⟨halted, absent _ ⟨?_, .inl halted⟩⟩
    obtain ⟨gap, work, -⟩ | ⟨-, -, -, state⟩ | ⟨-, -, -, state, -⟩ := (Channel.coherent_iff _ _ _).mp (sound.1 ph).1
    · exact ⟨gap, work⟩
    · rw [halted] at state
      simp at state
    · rw [halted] at state
      cases state
  · exact .inr ⟨halted, absent _ ⟨⟨rfl, rfl⟩, .inr ⟨halted, rfl⟩⟩⟩

/-! ### Crossings (R156 to R158) -/

theorem Channel.countCrossing_yields (c : Channel) (b : Bool) : c.Yields (c.countCrossing b) := by
  refine ⟨?_, .inl ⟨rfl, ?_⟩⟩ <;> simp [Channel.countCrossing]

theorem Sound.handCrossing (sound : Sound H s) (ph : Phase) (noise : Int) (b : Bool) : Sound H (s.handCrossing ph noise b) := by
  unfold State.handCrossing
  refine Sound.of_yields (State.markQuiet_yields _ ph) (Sound.atCrossing ?_ ph)
  refine sound.of_yields ?_
  exact (Yields.of_within (s.sampleSlot_within ph noise) (by decide)).trans
    (.modChan ph _ (Channel.countCrossing_yields _ b))

/-- A phase declared PRESENT brings its channel back, but for a HALTED one (R58, R157). -/
theorem Sound.returned (sound : Sound H s) (ph : Phase) (r : PhaseRec) (absent : (s.phaseRec ph).present = false)
    (present : r.present = true) : Sound H ((s.setPhaseRec ph r).returnPhase ph) := by
  have resting : (s.chan ph).Resting false := by
    obtain resting | ⟨here, -⟩ | ⟨here, -⟩ := (Channel.coherent_iff _ _ _).mp (absent ▸ (sound.1 ph).1)
    · exact resting
    · cases here
    · cases here
  obtain ⟨gap, work, state⟩ := resting
  have other (k : Phase) (apart : k ≠ ph) : ((s.setPhaseRec ph r).returnPhase ph).chan k = s.chan k :=
    State.chan_modChan_ne _ _ apart
  have own : ((s.setPhaseRec ph r).returnPhase ph).chan ph =
      if (s.chan ph).state = .halted then s.chan ph else { s.chan ph with state := .idle } :=
    State.chan_modChan_self (s.setPhaseRec ph r) ph _
  have here : (((s.setPhaseRec ph r).returnPhase ph).phaseRec ph).present = true := by
    have same := s.phaseRec_setPhaseRec_self ph r
    exact (congrArg PhaseRec.present same).trans present
  have fits (k : Phase) : Fits H ((s.setPhaseRec ph r).returnPhase ph) k := by
    by_cases at_ : k = ph
    · subst at_
      unfold Fits
      rw [own, here]
      split
      · rename_i halted
        refine ⟨(Channel.coherent_iff _ _ _).mpr (.inl ⟨gap, work, .inl halted⟩), fun _ => halted, fun _ => ?_⟩
        refine (Channel.busy_eq_false_iff _).mpr ?_
        rw [halted]
        decide
      · rename_i runs
        refine ⟨(Channel.coherent_iff _ _ _).mpr (.inl ⟨gap, work, .inr (.inl ⟨rfl, rfl⟩)⟩), fun named => ?_, fun _ => rfl⟩
        exact absurd ((sound.1 k).2.1 named) runs
    · exact (sound.1 k).of_same (other k at_) rfl (congrArg PhaseRec.present (State.phaseRec_setPhaseRec_ne s r at_))
  refine ⟨fits, fun drains => ?_⟩
  obtain ⟨k, busy⟩ := (State.anyBusy_iff s).mp (sound.2 drains)
  refine (State.anyBusy_iff _).mpr ⟨k, ?_⟩
  rw [other k]
  · exact busy
  · rintro rfl
    rw [Channel.busy_iff] at busy
    obtain halted | ⟨here, -⟩ | ⟨-, offline⟩ := state
    · rw [halted] at busy
      simp at busy
    · cases here
    · rw [offline] at busy
      simp at busy

theorem Sound.reportCrossing (sound : Sound H s) (ph : Phase) (instant : Nat) (noise : Int) (b : Bool) :
    Sound H (s.reportCrossing ph instant noise b) := by
  have first (u : State) (c : Crossing) : Yields u (u.firstCrossing ph c) := .setPhaseRec ph _ rfl
  unfold State.reportCrossing
  dsimp only
  split
  · exact sound.of_yields (first s _)
  · split_ifs
    · exact sound
    · exact (sound.losePhase ph).of_yields (first _ _)
    · unfold State.acceptCrossing
      dsimp only
      split
      · refine Sound.handCrossing (sound.of_yields (.setPhaseRec ph _ ?_)) ph noise b
        split <;> rfl
      · rename_i absent
        split_ifs
        · refine Sound.handCrossing (Sound.returned sound ph _ ?_ rfl) ph noise b
          simpa using absent
        · exact sound.of_yields (.setPhaseRec ph _ rfl)
        · exact sound.of_yields (.setPhaseRec ph _ rfl)

/-! ### The events (R51, R55, R56) -/

theorem Sound.addHold (sound : Sound H s) (p : Port) : Sound H (s.addHold p) := by
  unfold State.addHold
  dsimp only
  split
  · rename_i runs
    have still (k : Phase) : Channel.Yields (s.chan k) (s.chan k).drain := by
      unfold Channel.drain
      split
      · rename_i gap
        exact ⟨rfl, .inr ⟨gap, rfl, rfl⟩⟩
      · exact .refl _
    split
    · refine Loose.settleLine fun k => ?_
      have chan : State.chan
          { s with
            hold := s.hold.set p true, line := .draining
            channels := ⟨s.channels.l1.drain, s.channels.l2.drain, s.channels.l3.drain⟩ } k = (s.chan k).drain := by
        cases k <;> rfl
      obtain ⟨coherent, halted, -⟩ := sound.1 k
      have gap : (s.chan k).drain.gapLeft = none := by
        unfold Channel.drain
        split
        · rfl
        · rename_i closed
          simpa using closed
      unfold Fits
      rw [chan]
      refine ⟨((still k).coherent coherent).of_line gap .draining, fun named => ?_, fun stops => by simp at stops⟩
      have state := halted named
      exact ((still k).state (coherent.gap_of_state (by rw [state]; decide))).1.trans state
    · rename_i idle
      have free := (State.anyBusy_eq_false_iff s).mp (by simpa using idle)
      refine ⟨fun k => ?_, fun drains => nomatch drains⟩
      obtain ⟨coherent, halted, -⟩ := sound.1 k
      refine ⟨coherent.of_line (coherent.gap_of_state ?_) .held, halted, fun _ => free k⟩
      exact ((Channel.busy_eq_false_iff _).mp (free k)).1
  · exact sound.of_yields ⟨rfl, fun _ => rfl, fun _ => .refl _⟩

theorem Sound.releaseHold (sound : Sound H s) (p : Port) : Sound H (s.releaseHold p) := by
  unfold State.releaseHold
  dsimp only
  split
  · rename_i released
    have apart : s.line ≠ .running := by
      rintro run
      rw [run] at released
      simp at released
    refine ⟨fun k => ?_, fun drains => nomatch drains⟩
    obtain ⟨coherent, halted, -⟩ := sound.1 k
    exact ⟨coherent.of_line (coherent.gap_of_not_running apart) .running, halted, fun stops => by simp at stops⟩
  · exact sound.of_yields ⟨rfl, fun _ => rfl, fun _ => .refl _⟩

theorem Channel.releaseOwned_yields (c : Channel) (owned : Nat → Bool) : c.Yields (c.releaseOwned owned) := by
  unfold Channel.releaseOwned
  dsimp only
  have either (gap : Bool) (d e : Channel) (hd : gap = true → c.Yields d) (he : c.Yields e) :
      c.Yields (if gap then d else e) := by
    split
    · rename_i closed
      exact hd closed
    · exact he
  refine either _ _ _ (fun gap => ?_) ⟨by simp, .inl ⟨rfl, rfl⟩⟩
  rw [Bool.and_eq_true] at gap
  exact ⟨by simp, .inr ⟨gap.2, rfl, rfl⟩⟩

theorem State.resetOwned_yields (s : State) (p : Port) : Yields s (s.resetOwned p) :=
  ⟨rfl, fun _ => rfl, fun k => by cases k <;> exact Channel.releaseOwned_yields _ _⟩

theorem State.queueHeld_yields (s : State) (p : Port) (o : HeldOwner) : Yields s (s.queueHeld p o) := by
  unfold State.queueHeld
  split
  · rename_i i _
    refine (Yields.of_within (State.pushItem_ports s p i).within (by decide)).trans ?_
    cases o <;> exact ⟨rfl, fun _ => rfl, fun _ => .refl _⟩
  · exact .refl s

theorem Occupied.endProbe (occupied : Occupied H ph s) : Sound H (s.endProbe ph) := by
  have searched (u : State) : Yields u
      (if (u.disc ph).state = .probing ∧ (u.disc ph).stack = [] then u.advanceOrigin ph else u) := by
    split
    · exact .of_within (u.advanceOrigin_within ph) (by decide)
    · exact .refl u
  refine (occupied.of_yields (Yields.trans ?_ (searched _))).clearAfter
  exact .of_within (s.modDisc_within ph _) (by decide)

/-- Every event keeps the line and the channels in agreement, and the channels named HALTED. -/
theorem sound_eventKeeps (H : Phase → Prop) : EventKeeps (fun s t => Sound H s → Sound H t) where
  toCalActs := (yields_calKeeps.imp (fun _ => id) (fun h k sound => k (h sound)) fun h => Sound.of_yields h).acts
  unread h := .of_yields (.of_within h (by decide))
  refigure _ _ := .of_yields ⟨rfl, fun _ => rfl, fun _ => .refl _⟩
  settings _ _ _ _ := .of_yields ⟨rfl, fun _ => rfl, fun _ => .refl _⟩
  dropField _ _ := .of_yields ⟨rfl, fun _ => rfl, fun _ => .refl _⟩
  timeStep _ := .of_yields ⟨rfl, fun _ => rfl, fun _ => .refl _⟩
  queueHeld s p o := .of_yields (s.queueHeld_yields p o)
  joined _ _ _ _ _ _ _ := .of_yields ⟨rfl, fun _ => rfl, fun _ => .refl _⟩
  runLine s stopped := by
    intro sound
    have still (k : Phase) : (s.chan k).busy = false := (sound.1 k).2.2 (.inl stopped)
    refine ⟨fun k => ?_, fun drains => ?_⟩
    · obtain ⟨coherent, halted, -⟩ := sound.1 k
      exact ⟨coherent.of_line (coherent.gap_of_not_running (by rw [stopped]; decide)) _, halted, fun _ => still k⟩
    · dsimp only at drains
      split at drains <;> cases drains
  addHold s p _ sound := sound.addHold p
  releaseHold s p sound := sound.releaseHold p
  pinged s ph r _ := .of_yields (.of_within (s.modPings_within ph _) (by decide))
  silence s ph := .of_yields (s.completeQueued_yields ph _)
  startDiscovery _ := .of_yields ⟨rfl, fun _ => rfl, fun _ => .refl _⟩
  stopDiscovery _ := .of_yields ⟨rfl, fun _ => rfl, fun _ => .refl _⟩
  cycle s ph _ := .of_yields (.of_within (s.modDisc_within ph _) (by decide))
  resetOwned s p := .of_yields (s.resetOwned_yields p)
  crossing s ph instant noise b sound := sound.reportCrossing ph instant noise b
  loss s ph _ sound := sound.losePhase ph
  flood s ph f work sound := sound.endFlood work
  gapEnd s ph h left _ := by
    intro sound
    obtain ⟨gap, -⟩ | ⟨-, gap, -⟩ | ⟨-, -, -, state, runs⟩ := (Channel.coherent_iff _ _ _).mp (sound.1 ph).1
    · rw [left] at gap
      cases gap
    · rw [left] at gap
      cases gap
    · have ready : Ready H ph s := ⟨sound, runs, by rw [state]; decide⟩
      unfold State.endGap
      split
      · split
        · exact sound.of_yields ((s.stopPart_settleEntry_yields h ph).trans (State.markQuiet_yields _ ph))
        · exact ready.sendRepeat h
      · exact sound
  outbound s ph w work sending := by
    intro sound
    have occupied := sound.occupied (ph := ph) (by rw [work]; rfl)
    obtain ⟨present, gap, some_, -⟩ := (sound.1 ph).1.working (by rw [work]; rfl)
    refine ⟨fun k => ?_, fun _ => ?_⟩
    · by_cases here : k = ph
      · subst here
        refine ⟨?_, fun named => absurd named occupied.2.1, fun stops => ?_⟩
        · rw [State.chan_modChan_self]
          exact (Channel.coherent_iff _ _ _).mpr (.inr (.inl ⟨present, gap, some_, .inr rfl⟩))
        · obtain ⟨-, -, -, -, -, stopped, held⟩ := occupied
          exact (stops.elim stopped held).elim
      · exact (sound.1 k).of_same (State.chan_modChan_ne _ _ here) rfl rfl
    · refine (State.anyBusy_iff _).mpr ⟨ph, ?_⟩
      rw [State.chan_modChan_self]
      rfl
  exchange s ph x reply listens := by
    intro sound
    have work : (s.chan ph).work = some (.exchange x) := by
      unfold Channel.listeningFor at listens
      split at listens
      · rename_i y here
        split at listens
        · cases listens
          exact here
        · cases listens
      · cases listens
    have occupied := sound.occupied (ph := ph) (by rw [work]; rfl)
    have counted (u : State) (hu : Yields s u) (q : Option (Option Byte)) (z : PingResult) : Sound H
        (State.afterWork (match x.owner with
          | .confirm (some h) => (u.clearWork ph).countExchange h ph x q
          | .confirm none => u.clearWork ph
          | .ping => (u.clearWork ph).completeInFlight ph z
          | .registration => u.clearWork ph) ph) := by
      have cleared := (occupied.of_yields hu).clearWork
      refine Loose.afterWork ?_ ph
      split
      · exact cleared.of_yields (yields_calKeeps.countExchange _ _ ph x q)
      · exact cleared
      · exact cleared.of_yields (.of_within (State.completeInFlight_within _ ph z) (by decide))
      · exact cleared
    have refigure (u : State) (g : Nat) : Yields u (u.refigure g) := ⟨rfl, fun _ => rfl, fun _ => .refl _⟩
    unfold State.endExchange
    dsimp only
    cases reply with
    | none => exact counted _ (yields_calKeeps.acts.applySilence (fun h => .of_within h (by decide)) refigure s _ _) none .silent
    | some y =>
        exact counted _ (yields_calKeeps.acts.applyReply (fun h => .of_within h (by decide)) refigure s ph x y.1 y.2 _)
          (some y.1.sequence) (State.pingReplied _ x y.1 y.2)
  window s ph r p heard work _ _ := by
    intro sound
    have occupied := sound.occupied (ph := ph) (by rw [work]; rfl)
    have applied : Yields s (s.applyWindow ph p r.next
        (readWindow s.identity.code p.filter r.next r.window heard)) := by
      refine yields_calKeeps.acts.applyWindow (fun h => .of_within h (by decide)) (fun u g => ⟨rfl, fun _ => rfl, fun _ => .refl _⟩)
        (fun u i a _ _ => .of_within (u.register_within ph i a) (by decide)) (.of_within (s.modDisc_within ph _) (by decide))
    unfold State.endWindow
    dsimp only
    split
    · exact (occupied.of_yields applied).endProbe
    · refine sound.of_yields (applied.trans (.modChan ph _ ⟨?_, .inl ⟨rfl, rfl⟩⟩))
      rw [(applied.2.2 ph).1, work]
      rfl

theorem State.startUp_sound (s : State) (a b : Bool) (f : FaultRec) : Sound (fun _ => False) (s.startUp a b f) := by
  have rest := s.startUp_rest a b f
  have line : (s.startUp a b f).line = .stopped := rest .line (by decide)
  have channels : (s.startUp a b f).channels = State.bare.channels := rest .channels (by decide)
  have mains : (s.startUp a b f).mains = State.bare.mains := rest .mains (by decide)
  refine ⟨fun k => ?_, fun drains => absurd (line.symm.trans drains) (by decide)⟩
  unfold Fits State.chan State.phaseRec
  rw [channels, mains]
  refine ⟨(Channel.coherent_iff _ _ _).mpr (.inl ?_), False.elim, fun _ => by cases k <;> rfl⟩
  cases k <;> exact ⟨rfl, rfl, .inr (.inr ⟨rfl, rfl⟩)⟩

/-- Settles O19: every event keeps the agreement, and a start-up makes it. -/
theorem channelsStayCoherent : Obligations.ChannelsStayCoherent := by
  intro s t coherent run
  refine (channelsCoherent_iff t).mpr ?_
  exact (sound_eventKeeps _).step (fun s a b f _ => s.startUp_sound a b f) ((channelsCoherent_iff s).mp coherent) run

/-! ### The line is not stopped again (R49) -/

/-- A line that runs, drains or is held is not stopped. -/
abbrev NotStopped (s t : State) : Prop := s.line ≠ .stopped → t.line ≠ .stopped

theorem NotStopped.of_line (h : t.line = s.line) : NotStopped s t := fun goes => h ▸ goes

theorem NotStopped.of_within {bs : List Block} (h : Within bs s t) (apart : Block.line ∉ bs) : NotStopped s t :=
  .of_line (h .line apart)

theorem NotStopped.settleLine (s : State) : NotStopped s s.settleLine := by
  unfold State.settleLine
  split
  · exact fun _ h => nomatch h
  · exact id

theorem State.sendRepeat_line (s : State) (h : Nat) (ph : Phase) : (s.sendRepeat h ph).line = s.line :=
  s.sendRepeat_within ph h .line (by decide)

theorem Starts.line {c : Choice} (h : Starts s ph c t) : t.line = s.line := by
  cases h with
  | part h =>
      unfold State.startPart
      split
      · rename_i e _
        refine (State.sendRepeat_line _ h ph).trans ?_
        change State.line (if e.sequence.isNone then s.beginSending e else s) = s.line
        split
        · exact (s.beginSending_yields e).1
        · rfl
      · rfl
  | resume h => exact State.sendRepeat_line _ h ph
  | confirm | ping | registration | probe => rfl

theorem notStopped_workKeeps : WorkKeeps NotStopped where
  toFreeKeeps := .of_blind (fun _ => id) (fun h k => k ∘ h) (fun h => .of_within h (by decide)) fun _ _ _ => id
  post s f := .of_within (s.post_fault f).within (by decide)
  settleLine s := .settleLine s
  markQuiet _ _ := id
  clearWork _ _ := id
  halted _ _ := id
  silent s ph := .of_line (s.completeQueued_yields ph _).1
  unregister _ _ := id
  started s ph c t _ h := .of_line (Starts.of_serve h).line
  goOn s ph c t _ h := .of_line (GoesOn.of_serve h).yields.1
  suspend _ _ _ := id
  send s h ph := .of_line (s.sendRepeat_line h ph)
  floodOff _ _ := id
  sent _ _ _ _ _ _ := id
  closeOpen _ _ := id
  gap _ _ := id
  absent _ _ := id
  lost _ _ := id
  requeue s ph := .of_within (s.requeueInFlight_within ph) (by decide)
  relist _ _ _ _ _ := id
  restack _ _ := id
  sample s ph noise := .of_within (s.sampleSlot_within ph noise) (by decide)
  count _ _ _ := id
  inFlight s ph r := .of_within (s.completeInFlight_within ph r) (by decide)

theorem notStopped_eventKeeps : EventKeeps NotStopped where
  toCalActs := notStopped_workKeeps.acts
  unread h := .of_within h (by decide)
  refigure _ _ := id
  settings _ _ _ _ := id
  dropField _ _ := id
  timeStep _ := id
  queueHeld s p o := .of_line (s.queueHeld_yields p o).1
  joined _ _ _ _ _ _ _ := id
  runLine s _ := fun _ stops => by
    dsimp only at stops
    split at stops <;> cases stops
  addHold s p _ := by
    unfold State.addHold
    dsimp only
    split
    · split
      · exact fun _ => NotStopped.settleLine _ (fun h => nomatch h)
      · exact fun _ h => nomatch h
    · exact id
  releaseHold s p := by
    intro goes stops
    unfold State.releaseHold at stops
    dsimp only at stops
    split at stops
    · cases stops
    · exact goes stops
  pinged _ _ _ _ := id
  silence s ph := .of_line (s.completeQueued_yields ph _).1
  startDiscovery _ := id
  stopDiscovery _ := id
  cycle _ _ _ := id
  resetOwned _ _ := id
  crossing s ph instant noise b :=
    notStopped_workKeeps.reportCrossing (fun _ _ _ => id) (fun _ _ => id) s ph instant noise b
  loss s ph _ := notStopped_workKeeps.losePhase s ph
  flood s ph f work := notStopped_workKeeps.endFlood s ph f work
  gapEnd s ph h _ _ := notStopped_workKeeps.endGap s h ph
  outbound _ _ _ _ _ := id
  exchange s ph x reply _ :=
    notStopped_workKeeps.endExchange
      (fun r uplink seed => notStopped_workKeeps.acts.applyReply (fun h => .of_within h (by decide)) (fun _ _ => id) s ph x r
        uplink seed)
      (notStopped_workKeeps.acts.applySilence (fun h => .of_within h (by decide)) (fun _ _ => id) s _ _) reply
  window s ph r p heard _ _ _ := by
    refine notStopped_workKeeps.endWindow (fun _ _ => id)
      (fun s ph => .of_within (s.advanceOrigin_within ph) (by decide)) (fun _ _ _ => id) (fun k w => ?_) r heard
    exact notStopped_workKeeps.acts.applyWindow (fun h => .of_within h (by decide)) (fun _ _ => id)
      (fun t i a _ _ => .of_within (t.register_within ph i a) (by decide)) id

/-- What every event keeps, and the ports do not read, every command keeps that does not start the block up. -/
theorem EventKeeps.exec_running {J : State → Prop} (hR : EventKeeps (fun s t => J s → J t)) {c : Instr}
    (start : ∀ a b, c ≠ .powerOn a b ∧ c ≠ .pinReset a b) (run : Machine.exec c s = .next t) (hs : J s) : J t := by
  have plain (c : Instr) (u v : State) (transfer : serves c = false) (still : restarts c = false)
      (run : Machine.exec c u = .next v) (hu : J u) : J v := by
    refine hR.exec transfer (fun a b => ⟨?_, ?_⟩) run hu
    · rintro rfl
      cases still
    · rintro rfl
      cases still
  by_cases transfer : serves c = true
  · exact exec_keeps_of_serves (fun h => hR.unread (h.mono (by decide))) plain run hs transfer
  · refine hR.exec (by simpa using transfer) start run hs

/-- Settles O18: every event but a start-up leaves the line unstopped and the HALTED channels so. -/
theorem onlyStartUpStopsTheLineOrEndsAHalt : Obligations.OnlyStartUpStopsTheLineOrEndsAHalt := by
  intro c s t start run
  refine ⟨fun goes => ?_, fun coherent ph halted => ?_⟩
  · exact notStopped_eventKeeps.exec_running (J := fun u => u.line ≠ .stopped) start run goes
  · have sound : Sound (fun k => (s.chan k).state = .halted) s := by
      obtain ⟨fits, drained⟩ := (channelsCoherent_iff s).mp coherent
      exact ⟨fun k => ⟨(fits k).1, id, (fits k).2.2⟩, drained⟩
    exact (((sound_eventKeeps _).exec_running start run sound).1 ph).2.1 halted

end Sys2Proof.Machine
end

section
/-! PROOFS. The calendar stays coherent with its parts and with the channels, and the group lock is held once (R2, R5, R9,
R55, R72): the changes of the calendar. -/

namespace Sys2Proof.Machine

/-! ### One entry -/

/-- An entry with an outcome or a confirmation has finished its parts, its record came with the outcome, and its parts
have their start times (R5, R9, R24). -/
def Entry.Sane (e : Entry) : Prop :=
  (e.outcome.isSome = true ∨ e.confirmation.isSome = true → e.allFinished = true) ∧
    (e.record.isSome = true → e.outcome.isSome = true) ∧ ∀ ph, (e.parts.get ph).timed

/-- What follows the finish of the last part has been done (R9). -/
def Entry.Settles (e : Entry) : Prop :=
  e.allFinished = true → e.outcome.isSome = true ∨ e.confirmation.isSome = true

/-- The entry has started and has no outcome: it holds its group's lock, or did until its last part finished on the
event. -/
def Entry.Engaged (e : Entry) : Prop := e.outcome = none ∧ (e.anyStarted = true ∨ e.confirmation.isSome = true)

/-- A part that a channel has for its own stays SENDING or SUSPENDED. -/
def Entry.HoldsParts (e x : Entry) : Prop :=
  ∀ ph, ((e.parts.get ph).state = .sending → (x.parts.get ph).state = .sending) ∧
    ((e.parts.get ph).state = .suspended → (x.parts.get ph).state = .suspended)

theorem Entry.allFinished_iff (e : Entry) : e.allFinished = true ↔ ∀ ph, (e.parts.get ph).state = .finished := by
  unfold Entry.allFinished Tri.toList
  simp only [List.all_cons, List.all_nil, Bool.and_true, Bool.and_eq_true, decide_eq_true_eq]
  exact ⟨fun ⟨h1, h2, h3⟩ ph => by cases ph <;> assumption, fun h => ⟨h .L1, h .L2, h .L3⟩⟩

theorem Entry.anyStarted_iff (e : Entry) : e.anyStarted = true ↔ ∃ ph, (e.parts.get ph).start.isSome = true := by
  unfold Entry.anyStarted Tri.toList
  simp only [List.any_cons, List.any_nil, Bool.or_false, Bool.or_eq_true]
  constructor
  · rintro (h | h | h)
    · exact ⟨.L1, h⟩
    · exact ⟨.L2, h⟩
    · exact ⟨.L3, h⟩
  · rintro ⟨ph, h⟩
    cases ph
    · exact .inl h
    · exact .inr (.inl h)
    · exact .inr (.inr h)

theorem Entry.anySent_iff (e : Entry) : e.anySent = true ↔ ∃ ph, 0 < (e.parts.get ph).sent := by
  unfold Entry.anySent Tri.toList
  simp only [List.any_cons, List.any_nil, Bool.or_false, Bool.or_eq_true, decide_eq_true_eq]
  constructor
  · rintro (h | h | h)
    · exact ⟨.L1, h⟩
    · exact ⟨.L2, h⟩
    · exact ⟨.L3, h⟩
  · rintro ⟨ph, h⟩
    cases ph
    · exact .inl h
    · exact .inr (.inl h)
    · exact .inr (.inr h)

/-- A part changed. -/
theorem Entry.parts_modPart (e : Entry) (ph k : Phase) (f : Part → Part) :
    (e.modPart ph f).parts.get k = if k = ph then f (e.parts.get ph) else e.parts.get k := by
  split
  · rename_i here
    subst here
    exact Tri.get_set_self ..
  · rename_i apart
    exact Tri.get_set_ne _ _ apart

section
variable {e x : Entry}

theorem Entry.Sane.of_same (h : e.Sane) (parts : x.parts = e.parts) (outcome : x.outcome = e.outcome)
    (record : x.record = e.record) (progress : e.Progresses x) : x.Sane := by
  obtain ⟨finished, recorded, timed⟩ := h
  have all : x.allFinished = e.allFinished := by
    unfold Entry.allFinished
    rw [parts]
  refine ⟨fun decided => ?_, ?_, ?_⟩
  · rw [all]
    rw [outcome] at decided
    obtain outcome | confirmation := decided
    · exact finished (.inl outcome)
    · obtain same | ⟨ended, -, -⟩ := progress
      · exact finished (.inr (same ▸ confirmation))
      · exact ended
  · rw [record, outcome]
    exact recorded
  · rw [parts]
    exact timed

theorem Entry.Engaged.of_same (h : e.Sane) (parts : x.parts = e.parts) (outcome : x.outcome = e.outcome)
    (progress : e.Progresses x) (engaged : x.Engaged) : e.Engaged := by
  have started : x.anyStarted = e.anyStarted := by
    unfold Entry.anyStarted
    rw [parts]
  obtain ⟨open_, holds⟩ := engaged
  rw [outcome] at open_
  rw [started] at holds
  refine ⟨open_, ?_⟩
  obtain begun | confirmation := holds
  · exact .inl begun
  · obtain same | ⟨-, sent, -⟩ := progress
    · exact .inr (same ▸ confirmation)
    · obtain ⟨ph, sent⟩ := (Entry.anySent_iff e).mp sent
      exact .inl ((Entry.anyStarted_iff e).mpr ⟨ph, h.2.2 ph (.inr (.inr sent))⟩)

theorem Entry.HoldsParts.of_same (parts : x.parts = e.parts) : e.HoldsParts x := fun ph => by
  rw [parts]
  exact ⟨id, id⟩

theorem Entry.Progresses.settles (progress : e.Progresses x) (parts : x.parts = e.parts) (outcome : x.outcome = e.outcome)
    (h : e.Settles) : x.Settles := by
  intro ended
  have all : x.allFinished = e.allFinished := by
    unfold Entry.allFinished
    rw [parts]
  rw [outcome]
  obtain same | ⟨-, -, some_⟩ := progress
  · rw [same]
    exact h (all ▸ ended)
  · exact .inr some_

/-- Confirmation or an outcome comes to an entry whose parts have all finished alone. -/
theorem Entry.Sane.undecided (h : e.Sane) {ph : Phase} (open_ : (e.parts.get ph).state ≠ .finished) :
    e.outcome = none ∧ e.confirmation = none := by
  have goes : ¬ e.allFinished = true := fun ended => open_ ((Entry.allFinished_iff e).mp ended ph)
  constructor
  · cases outcome : e.outcome with
    | none => rfl
    | some o => exact absurd (h.1 (.inl (by rw [outcome]; rfl))) goes
  · cases confirmation : e.confirmation with
    | none => rfl
    | some c => exact absurd (h.1 (.inr (by rw [confirmation]; rfl))) goes

/-- An entry whose part changes, other than to its start, is as sane and as engaged as it was. -/
theorem Entry.Sane.modPart (h : e.Sane) (ph : Phase) {f : Part → Part}
    (finished : (e.parts.get ph).state = .finished → (f (e.parts.get ph)).state = .finished)
    (timed : (f (e.parts.get ph)).timed) : (e.modPart ph f).Sane := by
  obtain ⟨ended, recorded, start⟩ := h
  refine ⟨fun decided => (Entry.allFinished_iff _).mpr fun k => ?_, recorded, fun k => ?_⟩
  · have all := (Entry.allFinished_iff e).mp (ended decided)
    rw [Entry.parts_modPart]
    split
    · exact finished (all ph)
    · exact all k
  · rw [Entry.parts_modPart]
    split
    · exact timed
    · exact start k

theorem Entry.engaged_modPart (ph : Phase) {f : Part → Part} (start : ∀ p, (f p).start = p.start) :
    (e.modPart ph f).Engaged ↔ e.Engaged := by
  unfold Entry.Engaged
  rw [Entry.anyStarted_modPart e ph f start]
  rfl

theorem Entry.HoldsParts.modPart (ph : Phase) {f : Part → Part}
    (h : ((e.parts.get ph).state = .sending → (f (e.parts.get ph)).state = .sending) ∧
      ((e.parts.get ph).state = .suspended → (f (e.parts.get ph)).state = .suspended)) : e.HoldsParts (e.modPart ph f) := by
  intro k
  rw [Entry.parts_modPart]
  split
  · rename_i here
    subst here
    exact h
  · exact ⟨id, id⟩

end

/-! ### The calendar and the channels -/

/-- The entry's part is in this state. -/
def State.partIs (s : State) (h : Nat) (ph : Phase) (x : PartState) : Prop :=
  ∃ e ∈ s.entry? h, (e.parts.get ph).state = x

/-- A channel's open and suspended part are SENDING and SUSPENDED parts of the calendar (R55, R65). -/
def State.OwnsParts (s : State) (ph : Phase) : Prop :=
  (∀ h ∈ (s.chan ph).openPart, s.partIs h ph .sending) ∧ ∀ h ∈ (s.chan ph).suspendedPart, s.partIs h ph .suspended

/-- A flood is of the open part. -/
def Channel.FloodsOpen (c : Channel) : Prop := ∀ f, c.work = some (.flood f) → ∀ h ∈ f.entry, c.openPart = some h

theorem Channel.owns_iff (s : State) (ph : Phase) :
    (s.chan ph).owns s ph ↔ s.OwnsParts ph ∧ (s.chan ph).FloodsOpen := by
  unfold Channel.owns State.OwnsParts Channel.FloodsOpen State.partIs
  rw [and_assoc]
  refine and_congr_right fun _ => and_congr_right fun _ => ?_
  constructor
  · intro h f work
    rw [work] at h
    exact h
  · intro h
    split
    · rename_i f work
      exact h f work
    · trivial

/-- The entries' part of a coherent calendar: handles held once, each entry sane, each channel's parts its own. -/
def Core (s : State) : Prop :=
  s.handles.Nodup ∧ (∀ e ∈ s.calendar, e.Sane) ∧ ∀ ph, s.OwnsParts ph ∧ (s.chan ph).FloodsOpen

/-- Of two engaged entries of one group the handles are the same. -/
def Lone (s : State) : Prop :=
  ∀ e ∈ s.calendar, ∀ x ∈ s.calendar, e.Engaged → x.Engaged → e.group = x.group → e.handle = x.handle

/-- The entry with the handle waits for what follows the finish of its last part. -/
def Unsettled (s : State) (h : Nat) : Prop := ∃ e ∈ s.calendar, e.handle = h ∧ ¬ e.Settles

/-- The calendar is coherent. -/
def Coherent (s : State) : Prop := Core s ∧ ∀ h, ¬ Unsettled s h

theorem calendarCoherent_iff (s : State) : CalendarCoherent s ↔ Coherent s := by
  unfold CalendarCoherent Coherent Core Unsettled
  simp only [← Channel.owns_iff]
  constructor
  · rintro ⟨nodup, entries, o1, o2, o3⟩
    refine ⟨⟨nodup, fun e he => ?_, fun ph => by cases ph <;> assumption⟩, ?_⟩
    · obtain ⟨⟨-, ended, recorded⟩, t1, t2, t3⟩ := entries e he
      exact ⟨ended, recorded, fun ph => by cases ph <;> assumption⟩
    · rintro h ⟨e, he, -, unsettled⟩
      exact unsettled (entries e he).1.1
  · rintro ⟨⟨nodup, sane, owns⟩, settled⟩
    refine ⟨nodup, fun e he => ?_, owns .L1, owns .L2, owns .L3⟩
    obtain ⟨ended, recorded, timed⟩ := sane e he
    have settles : e.Settles := not_not.mp fun h => settled e.handle ⟨e, he, rfl, h⟩
    exact ⟨⟨settles, ended, recorded⟩, timed .L1, timed .L2, timed .L3⟩

/-- In a coherent calendar the engaged entries are those that hold the lock of their group (R72). -/
theorem Entry.locks_iff {e : Entry} (sane : e.Sane) (settles : e.Settles) : e.locks = true ↔ e.Engaged := by
  unfold Entry.locks Entry.Engaged Entry.state
  rw [Bool.or_eq_true, decide_eq_true_eq, decide_eq_true_eq]
  have ended := sane.1
  unfold Entry.Settles at settles
  cases ho : e.outcome <;> cases ha : e.allFinished <;> cases hc : e.confirmation.isSome <;> cases hs : e.anyStarted <;>
    simp only [ho, ha, hc] at ended settles ⊢ <;> simp at ended settles ⊢
  split <;> simp

theorem locksHeldByOne_iff (s : State) : LocksHeldByOne s ↔ Coherent s ∧ Lone s := by
  unfold LocksHeldByOne Lone
  rw [calendarCoherent_iff]
  refine and_congr_right fun coherent => ?_
  have locks {e : Entry} (he : e ∈ s.calendar) : e.locks = true ↔ e.Engaged :=
    Entry.locks_iff (coherent.1.2.1 e he) (not_not.mp fun h => coherent.2 e.handle ⟨e, he, rfl, h⟩)
  constructor
  · exact fun h e he x hx ee ex => h e he x hx ((locks he).mpr ee) ((locks hx).mpr ex)
  · exact fun h e he x hx ee ex => h e he x hx ((locks he).mp ee) ((locks hx).mp ex)

/-! ### Changes of the calendar -/

section
variable {s t u : State}

/-- The core is kept, and with it the lock. -/
def Kept (s t : State) : Prop := Core s → Core t ∧ (Lone s → Lone t)

theorem Kept.refl (s : State) : Kept s s := fun core => ⟨core, id⟩

theorem Kept.trans (h : Kept s t) (k : Kept t u) : Kept s u := fun core => by
  obtain ⟨mid, lone⟩ := h core
  obtain ⟨last, lone'⟩ := k mid
  exact ⟨last, lone' ∘ lone⟩

/-- An entry of a changed calendar is the changed one or another. -/
theorem State.mem_modEntry {h : Nat} {f : Entry → Entry} {x : Entry} (nodup : s.handles.Nodup)
    (hx : x ∈ (s.modEntry h f).calendar) : (x ∈ s.calendar ∧ x.handle ≠ h) ∨ ∃ e, s.entry? h = some e ∧ x = f e := by
  obtain ⟨e, he, rfl⟩ := List.mem_map.mp hx
  by_cases here : e.handle = h
  · refine .inr ⟨e, here ▸ State.entry?_of_mem nodup he, ?_⟩
    rw [if_pos (by simpa using here)]
  · rw [if_neg (by simpa using here)]
    exact .inl ⟨he, here⟩

/-- Entries that follow others of their handle and group, none newly engaged, keep the lock held once. -/
theorem Lone.of_entries (h : ∀ x ∈ t.calendar, ∃ e ∈ s.calendar, x.handle = e.handle ∧ x.group = e.group ∧
    (x.Engaged → e.Engaged)) (lone : Lone s) : Lone t := by
  intro x hx y hy ex ey group
  obtain ⟨e, he, handle, group', engaged⟩ := h x hx
  obtain ⟨d, hd, handle', group'', engaged'⟩ := h y hy
  rw [handle, handle']
  exact lone e he d hd (engaged ex) (engaged' ey) (by rw [← group', ← group'', group])

/-- A channel that keeps its parts, and starts no flood. -/
def Channel.Releases (c d : Channel) : Prop :=
  d.openPart = c.openPart ∧ d.suspendedPart = c.suspendedPart ∧
    ∀ f, d.work = some (.flood f) → ∃ g, c.work = some (.flood g) ∧ g.entry = f.entry

theorem Channel.Releases.refl (c : Channel) : c.Releases c := ⟨rfl, rfl, fun f work => ⟨f, work, rfl⟩⟩

theorem Channel.Releases.floodsOpen {c d : Channel} (h : c.Releases d) (floods : c.FloodsOpen) : d.FloodsOpen := by
  intro f work k entry
  obtain ⟨g, before, same⟩ := h.2.2 f work
  rw [h.1]
  exact floods g before k (same ▸ entry)

theorem State.OwnsParts.of_parts {ph : Phase} (own : (t.chan ph).openPart = (s.chan ph).openPart ∧
      (t.chan ph).suspendedPart = (s.chan ph).suspendedPart)
    (parts : ∀ k x, x = .sending ∨ x = .suspended → s.partIs k ph x → t.partIs k ph x) (owns : s.OwnsParts ph) :
    t.OwnsParts ph := by
  obtain ⟨open_, suspended⟩ := owns
  refine ⟨fun h hh => parts h _ (.inl rfl) (open_ h (own.1 ▸ hh)), fun h hh => parts h _ (.inr rfl) (suspended h (own.2 ▸ hh))⟩

theorem State.partIs_of_same {k : Nat} {ph : Phase} {x : PartState} (same : t.calendar = s.calendar) :
    t.partIs k ph x ↔ s.partIs k ph x := by
  unfold State.partIs
  rw [State.entry?_of_same same]

/-- The calendar stays, and each channel's parts. -/
theorem Kept.of_releases (same : t.calendar = s.calendar) (channels : ∀ ph, (s.chan ph).Releases (t.chan ph)) : Kept s t := by
  rintro ⟨nodup, sane, owns⟩
  unfold Core Lone State.handles
  rw [same]
  refine ⟨⟨nodup, sane, fun ph => ⟨?_, (channels ph).floodsOpen (owns ph).2⟩⟩, id⟩
  exact (owns ph).1.of_parts ⟨(channels ph).1, (channels ph).2.1⟩ fun k x _ => (State.partIs_of_same same).mpr

theorem Kept.of_within {bs : List Block} (h : Within bs s t) (apart : Block.calendar ∉ bs ∧ Block.channels ∉ bs) :
    Kept s t := by
  refine .of_releases (h .calendar apart.1) fun ph => ?_
  unfold State.chan
  rw [h .channels apart.2]
  exact .refl _

/-- An entry changes, as sane and as engaged as it was. -/
theorem State.entries_modEntry (nodup : s.handles.Nodup) (sane : ∀ e ∈ s.calendar, e.Sane) (h : Nat) {f : Entry → Entry}
    (fixed : ∀ e, (f e).handle = e.handle ∧ (f e).group = e.group)
    (change : ∀ e, s.entry? h = some e → e.Sane → (f e).Sane ∧ ((f e).Engaged → e.Engaged)) :
    (s.modEntry h f).handles.Nodup ∧ (∀ e ∈ (s.modEntry h f).calendar, e.Sane) ∧ (Lone s → Lone (s.modEntry h f)) := by
  have handles : (s.modEntry h f).handles = s.handles := by
    unfold State.handles State.modEntry
    rw [List.map_map]
    refine List.map_congr_left fun e _ => ?_
    change (if (e.handle == h) = true then f e else e).handle = e.handle
    split
    · exact (fixed e).1
    · rfl
  refine ⟨handles ▸ nodup, fun x hx => ?_, Lone.of_entries fun x hx => ?_⟩
  · obtain ⟨hx, -⟩ | ⟨e, he, rfl⟩ := State.mem_modEntry nodup hx
    · exact sane x hx
    · exact (change e he (sane e (State.entry?_mem he))).1
  · obtain ⟨hx, -⟩ | ⟨e, he, rfl⟩ := State.mem_modEntry nodup hx
    · exact ⟨x, hx, rfl, rfl, id⟩
    · exact ⟨e, State.entry?_mem he, (fixed e).1, (fixed e).2, (change e he (sane e (State.entry?_mem he))).2⟩

/-- An entry changes, its parts SENDING and SUSPENDED staying so. -/
theorem Kept.modEntry (h : Nat) {f : Entry → Entry} (fixed : ∀ e, (f e).handle = e.handle ∧ (f e).group = e.group)
    (change : ∀ e, s.entry? h = some e → e.Sane → (f e).Sane ∧ ((f e).Engaged → e.Engaged) ∧ e.HoldsParts (f e)) :
    Kept s (s.modEntry h f) := by
  intro core
  obtain ⟨nodup, sane, lone⟩ := State.entries_modEntry core.1 core.2.1 h fixed fun e he sane =>
    ⟨(change e he sane).1, (change e he sane).2.1⟩
  refine ⟨⟨nodup, sane, fun ph => ⟨?_, (core.2.2 ph).2⟩⟩, lone⟩
  refine State.OwnsParts.of_parts (s := s) ⟨rfl, rfl⟩ (fun k x state => ?_) (core.2.2 ph).1
  rintro ⟨e, he, part⟩
  refine ⟨if e.handle == h then f e else e, ?_, ?_⟩
  · rw [Option.mem_def, State.entry?_modEntry h (fun e => (fixed e).1), he]
    rfl
  · split
    · rename_i here
      have handle : k = h := (State.entry?_handle he).symm.trans (by simpa using here)
      have holds := (change e (handle ▸ he) (core.2.1 e (State.entry?_mem he))).2.2 ph
      obtain rfl | rfl := state
      · exact holds.1 part
      · exact holds.2 part
    · exact part

/-- A part that is neither SENDING nor SUSPENDED changes, its start staying. -/
theorem Kept.modPart (h : Nat) (ph : Phase) {f : Part → Part} (start : ∀ p, (f p).start = p.start)
    (change : ∀ e, s.entry? h = some e → e.Sane →
      ((e.parts.get ph).state = .finished → (f (e.parts.get ph)).state = .finished) ∧
      (f (e.parts.get ph)).timed ∧
      ((e.parts.get ph).state = .sending → (f (e.parts.get ph)).state = .sending) ∧
      ((e.parts.get ph).state = .suspended → (f (e.parts.get ph)).state = .suspended)) :
    Kept s (s.modPart h ph f) := by
  refine .modEntry h (fun e => ⟨rfl, rfl⟩) fun e he sane => ?_
  obtain ⟨finished, timed, sending, suspended⟩ := change e he sane
  exact ⟨sane.modPart ph finished timed, (Entry.engaged_modPart ph start).mp, .modPart ph ⟨sending, suspended⟩⟩

/-- Entries that have finished leave the calendar. -/
theorem Kept.remove (h : Nat) (calendar : t.calendar = s.calendar.filter (fun e => e.handle != h))
    (channels : t.channels = s.channels) (ended : ∀ e, s.entry? h = some e → e.Sane → e.allFinished = true) : Kept s t := by
  rintro ⟨nodup, sane, owns⟩
  have kept {x : Entry} (hx : x ∈ t.calendar) : x ∈ s.calendar := by
    rw [calendar] at hx
    exact List.mem_of_mem_filter hx
  have chan (ph : Phase) : t.chan ph = s.chan ph := by
    unfold State.chan
    rw [channels]
  have handles : t.handles.Nodup := by
    unfold State.handles
    rw [calendar]
    exact nodup.sublist (List.filter_sublist.map _)
  refine ⟨⟨handles, fun x hx => sane x (kept hx), fun ph => ⟨?_, chan ph ▸ (owns ph).2⟩⟩,
    Lone.of_entries fun x hx => ⟨x, kept hx, rfl, rfl, id⟩⟩
  refine (owns ph).1.of_parts ⟨by rw [chan], by rw [chan]⟩ fun k x state => ?_
  rintro ⟨e, he, part⟩
  refine ⟨e, ?_, part⟩
  have handle := State.entry?_handle he
  have mem := State.entry?_mem he
  have stays : e.handle ≠ h := by
    intro here
    have all := (Entry.allFinished_iff e).mp (ended e (here ▸ handle ▸ he) (sane e mem)) ph
    rw [part] at all
    obtain rfl | rfl := state <;> cases all
  rw [← handle]
  exact State.entry?_of_mem handles (by rw [calendar]; exact List.mem_filter.mpr ⟨mem, by simpa using stays⟩)

/-- An owner's notice is queued, an entry whose outcome is recorded leaving the calendar with it (R26, R172). -/
theorem Kept.queueHeld (s : State) (p : Port) (o : HeldOwner) : Kept s (s.queueHeld p o) := by
  unfold State.queueHeld
  split
  · rename_i i item
    refine Kept.trans (.of_within (State.pushItem_ports s p i).within (by decide)) ?_
    cases o with
    | outcome h =>
        refine .remove h rfl rfl fun e he sane => ?_
        have here : s.entry? h = some e := (State.entry?_of_same (by rw [State.pushItem_ports])).symm.trans he
        unfold State.heldItem at item
        dsimp only at item
        rw [here] at item
        obtain ⟨r, recorded, -⟩ := Option.map_eq_some_iff.mp item
        exact sane.1 (.inl (sane.2.1 (by
          rw [Option.bind_some] at recorded
          rw [recorded]
          rfl)))
    | ping | storeDone | survey =>
        refine .of_releases rfl fun ph => ?_
        exact .refl _
  · exact .refl s

theorem Kept.offerHeld (s : State) (p : Port) (o : HeldOwner) : Kept s (s.offerHeld p o) := by
  unfold State.offerHeld
  split
  · exact .queueHeld s p o
  · exact .of_within (State.modPort_ports s p _).within (by decide)

theorem Kept.joinRetirement (s : State) (h : Nat) : Kept s (s.joinRetirement h) := by
  unfold State.joinRetirement
  split
  · rename_i e _
    have joined : Kept s { s with retirement := s.retirement.set e.origin (s.retirement.get e.origin ++ [h]) } :=
      .of_releases rfl fun _ => .refl _
    exact joined.trans (.offerHeld _ _ _)
  · exact .refl s

/-- The calendar's changes that finish no part keep the core. -/
theorem kept_calNotes : CalNotes Kept where
  refl := Kept.refl
  trans := Kept.trans
  offer s p k c := .of_within (s.offer_within p _) (by decide)
  join := Kept.joinRetirement
  note s h f noted progress := by
    refine .modEntry h (fun e => ⟨Entry.fixed_handle (noted.fixed e), Entry.fixed_group (noted.fixed e)⟩) fun e he sane => ?_
    have parts : (f e).parts = e.parts := by rw [noted e]
    have outcome : (f e).outcome = e.outcome := by rw [noted e]
    have record : (f e).record = e.record := by rw [noted e]
    exact ⟨sane.of_same parts outcome record (progress e he), .of_same sane parts outcome (progress e he), .of_same parts⟩
  decide s h e found ended := by
    refine .modEntry h (fun e => by split <;> exact ⟨rfl, rfl⟩) fun x hx sane => ?_
    cases Option.some.inj (hx.symm.trans found)
    split
    · exact ⟨sane, id, .of_same rfl⟩
    · refine ⟨⟨fun _ => ended, fun _ => rfl, sane.2.2⟩, fun engaged => ?_, .of_same rfl⟩
      cases engaged.1

end

end Sys2Proof.Machine
end

section
/-! PROOFS. What an event makes of the calendar leaves it coherent: parts that finish, and what follows the last of them
(R9, R16, R71). -/

namespace Sys2Proof.Machine

variable {s t u : State}

/-! ### Parts that finish (R6, R16, R71) -/

theorem Part.timed_finished {p : Part} (h : p.timed) (f : Finish) (needed : Bool) : (p.finished f needed).timed := by
  rintro (sending | suspended | sent)
  · cases sending
  · cases suspended
  · exact h (.inr (.inr sent))

/-- The calendar of a part's finish (R6). -/
theorem State.finishPart_calendar (s : State) (h : Nat) (ph : Phase) (f : Finish) :
    ∃ needed, (s.finishPart h ph f).calendar = (s.modPart h ph (·.finished f needed)).calendar := by
  unfold State.finishPart
  split
  · rename_i e found
    dsimp only
    split
    · exact ⟨_, rfl⟩
    · refine ⟨s.needed e.group ph, ?_⟩
      rw [State.offer_ports]
      rfl
  · rename_i absent
    refine ⟨false, ?_⟩
    unfold State.modPart State.modEntry
    refine (List.map_id s.calendar).symm.trans (List.map_congr_left fun e he => ?_)
    rw [if_neg (by simpa using State.entry?_eq_none_iff.mp absent e he)]
    rfl

theorem State.finishPart_within (s : State) (h : Nat) (ph : Phase) (f : Finish) :
    Within [.ports, .calendar] s (s.finishPart h ph f) := by
  unfold State.finishPart
  split
  · dsimp only
    split
    · exact (s.modEntry_within h _).mono (by decide)
    · exact (s.modEntry_within h _).then (State.offer_within _ _ _) (by decide)
  · exact Within.refl _ s

/-- Another entry's part, and one on another phase, stays as one part of an entry changes. -/
theorem State.partIs_modEntry {h : Nat} {ph : Phase} {f : Entry → Entry} (calendar : t.calendar = (s.modEntry h f).calendar)
    (keeps : ∀ e, (f e).handle = e.handle) (elsewhere : ∀ e, ∀ q ≠ ph, (f e).parts.get q = e.parts.get q) {k : Nat}
    {q : Phase} {x : PartState} (apart : k ≠ h ∨ q ≠ ph) (part : s.partIs k q x) : t.partIs k q x := by
  obtain ⟨e, he, state⟩ := part
  refine ⟨if e.handle == h then f e else e, ?_, ?_⟩
  · rw [Option.mem_def, State.entry?_of_same calendar, State.entry?_modEntry h keeps, he]
    rfl
  · split
    · rename_i here
      obtain other | other := apart
      · exact absurd ((State.entry?_handle he).symm.trans (by simpa using here)) other
      · rw [elsewhere e q other]
        exact state
    · exact state

/-- A part finishes that no channel has any longer for its own. -/
theorem Kept.finished {h : Nat} {ph : Phase} {f : Finish} {needed : Bool}
    (calendar : t.calendar = (s.modPart h ph (·.finished f needed)).calendar)
    (others : ∀ k ≠ ph, t.chan k = s.chan k)
    (own : Core s → (∀ k ∈ (t.chan ph).openPart, k ≠ h ∧ k ∈ (s.chan ph).openPart) ∧
      (∀ k ∈ (t.chan ph).suspendedPart, k ≠ h ∧ k ∈ (s.chan ph).suspendedPart) ∧ (t.chan ph).FloodsOpen) : Kept s t := by
  intro core
  obtain ⟨nodup, sane, lone⟩ := State.entries_modEntry core.1 core.2.1 h (f := fun e => e.modPart ph (·.finished f needed))
    (fun _ => ⟨rfl, rfl⟩) fun e he sane =>
      ⟨sane.modPart ph (fun _ => rfl) (Part.timed_finished (sane.2.2 ph) f needed),
        (Entry.engaged_modPart (f := (·.finished f needed)) ph fun _ => rfl).mp⟩
  obtain ⟨open_, suspended, floods⟩ := own core
  have stays {k : Nat} {q : Phase} {x : PartState} (apart : k ≠ h ∨ q ≠ ph) : s.partIs k q x → t.partIs k q x :=
    State.partIs_modEntry calendar (fun _ => rfl) (fun e r other => by rw [Entry.parts_modPart, if_neg other]) apart
  unfold Core Lone State.handles
  rw [calendar]
  refine ⟨⟨nodup, sane, fun q => ?_⟩, lone⟩
  by_cases here : q = ph
  · subst here
    refine ⟨⟨fun k hk => ?_, fun k hk => ?_⟩, floods⟩
    · obtain ⟨other, before⟩ := open_ k hk
      exact stays (.inl other) ((core.2.2 q).1.1 k before)
    · obtain ⟨other, before⟩ := suspended k hk
      exact stays (.inl other) ((core.2.2 q).1.2 k before)
  · refine ⟨(core.2.2 q).1.of_parts ⟨by rw [others q here], by rw [others q here]⟩ fun k x _ => stays (.inr here), ?_⟩
    rw [others q here]
    exact (core.2.2 q).2

/-- A part of an entry's that a channel has for its own, in the core. -/
theorem Core.openPart (core : Core s) {h : Nat} {ph : Phase} {e : Entry} (open_ : (s.chan ph).openPart = some h)
    (found : s.entry? h = some e) : (e.parts.get ph).state = .sending := by
  obtain ⟨x, hx, state⟩ := (core.2.2 ph).1.1 h open_
  cases Option.some.inj (hx.symm.trans found)
  exact state

theorem Core.suspendedPart (core : Core s) {h : Nat} {ph : Phase} {e : Entry}
    (suspended : (s.chan ph).suspendedPart = some h) (found : s.entry? h = some e) :
    (e.parts.get ph).state = .suspended := by
  obtain ⟨x, hx, state⟩ := (core.2.2 ph).1.2 h suspended
  cases Option.some.inj (hx.symm.trans found)
  exact state

theorem Channel.giveUp_openPart (c : Channel) (h : Nat) :
    (c.giveUp h).openPart = if c.openPart = some h then none else c.openPart := by
  unfold Channel.giveUp
  dsimp only
  split_ifs <;> first | rfl | contradiction

theorem Channel.giveUp_suspendedPart (c : Channel) (h : Nat) :
    (c.giveUp h).suspendedPart = if c.suspendedPart = some h then none else c.suspendedPart := by
  unfold Channel.giveUp
  dsimp only
  split_ifs <;> first | rfl | contradiction

/-- The calendar's changes keep the core. -/
theorem kept_calKeeps : CalKeeps Kept where
  toCalNotes := kept_calNotes
  finish s h ph f needed e found waits := by
    refine .modPart h ph (fun _ => rfl) fun x hx sane => ?_
    cases Option.some.inj (hx.symm.trans found)
    refine ⟨fun _ => rfl, Part.timed_finished (sane.2.2 ph) f needed, fun state => ?_, fun state => ?_⟩
    · rw [Part.unstarted, state] at waits
      cases waits
    · rw [Part.unstarted, state] at waits
      cases waits
  stop s h ph f e found state := by
    obtain ⟨needed, calendar⟩ := s.finishPart_calendar h ph f
    have chan (k : Phase) : (s.finishPart h ph f).chan k = s.chan k := by
      unfold State.chan
      rw [s.finishPart_within h ph f .channels (by decide)]
    refine .finished (f := f) (needed := needed) calendar (fun k apart => ?_) fun core => ?_
    · rw [State.chan_modChan_ne _ _ apart, chan]
    · rw [State.chan_modChan_self, chan, Channel.giveUp_openPart, Channel.giveUp_suspendedPart]
      have kept {o : Option Nat} : ∀ k ∈ (if o = some h then none else o), k ≠ h ∧ k ∈ o := by
        intro k hk
        split at hk
        · cases hk
        · rename_i apart
          exact ⟨fun same => apart (same ▸ hk), hk⟩
      refine ⟨kept, kept, fun g work k entry => ?_⟩
      rw [Channel.giveUp_openPart]
      rw [Channel.giveUp_work] at work
      have open_ := (core.2.2 ph).2 g work k entry
      have apart : k ≠ h := by
        rintro rfl
        have sending := core.openPart open_ found
        obtain suspended | ⟨-, free⟩ := state
        · rw [sending] at suspended
          cases suspended
        · unfold State.floodOf at free
          rw [work] at free
          dsimp only at free
          rw [Option.mem_def.mp entry] at free
          simp at free
      rw [open_, if_neg (fun same => apart (Option.some.inj same))]
  ready s h ph e found waiting := by
    refine .modPart h ph (fun _ => rfl) fun x hx sane => ?_
    cases Option.some.inj (hx.symm.trans found)
    rw [waiting]
    refine ⟨fun h => (nomatch h), ?_, fun h => (nomatch h), fun h => (nomatch h)⟩
    rintro (h | h | sent)
    · cases h
    · cases h
    · exact sane.2.2 ph (.inr (.inr sent))
  wait s h ph e found ready := by
    refine .modPart h ph (fun _ => rfl) fun x hx sane => ?_
    cases Option.some.inj (hx.symm.trans found)
    rw [ready]
    refine ⟨fun h => (nomatch h), ?_, fun h => (nomatch h), fun h => (nomatch h)⟩
    rintro (h | h | sent)
    · cases h
    · cases h
    · exact sane.2.2 ph (.inr (.inr sent))
  replan s h := by
    refine .modEntry h (fun e => ⟨rfl, rfl⟩) fun e he sane => ?_
    have part (ph : Phase) : ((s.replanned e).parts.get ph).state = (e.parts.get ph).state ∧
        ((s.replanned e).parts.get ph).start = (e.parts.get ph).start ∧
        ((s.replanned e).parts.get ph).sent = (e.parts.get ph).sent := by
      have eq : (s.replanned e).parts.get ph =
          if (e.parts.get ph).unstarted then (e.parts.get ph).replan (s.plan e.group e.cls e.activation ph)
          else e.parts.get ph := by
        cases ph <;> rfl
      rw [eq]
      split <;> exact ⟨rfl, rfl, rfl⟩
    refine ⟨⟨fun decided => ?_, sane.2.1, fun ph => ?_⟩, fun engaged => ⟨engaged.1, engaged.2.imp_left fun begun => ?_⟩,
      fun ph => ?_⟩
    · have all := (Entry.allFinished_iff e).mp (sane.1 decided)
      exact (Entry.allFinished_iff _).mpr fun ph => (part ph).1.trans (all ph)
    · unfold Part.timed
      rw [(part ph).1, (part ph).2.1, (part ph).2.2]
      exact sane.2.2 ph
    · obtain ⟨ph, start⟩ := (Entry.anyStarted_iff _).mp begun
      exact (Entry.anyStarted_iff e).mpr ⟨ph, (part ph).2.1 ▸ start⟩
    · rw [(part ph).1]
      exact ⟨id, id⟩

/-! ### What follows the last part (R9) -/

/-- One entry alone changes, its handle staying. -/
def Edits (h : Nat) (s t : State) : Prop :=
  ∃ f : Entry → Entry, (∀ e, (f e).handle = e.handle) ∧
    t.calendar = s.calendar.map (fun e => if e.handle == h then f e else e)

section
variable {h : Nat}

theorem Edits.of_same (same : t.calendar = s.calendar) : Edits h s t := by
  refine ⟨id, fun _ => rfl, ?_⟩
  rw [same]
  refine (List.map_id s.calendar).symm.trans (List.map_congr_left fun e _ => ?_)
  split <;> rfl

theorem Edits.of_within {bs : List Block} (within : Within bs s t) (apart : Block.calendar ∉ bs) : Edits h s t :=
  .of_same (within .calendar apart)

theorem Edits.trans (a : Edits h s t) (b : Edits h t u) : Edits h s u := by
  obtain ⟨f, keeps, first⟩ := a
  obtain ⟨g, keeps', second⟩ := b
  refine ⟨g ∘ f, fun e => (keeps' _).trans (keeps e), ?_⟩
  rw [second, first, List.map_map]
  refine List.map_congr_left fun e _ => ?_
  simp only [Function.comp]
  by_cases here : e.handle == h
  · rw [if_pos here, if_pos (by rw [keeps]; exact here), if_pos here]
  · rw [if_neg here, if_neg here, if_neg here]

theorem Edits.modEntry (s : State) (h : Nat) {f : Entry → Entry} (keeps : ∀ e, (f e).handle = e.handle) :
    Edits h s (s.modEntry h f) := ⟨f, keeps, rfl⟩

theorem Edits.finishPart (s : State) (h : Nat) (ph : Phase) (f : Finish) : Edits h s (s.finishPart h ph f) := by
  obtain ⟨needed, calendar⟩ := s.finishPart_calendar h ph f
  exact ⟨fun e => e.modPart ph (·.finished f needed), fun _ => rfl, calendar⟩

theorem Edits.stopPart (s : State) (h : Nat) (ph : Phase) : Edits h s (s.stopPart h ph) := by
  have given (f : Finish) : Edits h s ((s.finishPart h ph f).modChan ph (·.giveUp h)) :=
    (Edits.finishPart s h ph f).trans (.of_within (State.modChan_within _ ph _) (by decide))
  unfold State.stopPart
  split
  · dsimp only
    split
    · exact .finishPart s h ph _
    · exact .finishPart s h ph _
    · exact given _
    · split
      · exact .of_same rfl
      · exact given _
    · exact .of_same rfl
  · exact .of_same rfl

theorem Edits.rereadPart (s : State) (h : Nat) (ph : Phase) : Edits h s (s.rereadPart h ph) := by
  unfold State.rereadPart
  split
  · dsimp only
    split
    · split_ifs
      · exact .modEntry s h fun _ => rfl
      · exact .finishPart s h ph _
      · exact .of_same rfl
    · split_ifs
      · exact .finishPart s h ph _
      · exact .modEntry s h fun _ => rfl
      · exact .of_same rfl
    · exact .of_same rfl
  · exact .of_same rfl

theorem Edits.stopParts (s : State) (h : Nat) : Edits h s (s.stopParts h) :=
  foldl_frame (Edits h) (fun _ => .of_same rfl) Edits.trans _ (fun s ph => .stopPart s h ph) _ s

theorem Edits.rereadParts (s : State) (h : Nat) : Edits h s (s.rereadParts h) :=
  foldl_frame (Edits h) (fun _ => .of_same rfl) Edits.trans _ (fun s ph => .rereadPart s h ph) _ s

theorem Edits.reviewParts (s : State) (recomputes cutOff : Bool) (h : Nat) :
    Edits h s (s.reviewParts recomputes cutOff h) := by
  have after (u : State) : Edits h u (if cutOff then u.reachCutOff h else u.rereadParts h) := by
    split
    · exact (Edits.modEntry u h (f := fun e => { e with cutOffReached := true }) fun _ => rfl).trans (.stopParts _ h)
    · exact .rereadParts u h
  have replanned : Edits h s (if recomputes then s.modEntry h s.replanned else s) := by
    split
    · exact .modEntry s h fun _ => rfl
    · exact .of_same rfl
  exact replanned.trans (after _)

theorem Edits.unsettled (edits : Edits h s t) {k : Nat} (waits : Unsettled t k) : k = h ∨ Unsettled s k := by
  obtain ⟨f, keeps, calendar⟩ := edits
  obtain ⟨x, hx, handle, open_⟩ := waits
  rw [calendar] at hx
  obtain ⟨e, he, rfl⟩ := List.mem_map.mp hx
  by_cases here : e.handle == h
  · rw [if_pos here, keeps] at handle
    exact .inl (handle.symm.trans (by simpa using here))
  · rw [if_neg here] at handle open_
    exact .inr ⟨e, he, handle, open_⟩

end

/-- The core is kept, and no entry waits that did not before. -/
def Steady (s t : State) : Prop := Core s → (Core t ∧ (Lone s → Lone t)) ∧ ∀ h, Unsettled t h → Unsettled s h

theorem Steady.refl (s : State) : Steady s s := fun core => ⟨⟨core, id⟩, fun _ => id⟩

theorem Steady.trans (h : Steady s t) (k : Steady t u) : Steady s u := fun core => by
  obtain ⟨⟨mid, lone⟩, less⟩ := h core
  obtain ⟨⟨last, lone'⟩, less'⟩ := k mid
  exact ⟨⟨last, lone' ∘ lone⟩, fun h => less h ∘ less' h⟩

theorem Steady.of_kept (kept : Kept s t) (sub : ∀ e ∈ t.calendar, e ∈ s.calendar) : Steady s t := fun core =>
  ⟨kept core, fun _ ⟨e, he, waits⟩ => ⟨e, sub e he, waits⟩⟩

theorem Steady.of_releases (same : t.calendar = s.calendar) (channels : ∀ ph, (s.chan ph).Releases (t.chan ph)) :
    Steady s t := .of_kept (.of_releases same channels) fun _ he => same ▸ he

theorem Steady.of_within {bs : List Block} (h : Within bs s t) (apart : Block.calendar ∉ bs ∧ Block.channels ∉ bs) :
    Steady s t := .of_kept (.of_within h apart) fun _ he => h .calendar apart.1 ▸ he

theorem State.queueHeld_subset (s : State) (p : Port) (o : HeldOwner) :
    ∀ e ∈ (s.queueHeld p o).calendar, e ∈ s.calendar := by
  unfold State.queueHeld
  split
  · rename_i i _
    have pushed : (s.pushItem p i).calendar = s.calendar := by
      rw [State.pushItem_ports]
    cases o with
    | outcome h => exact fun e he => pushed ▸ List.mem_of_mem_filter he
    | ping | storeDone | survey => exact fun e he => pushed ▸ he
  · exact fun _ => id

theorem State.joinRetirement_subset (s : State) (h : Nat) : ∀ e ∈ (s.joinRetirement h).calendar, e ∈ s.calendar := by
  unfold State.joinRetirement
  split
  · unfold State.offerHeld
    split
    · exact State.queueHeld_subset _ _ _
    · exact fun _ => id
  · exact fun _ => id

theorem steady_calNotes : CalNotes Steady where
  refl := Steady.refl
  trans := Steady.trans
  offer s p k c := .of_within (s.offer_within p _) (by decide)
  join s h := .of_kept (.joinRetirement s h) (s.joinRetirement_subset h)
  note s h f noted progress := by
    refine fun core => ⟨kept_calNotes.note s h f noted progress core, ?_⟩
    rintro k ⟨x, hx, handle, waits⟩
    obtain ⟨hx, -⟩ | ⟨e, he, rfl⟩ := State.mem_modEntry core.1 hx
    · exact ⟨x, hx, handle, waits⟩
    · refine ⟨e, State.entry?_mem he, ?_, fun settles => waits ?_⟩
      · exact (Entry.fixed_handle (noted.fixed e)).symm.trans handle
      · exact (progress e he).settles (by rw [noted e]) (by rw [noted e]) settles
  decide s h e found ended := by
    refine fun core => ⟨kept_calNotes.decide s h e found ended core, ?_⟩
    rintro k ⟨x, hx, handle, waits⟩
    obtain ⟨hx, -⟩ | ⟨y, hy, rfl⟩ := State.mem_modEntry core.1 hx
    · exact ⟨x, hx, handle, waits⟩
    · split at waits
      · rename_i decided
        exact absurd (fun _ => .inl decided) waits
      · exact absurd (fun _ => .inl rfl) waits

/-- An entry that settles is the only one of its handle. -/
theorem Core.settles (core : Core s) {h : Nat} {e : Entry} (found : s.entry? h = some e) (settles : e.Settles) :
    ¬ Unsettled s h := by
  rintro ⟨x, hx, handle, waits⟩
  cases Option.some.inj ((handle ▸ State.entry?_of_mem core.1 hx).symm.trans found)
  exact waits settles

/-- What follows the finish of an entry's last part has then been done for it. -/
theorem State.settleEntry_settled (core : Core s) (h : Nat) : ¬ Unsettled (s.settleEntry h) h := by
  unfold State.settleEntry
  split
  · rename_i e found
    split_ifs with goes confirms
    · refine core.settles found fun ended => ?_
      rw [ended] at goes
      simpa using goes
    · simp only [Bool.or_eq_true, not_or, Bool.and_eq_true, Bool.not_eq_true', Bool.not_eq_false] at goes confirms
      have progress : ∀ x, s.entry? h = some x → x.Progresses (s.withProgress x) := fun x hx => by
        cases Option.some.inj (hx.symm.trans found)
        exact .inr ⟨goes.1.1, confirms.2, rfl⟩
      have begun := (kept_calNotes.note s h s.withProgress (fun _ => rfl) progress core).1
      refine fun waits => ?_
      refine begun.settles (e := s.withProgress e) (State.entry?_modEntry_self (fun _ => rfl) found) (fun _ => .inr rfl) ?_
      have open_ : s.Undecided h := fun x hx => by
        cases Option.some.inj (hx.symm.trans found)
        simpa using goes.1.2
      exact (steady_calNotes.confirmingBegun (s.modEntry h s.withProgress) h (open_.modEntry fun _ => ⟨rfl, rfl⟩) begun).2 h
        waits
    · have decided : ∀ x, (if x.outcome.isSome then x else x.retired : Entry).handle = x.handle := fun x => by
        split <;> rfl
      simp only [Bool.or_eq_true, not_or, Bool.not_eq_true', Bool.not_eq_false] at goes
      refine (kept_calNotes.decide s h e found goes.1.1 core).1.settles (State.entry?_modEntry_self decided found) fun _ => ?_
      split
      · rename_i outcome
        exact .inl outcome
      · exact .inl rfl
  · rename_i absent
    rintro ⟨e, he, handle, -⟩
    exact State.entry?_eq_none_iff.mp absent e he handle

theorem State.reviewEntry_settled (core : Core s) (h : Nat) : ¬ Unsettled (s.reviewEntry h) h := fun waits =>
  State.settleEntry_settled core h
    ((steady_calNotes.judgeCutShort _ h (steady_calNotes.settleEntry s h core).1.1).2 h waits)

/-! ### Events (R14, R16, R20 to R22) -/

/-- A coherent calendar stays so, and the lock held once. -/
def Orderly (s t : State) : Prop := Coherent s → Coherent t ∧ (Lone s → Lone t)

theorem Orderly.refl (s : State) : Orderly s s := fun h => ⟨h, id⟩

theorem Orderly.trans (h : Orderly s t) (k : Orderly t u) : Orderly s u := fun coherent => by
  obtain ⟨mid, lone⟩ := h coherent
  obtain ⟨last, lone'⟩ := k mid
  exact ⟨last, lone' ∘ lone⟩

theorem Steady.orderly (h : Steady s t) : Orderly s t := fun ⟨core, settled⟩ => by
  obtain ⟨⟨core', lone⟩, less⟩ := h core
  exact ⟨⟨core', fun k waits => settled k (less k waits)⟩, lone⟩

/-- The parts of one entry change and what follows is done. -/
theorem Orderly.settled (h : Nat) (kept : Kept s t) (edits : Edits h s t) : Orderly s (t.settleEntry h) := by
  rintro ⟨core, settled⟩
  obtain ⟨core', lone⟩ := kept core
  obtain ⟨⟨core'', lone'⟩, less⟩ := steady_calNotes.settleEntry t h core'
  refine ⟨⟨core'', fun k waits => ?_⟩, lone' ∘ lone⟩
  obtain rfl | before := edits.unsettled (less k waits)
  · exact State.settleEntry_settled core' k waits
  · exact settled k before

/-- The parts of some entries come first, and then what follows for each of them (R14, log 27). -/
theorem Orderly.review (s : State) (recomputes : Bool) (test cutOff : Entry → Bool) :
    Orderly s (s.review recomputes test cutOff) := by
  have parts (l : List Entry) : ∀ s, Core s →
      let t := l.foldl (fun s e => s.reviewParts recomputes (cutOff e) e.handle) s
      (Core t ∧ (Lone s → Lone t)) ∧ ∀ k, Unsettled t k → k ∈ l.map (·.handle) ∨ Unsettled s k := by
    induction l with
    | nil => exact fun s core => ⟨⟨core, id⟩, fun k => .inr⟩
    | cons e rest ih =>
        intro s core
        obtain ⟨core', lone⟩ := kept_calKeeps.reviewParts s recomputes (cutOff e) e.handle core
        obtain ⟨⟨core'', lone'⟩, less⟩ := ih _ core'
        refine ⟨⟨core'', lone' ∘ lone⟩, fun k waits => ?_⟩
        rw [List.map_cons, List.mem_cons, or_assoc]
        obtain later | first := less k waits
        · exact .inr (.inl later)
        · obtain here | before := (Edits.reviewParts s recomputes (cutOff e) e.handle).unsettled first
          · exact .inl here
          · exact .inr (.inr before)
  have follows (l : List Entry) : ∀ s, Core s →
      let t := l.foldl (fun s e => s.reviewEntry e.handle) s
      (Core t ∧ (Lone s → Lone t)) ∧ ∀ k, Unsettled t k → k ∉ l.map (·.handle) ∧ Unsettled s k := by
    induction l with
    | nil => exact fun s core => ⟨⟨core, id⟩, fun k waits => ⟨List.not_mem_nil, waits⟩⟩
    | cons e rest ih =>
        intro s core
        obtain ⟨⟨core', lone⟩, less⟩ := steady_calNotes.reviewEntry s e.handle core
        obtain ⟨⟨core'', lone'⟩, less'⟩ := ih _ core'
        refine ⟨⟨core'', lone' ∘ lone⟩, fun k waits => ?_⟩
        obtain ⟨apart, first⟩ := less' k waits
        refine ⟨fun mem => ?_, less k first⟩
        rw [List.map_cons, List.mem_cons] at mem
        obtain rfl | mem := mem
        · exact State.reviewEntry_settled core e.handle first
        · exact apart mem
  rintro ⟨core, settled⟩
  obtain ⟨⟨core', lone⟩, first⟩ := parts (s.calendar.filter test) s core
  obtain ⟨⟨core'', lone'⟩, then_⟩ := follows (s.calendar.filter test) _ core'
  refine ⟨⟨core'', fun k waits => ?_⟩, lone' ∘ lone⟩
  obtain ⟨apart, before⟩ := then_ k waits
  exact (first k before).elim apart (settled k)

theorem orderly_calActs : CalActs Orderly where
  refl := Orderly.refl
  trans := Orderly.trans
  offer s p k c := (steady_calNotes.offer s p k c).orderly
  join s h := (steady_calNotes.join s h).orderly
  mark s h f noted progress _ := (steady_calNotes.note s h f noted progress).orderly
  conclude s h e found ended _ := (steady_calNotes.decide s h e found ended).orderly
  review := Orderly.review
  withdraw s h _ := by
    unfold State.cancelled
    refine Orderly.trans ?_ (steady_calNotes.settleConfirm _ h).orderly
    refine .settled h ?_ ((Edits.modEntry s h (f := fun e => { e with cancelled := true }) fun _ => rfl).trans
      (.stopParts _ h))
    refine Kept.trans ?_ (kept_calKeeps.stopParts _ h)
    exact kept_calNotes.note s h (fun e => { e with cancelled := true }) (fun _ => rfl) fun _ _ => .inl rfl
  reach s h ph := .settled h (kept_calKeeps.rereadPart s h ph) (.rereadPart s h ph)
  reread s h := .settled h (kept_calKeeps.rereadParts s h) (.rereadParts s h)

end Sys2Proof.Machine
end

section
/-! PROOFS. The events of the channels leave the calendar coherent and the group lock held once (R55, R64 to R72). -/

namespace Sys2Proof.Machine

variable {s t u : State} {ph : Phase} {h : Nat} {e : Entry}

/-! ### A part that a channel takes for its open part (R65, R67, R68, R70) -/

/-- The core, but for a flood of one channel. -/
def CoreBut (ph : Phase) (s : State) : Prop :=
  s.handles.Nodup ∧ (∀ e ∈ s.calendar, e.Sane) ∧ (∀ q, s.OwnsParts q) ∧ ∀ q ≠ ph, (s.chan q).FloodsOpen

theorem Core.but (core : Core s) (ph : Phase) : CoreBut ph s :=
  ⟨core.1, core.2.1, fun q => (core.2.2 q).1, fun q _ => (core.2.2 q).2⟩

/-- A channel whose open part is this entry's, and which floods it. -/
def Channel.Seats (c : Channel) (h : Nat) : Prop :=
  c.openPart = some h ∧ ∃ f, c.work = some (.flood f) ∧ f.entry = some h

/-- A part that has become SENDING is its channel's open part, and the channel floods nothing else. -/
theorem CoreBut.seat (but : CoreBut ph s) (found : s.entry? h = some e) {f : Entry → Entry}
    (calendar : t.calendar = (s.modEntry h f).calendar) (fixed : ∀ e, (f e).handle = e.handle ∧ (f e).group = e.group)
    (elsewhere : ∀ e, ∀ q ≠ ph, (f e).parts.get q = e.parts.get q) (sane : (f e).Sane)
    (sending : ((f e).parts.get ph).state = .sending) (seats : (t.chan ph).Seats h)
    (suspended : ∀ k ∈ (t.chan ph).suspendedPart, k ≠ h ∧ k ∈ (s.chan ph).suspendedPart)
    (others : ∀ q ≠ ph, t.chan q = s.chan q) : Core t := by
  obtain ⟨nodup, all, owns, floods⟩ := but
  have handles : t.handles = s.handles := by
    unfold State.handles
    rw [calendar, State.modEntry, List.map_map]
    refine List.map_congr_left fun x _ => ?_
    change (if (x.handle == h) = true then f x else x).handle = x.handle
    split
    · exact (fixed x).1
    · rfl
  have own : t.entry? h = some (f e) :=
    (State.entry?_of_same calendar).trans (State.entry?_modEntry_self (fun x => (fixed x).1) found)
  have stays {k : Nat} {q : Phase} {x : PartState} (apart : k ≠ h ∨ q ≠ ph) : s.partIs k q x → t.partIs k q x :=
    State.partIs_modEntry calendar (fun x => (fixed x).1) elsewhere apart
  refine ⟨handles ▸ nodup, fun x hx => ?_, fun q => ?_⟩
  · rw [calendar] at hx
    obtain ⟨hx, -⟩ | ⟨y, hy, rfl⟩ := State.mem_modEntry nodup hx
    · exact all x hx
    · cases Option.some.inj (hy.symm.trans found)
      exact sane
  · by_cases here : q = ph
    · subst here
      obtain ⟨open_, g, flood, own'⟩ := seats
      refine ⟨⟨fun k hk => ?_, fun k hk => ?_⟩, fun g' work k entry => ?_⟩
      · cases Option.some.inj (open_.symm.trans hk)
        exact ⟨f e, own, sending⟩
      · obtain ⟨apart, before⟩ := suspended k hk
        exact stays (.inl apart) ((owns q).2 k before)
      · cases Option.some.inj (flood.symm.trans work)
        cases Option.some.inj (own'.symm.trans entry)
        exact open_
    · refine ⟨(owns q).of_parts ⟨by rw [others q here], by rw [others q here]⟩ fun k x _ => stays (.inr here), ?_⟩
      rw [others q here]
      exact floods q here

/-- An entry with a part that has not finished waits for nothing. -/
theorem Unsettled.of_open (nodup : s.handles.Nodup) {f : Entry → Entry} (calendar : t.calendar = (s.modEntry h f).calendar)
    (open_ : ∀ e, s.entry? h = some e → ((f e).parts.get ph).state ≠ .finished) {k : Nat} (waits : Unsettled t k) :
    Unsettled s k := by
  obtain ⟨x, hx, handle, unsettled⟩ := waits
  rw [calendar] at hx
  obtain ⟨hx, -⟩ | ⟨e, he, rfl⟩ := State.mem_modEntry nodup hx
  · exact ⟨x, hx, handle, unsettled⟩
  · exact absurd (fun ended => absurd ((Entry.allFinished_iff _).mp ended ph) (open_ e he)) unsettled

/-! ### The repeats of a part (R64, R65) -/

/-- A channel as a frame of this work starts on it (R56, R59, R65). -/
def Channel.carrying (c : Channel) (w : Work) : Channel :=
  { c with
    state := .sending, work := some w, gapLeft := none, quiet := false, haltPending := c.haltPending || c.bufferBad }

theorem State.transmit_chan_self (s : State) (ph : Phase) (w : Work) :
    (s.transmit ph w).chan ph = (s.chan ph).carrying w := State.chan_modChan_self s ph (·.carrying w)

theorem State.transmit_chan_ne (s : State) {ph q : Phase} (w : Work) (apart : q ≠ ph) :
    (s.transmit ph w).chan q = s.chan q := State.chan_modChan_ne s (·.carrying w) apart

/-- What the start of a repeat makes of the channels. -/
theorem State.sendRepeat_chan (found : s.entry? h = some e) (ph : Phase) :
    ((s.sendRepeat h ph).chan ph).openPart = (s.chan ph).openPart ∧
      ((s.sendRepeat h ph).chan ph).suspendedPart = (s.chan ph).suspendedPart ∧
      (∃ f, ((s.sendRepeat h ph).chan ph).work = some (.flood f) ∧ f.entry = some h) ∧
      ∀ q ≠ ph, (s.sendRepeat h ph).chan q = s.chan q := by
  have sent : s.sendRepeat h ph = s.transmit ph (.flood (s.nextFlood e ph)) := by
    unfold State.sendRepeat
    rw [found]
  rw [sent, State.transmit_chan_self]
  exact ⟨rfl, rfl, ⟨_, rfl, congrArg some (State.entry?_handle found)⟩, fun q apart => s.transmit_chan_ne _ apart⟩

theorem State.sendRepeat_calendar (s : State) (h : Nat) (ph : Phase) : (s.sendRepeat h ph).calendar = s.calendar :=
  s.sendRepeat_within ph h .calendar (by decide)

/-- The next repeat of a channel's open part keeps the calendar coherent. -/
theorem Coherent.sendRepeat (coherent : Coherent s) (open_ : (s.chan ph).openPart = some h) :
    Coherent (s.sendRepeat h ph) ∧ (Lone s → Lone (s.sendRepeat h ph)) := by
  obtain ⟨core, settled⟩ := coherent
  obtain ⟨e, found, sending⟩ := (core.2.2 ph).1.1 h open_
  obtain ⟨own, suspended, flood, others⟩ := State.sendRepeat_chan found ph
  have same : (s.sendRepeat h ph).calendar = (s.modEntry h id).calendar := by
    rw [State.sendRepeat_calendar]
    refine (List.map_id s.calendar).symm.trans (List.map_congr_left fun x _ => ?_)
    split <;> rfl
  refine ⟨⟨?_, ?_⟩, ?_⟩
  · refine (core.but ph).seat found same (fun _ => ⟨rfl, rfl⟩) (fun _ _ _ => rfl) (core.2.1 e (State.entry?_mem found)) sending
      ⟨own.trans open_, flood⟩ (fun k hk => ?_) others
    rw [suspended] at hk
    refine ⟨?_, hk⟩
    rintro rfl
    rw [core.suspendedPart hk found] at sending
    cases sending
  · unfold Unsettled
    rw [State.sendRepeat_calendar]
    exact settled
  · unfold Lone
    rw [State.sendRepeat_calendar]
    exact id

/-- A part as it starts (R65). -/
def Entry.begunPart (e : Entry) (ph : Phase) (now : Nat) (sequence : Option Byte) : Entry :=
  { e with sequence }.modPart ph (fun p => { p with state := .sending, start := some now })

/-- The calendar and the channels of a part's start (R64, R65). -/
theorem State.startPart_eq (found : s.entry? h = some e) (ph : Phase) :
    (∃ sequence : Entry → Option Byte, (s.startPart h ph).calendar =
      (s.modEntry h (fun x => x.begunPart ph (s.crossingNow ph) (sequence x))).calendar) ∧
    ((s.startPart h ph).chan ph).Seats h ∧
    ((s.startPart h ph).chan ph).suspendedPart = (s.chan ph).suspendedPart ∧
    ∀ q ≠ ph, (s.startPart h ph).chan q = s.chan q := by
  have begun : ∃ sequence : Entry → Option Byte,
      (if e.sequence.isNone then s.beginSending e else s).calendar =
        (s.modEntry h (fun x => { x with sequence := sequence x })).calendar := by
    split
    · refine ⟨fun _ => some ((s.group e.group).sequence + 1), ?_⟩
      rw [State.beginSending_calendar, State.entry?_handle found]
    · refine ⟨fun x => x.sequence, ?_⟩
      refine (List.map_id s.calendar).symm.trans (List.map_congr_left fun x _ => ?_)
      split <;> rfl
  have chan (q : Phase) : (if e.sequence.isNone then s.beginSending e else s).chan q = s.chan q := by
    split
    · unfold State.beginSending
      dsimp only
      rw [State.offer_ports]
      rfl
    · rfl
  unfold State.startPart
  rw [found]
  dsimp only
  generalize (if e.sequence.isNone = true then s.beginSending e else s : State) = v at begun chan ⊢
  obtain ⟨sequence, calendar⟩ := begun
  have here : v.entry? h = some { e with sequence := sequence e } :=
    (State.entry?_of_same calendar).trans (State.entry?_modEntry_self (fun _ => rfl) found)
  have seated : (((v.modPart h ph (fun p => { p with state := .sending, start := some (s.crossingNow ph) })).modChan ph
      (fun c => { c with openPart := some h })).entry? h) =
      some (e.begunPart ph (s.crossingNow ph) (sequence e)) :=
    State.entry?_modEntry_self (s := v) (fun _ => rfl) here
  obtain ⟨own, suspended, flood, others⟩ := State.sendRepeat_chan seated ph
  refine ⟨⟨sequence, ?_⟩, ⟨own.trans ?_, flood⟩, suspended.trans ?_, fun q apart => (others q apart).trans ?_⟩
  · rw [State.sendRepeat_calendar]
    change (v.modPart h ph _).calendar = _
    unfold State.modPart State.modEntry
    rw [calendar]
    unfold State.modEntry
    rw [List.map_map]
    refine List.map_congr_left fun x _ => ?_
    simp only [Function.comp]
    by_cases same : x.handle == h
    · rw [if_pos same, if_pos same, if_pos (by exact same)]
      rfl
    · rw [if_neg same, if_neg same, if_neg same]
  · rw [State.chan_modChan_self]
  · rw [State.chan_modChan_self]
    change (v.chan ph).suspendedPart = _
    rw [chan]
  · rw [State.chan_modChan_ne _ _ apart]
    exact chan q

/-- A READY part that starts, the lock of its group being free, keeps the calendar coherent (R62, R64, R65). -/
theorem CoreBut.startPart (but : CoreBut ph s) (settled : ∀ k, ¬ Unsettled s k) (found : s.entry? h = some e)
    (ready : (e.parts.get ph).state = .ready)
    (free : ∀ o ∈ s.calendar, o.handle ≠ e.handle → o.group = e.group → o.locks = false) :
    Coherent (s.startPart h ph) ∧ (Lone s → Lone (s.startPart h ph)) := by
  obtain ⟨⟨sequence, calendar⟩, seats, suspended, others⟩ := State.startPart_eq found ph
  have nodup := but.1
  have sane := but.2.1 e (State.entry?_mem found)
  have undecided := sane.undecided (ph := ph) (by rw [ready]; decide)
  have part (x : Entry) : ((x.begunPart ph (s.crossingNow ph) (sequence x)).parts.get ph).state = .sending := by
    rw [Entry.begunPart, Entry.parts_modPart, if_pos rfl]
  have begun : (e.begunPart ph (s.crossingNow ph) (sequence e)).Sane := by
    refine ⟨fun decided => ?_, sane.2.1, fun q => ?_⟩
    · change e.outcome.isSome = true ∨ e.confirmation.isSome = true at decided
      rw [undecided.1, undecided.2] at decided
      simp at decided
    · rw [Entry.begunPart, Entry.parts_modPart]
      split
      · exact fun _ => rfl
      · exact sane.2.2 q
  refine ⟨⟨?_, fun k waits => settled k ?_⟩, fun lone => ?_⟩
  · refine but.seat found calendar (fun _ => ⟨rfl, rfl⟩) (fun x q apart => ?_) begun (part e) seats (fun k hk => ?_) others
    · rw [Entry.begunPart, Entry.parts_modPart, if_neg apart]
    · rw [suspended] at hk
      refine ⟨?_, hk⟩
      rintro rfl
      obtain ⟨x, hx, state⟩ := (but.2.2.1 ph).2 k hk
      cases Option.some.inj (hx.symm.trans found)
      rw [ready] at state
      cases state
  · refine Unsettled.of_open (ph := ph) nodup calendar (fun x _ => ?_) waits
    rw [part x]
    decide
  · have idle (o : Entry) (ho : o ∈ s.calendar) (apart : o.handle ≠ e.handle) (group : o.group = e.group) :
        ¬ o.Engaged := by
      have settles : o.Settles := not_not.mp fun open_ => settled o.handle ⟨o, ho, rfl, open_⟩
      rw [← Entry.locks_iff (but.2.1 o ho) settles, free o ho apart group]
      exact Bool.false_ne_true
    have handle := State.entry?_handle found
    intro x hx y hy ex ey group
    rw [calendar] at hx hy
    obtain ⟨hx, ax⟩ | ⟨a, ha, rfl⟩ := State.mem_modEntry nodup hx
    · obtain ⟨hy, -⟩ | ⟨b, hb, rfl⟩ := State.mem_modEntry nodup hy
      · exact lone x hx y hy ex ey group
      · cases Option.some.inj (hb.symm.trans found)
        exact absurd ex (idle x hx (handle.symm ▸ ax) group)
    · cases Option.some.inj (ha.symm.trans found)
      obtain ⟨hy, ay⟩ | ⟨b, hb, rfl⟩ := State.mem_modEntry nodup hy
      · exact absurd ey (idle y hy (handle.symm ▸ ay) group.symm)
      · cases Option.some.inj (hb.symm.trans found)
        rfl

/-- The calendar and the channels of a suspended part as it resumes (R70). -/
theorem State.resumePart_seats (found : s.entry? h = some e) (ph : Phase) :
    (s.resumePart h ph).calendar = (s.modPart h ph (fun p => { p with state := .sending })).calendar ∧
      ((s.resumePart h ph).chan ph).Seats h ∧ ((s.resumePart h ph).chan ph).suspendedPart = none ∧
      ∀ q ≠ ph, (s.resumePart h ph).chan q = s.chan q := by
  have here : ((s.modPart h ph (fun p => { p with state := .sending })).modChan ph
      (fun c => { c with openPart := some h, suspendedPart := none })).entry? h =
      some (e.modPart ph (fun p => { p with state := .sending })) :=
    State.entry?_modEntry_self (s := s) (fun _ => rfl) found
  obtain ⟨own, after, flood, others⟩ := State.sendRepeat_chan here ph
  refine ⟨State.sendRepeat_calendar _ h ph, ⟨own.trans ?_, flood⟩, after.trans ?_, fun q apart => (others q apart).trans ?_⟩
  · rw [State.chan_modChan_self]
  · rw [State.chan_modChan_self]
  · exact State.chan_modChan_ne _ _ apart

/-- The suspended part resumes (R70). -/
theorem Coherent.resumePart (coherent : Coherent s) (suspended : (s.chan ph).suspendedPart = some h) :
    Coherent (s.resumePart h ph) ∧ (Lone s → Lone (s.resumePart h ph)) := by
  obtain ⟨core, settled⟩ := coherent
  obtain ⟨e, found, state⟩ := (core.2.2 ph).1.2 h suspended
  have sane := core.2.1 e (State.entry?_mem found)
  obtain ⟨calendar, seats, none_, others⟩ := State.resumePart_seats found ph
  have part (x : Entry) : ((x.modPart ph (fun p => { p with state := .sending })).parts.get ph).state = .sending := by
    rw [Entry.parts_modPart, if_pos rfl]
  have resumed : (e.modPart ph (fun p => { p with state := .sending })).Sane := by
    refine sane.modPart ph (fun ended => ?_) fun _ => sane.2.2 ph (.inr (.inl state))
    rw [state] at ended
    cases ended
  refine ⟨⟨?_, fun k waits => settled k ?_⟩, fun lone => ?_⟩
  · refine (core.but ph).seat found calendar (fun _ => ⟨rfl, rfl⟩) (fun x q apart => ?_) resumed (part e) seats
      (fun k hk => ?_) others
    · rw [Entry.parts_modPart, if_neg apart]
    · rw [none_] at hk
      cases hk
  · refine Unsettled.of_open (ph := ph) core.1 calendar (fun x _ => ?_) waits
    rw [part x]
    decide
  · have kept := (State.entries_modEntry core.1 core.2.1 h (f := fun e => e.modPart ph (fun p => { p with state := .sending }))
      (fun _ => ⟨rfl, rfl⟩) fun x hx _ => by
        cases Option.some.inj (hx.symm.trans found)
        exact ⟨resumed, (Entry.engaged_modPart (f := fun p => { p with state := .sending }) ph fun _ => rfl).mp⟩).2.2 lone
    unfold Lone
    rw [calendar]
    exact kept

/-! ### What the arbiter starts (R60 to R62) -/

theorem State.choose_resume (chosen : s.choose ph = some (.resume h)) : (s.chan ph).suspendedPart = some h := by
  have resumable : s.resumable ph (s.crossingNow ph) = some h := by
    unfold State.choose at chosen
    simp only [Option.or_eq_some_iff, Option.map_eq_some_iff] at chosen
    rcases chosen with ⟨e, -, same⟩ | ⟨-, ⟨k, found, same⟩ | ⟨-, ⟨e, -, same⟩ | ⟨-, ⟨e, -, same⟩ | ⟨-, ⟨e, -, same⟩ |
      ⟨-, ⟨e, -, same⟩ | ⟨-, same | ⟨-, same⟩⟩⟩⟩⟩⟩⟩
    all_goals try cases same
    · exact found
    · split at same <;> cases same
    · unfold State.discoveryWork at same
      dsimp only at same
      split_ifs at same <;> cases same
  unfold State.resumable at resumable
  split at resumable
  · rename_i k suspended
    split at resumable
    · split at resumable
      · cases resumable
        exact suspended
      · cases resumable
    · cases resumable
  · cases resumable

theorem Orderly.of_releases (same : t.calendar = s.calendar) (channels : ∀ ph, (s.chan ph).Releases (t.chan ph)) :
    Orderly s t := (Steady.of_releases same channels).orderly

theorem Orderly.of_within {bs : List Block} (h : Within bs s t) (apart : Block.calendar ∉ bs ∧ Block.channels ∉ bs) :
    Orderly s t := (Steady.of_within h apart).orderly

theorem Orderly.modChan (s : State) (ph : Phase) (f : Channel → Channel) (h : (s.chan ph).Releases (f (s.chan ph))) :
    Orderly s (s.modChan ph f) := by
  refine .of_releases rfl fun k => ?_
  by_cases here : k = ph
  · subst here
    rw [State.chan_modChan_self]
    exact h
  · rw [State.chan_modChan_ne _ _ here]
    exact .refl _

/-- A channel's other fields change, or its work ends. -/
theorem Orderly.modChan_same (s : State) (ph : Phase) (f : Channel → Channel)
    (h : ∀ c, (f c).openPart = c.openPart ∧ (f c).suspendedPart = c.suspendedPart ∧ ((f c).work = c.work ∨ (f c).work = none)) :
    Orderly s (s.modChan ph f) := by
  obtain ⟨open_, suspended, work⟩ := h (s.chan ph)
  refine .modChan s ph f ⟨open_, suspended, fun g flood => ?_⟩
  obtain same | ended := work
  · exact ⟨g, same ▸ flood, rfl⟩
  · rw [ended] at flood
    cases flood

/-- A frame of an exchange or a probe starts. -/
theorem Orderly.transmit (s : State) (ph : Phase) (w : Work) (apart : ∀ f, w ≠ .flood f) : Orderly s (s.transmit ph w) := by
  refine Orderly.trans (.modChan s ph (·.carrying w) ⟨rfl, rfl, fun f work => ?_⟩)
    (.of_within (State.modLevel_within _ ph _) (by decide))
  exact absurd (Option.some.inj work) (apart f)

theorem Starts.orderly {c : Choice} (chosen : s.choose ph = some c) (h : Starts s ph c t) : Orderly s t := by
  intro coherent
  cases h with
  | part h =>
      obtain ⟨e, he, handle, ready, able⟩ := State.chosen_part chosen
      have found : s.entry? h = some e := handle ▸ State.entry?_of_mem coherent.1.1 he
      exact (coherent.1.but ph).startPart coherent.2 found ready ((State.canStart_iff s e _).mp able).1
  | resume h => exact coherent.resumePart (State.choose_resume chosen)
  | confirm => exact Orderly.transmit s ph _ (fun f => fun h => nomatch h) coherent
  | ping =>
      exact Orderly.trans (.of_within (s.modPings_within ph _) (by decide))
        (.transmit _ ph _ fun f => fun h => nomatch h) coherent
  | registration | probe =>
      exact Orderly.trans (.of_within (s.modDisc_within ph _) (by decide))
        (.transmit _ ph _ fun f => fun h => nomatch h) coherent

theorem GoesOn.orderly {c : Choice} (h : GoesOn s ph c t) : Orderly s t := by
  cases h with
  | idle => exact .refl s
  | notReached => exact ((steady_calNotes.decideUnit s _ ph _).trans (steady_calNotes.settleConfirm _ _)).orderly
  | unconfirmed => exact ((steady_calNotes.decideUnconfirmed s _ ph _).trans (steady_calNotes.settleConfirm _ _)).orderly
  | notSent => exact .of_within (s.completeQueued_within ph _) (by decide)
  | discarded => exact .of_within (s.modDisc_within ph _) (by decide)
  | origin =>
      exact .of_within ((s.modDisc_within ph _).then (ds := [.discovery]) (State.advanceOrigin_within _ ph) (by decide))
        (by decide)

end Sys2Proof.Machine
end

section
/-! PROOFS. The ends of the channels' work, and the other events, leave the calendar coherent and the group lock held once
(R67 to R72, R77). -/

namespace Sys2Proof.Machine

variable {s t u : State} {ph : Phase} {h : Nat} {e : Entry}

/-! ### The open part that gives way (R69) -/

theorem State.suspend_calendar (s : State) (h : Nat) (ph : Phase) :
    (s.suspend h ph).calendar = (s.modPart h ph (fun p => { p with state := .suspended })).calendar := rfl

theorem State.suspend_chan_self (s : State) (h : Nat) (ph : Phase) :
    (s.suspend h ph).chan ph = { s.chan ph with openPart := none, suspendedPart := some h } :=
  State.chan_modChan_self _ _ _

theorem State.suspend_chan_ne (s : State) (h : Nat) {ph q : Phase} (apart : q ≠ ph) :
    (s.suspend h ph).chan q = s.chan q := State.chan_modChan_ne _ _ apart

/-- A part that is set aside is its channel's suspended part; a flood of it is all that is not in order then. -/
theorem Core.suspend (core : Core s) (open_ : (s.chan ph).openPart = some h) :
    (CoreBut ph (s.suspend h ph) ∧ (Lone s → Lone (s.suspend h ph))) ∧
      ∀ k, Unsettled (s.suspend h ph) k → Unsettled s k := by
  obtain ⟨e, found, sending⟩ := (core.2.2 ph).1.1 h open_
  have calendar := s.suspend_calendar h ph
  have part (x : Entry) : ((x.modPart ph (fun p => { p with state := .suspended })).parts.get ph).state = .suspended := by
    rw [Entry.parts_modPart, if_pos rfl]
  obtain ⟨nodup, sane, lone⟩ := State.entries_modEntry core.1 core.2.1 h
    (f := fun x => x.modPart ph (fun p => { p with state := .suspended })) (fun _ => ⟨rfl, rfl⟩) fun x hx sane => by
      cases Option.some.inj (hx.symm.trans found)
      refine ⟨sane.modPart ph (fun ended => ?_) fun _ => sane.2.2 ph (.inl sending),
        (Entry.engaged_modPart (f := fun p => { p with state := .suspended }) ph fun _ => rfl).mp⟩
      rw [sending] at ended
      cases ended
  have stays {k : Nat} {q : Phase} {x : PartState} (apart : k ≠ h ∨ q ≠ ph) :
      s.partIs k q x → (s.suspend h ph).partIs k q x :=
    State.partIs_modEntry calendar (fun _ => rfl) (fun e r other => by rw [Entry.parts_modPart, if_neg other]) apart
  refine ⟨⟨⟨nodup, sane, fun q => ?_, fun q apart => ?_⟩, lone⟩, fun k waits => ?_⟩
  · by_cases here : q = ph
    · subst here
      unfold State.OwnsParts
      rw [State.suspend_chan_self]
      refine ⟨fun k hk => (nomatch hk), fun k hk => ?_⟩
      cases hk
      exact ⟨_, (State.entry?_of_same calendar).trans (State.entry?_modEntry_self (fun _ => rfl) found), part e⟩
    · refine (core.2.2 q).1.of_parts ?_ fun k x _ => stays (.inr here)
      rw [State.suspend_chan_ne s h here]
      exact ⟨rfl, rfl⟩
  · rw [State.suspend_chan_ne s h apart]
    exact (core.2.2 q).2
  · refine Unsettled.of_open (ph := ph) core.1 calendar (fun x _ => ?_) waits
    rw [part x]
    decide

theorem CoreBut.core (but : CoreBut ph s) (work : (s.chan ph).work = none) : Core s := by
  refine ⟨but.1, but.2.1, fun q => ⟨but.2.2.1 q, ?_⟩⟩
  by_cases here : q = ph
  · subst here
    intro f flood
    rw [work] at flood
    cases flood
  · exact but.2.2.2 q here

theorem Orderly.suspend (open_ : (s.chan ph).openPart = some h) (work : (s.chan ph).work = none) :
    Orderly s (s.suspend h ph) := by
  rintro ⟨core, settled⟩
  obtain ⟨⟨but, lone⟩, less⟩ := core.suspend open_
  refine ⟨⟨but.core ?_, fun k waits => settled k (less k waits)⟩, lone⟩
  rw [State.suspend_chan_self]
  exact work

/-! ### Urgent work that is due still is, with the open part set aside (R61, R67 test 3) -/

theorem earliestFirst_isSome {ph : Phase} {es : List Entry} (some_ : es ≠ []) : ∃ e, earliestFirst ph es = some e := by
  have kept (l : List Entry) : ∀ b : Entry, ∃ e, l.foldl (fun best e =>
      match best with
      | none => some e
      | some b => if (e.parts.get ph).ls < (b.parts.get ph).ls then some e else best) (some b) = some e := by
    induction l with
    | nil => exact fun b => ⟨b, rfl⟩
    | cons x rest ih =>
        intro b
        rw [List.foldl_cons]
        dsimp only
        split
        · exact ih x
        · exact ih b
  cases es with
  | nil => exact absurd rfl some_
  | cons x rest => exact kept rest x

/-- Setting a SENDING part aside leaves its entry's state as it was. -/
theorem Entry.state_suspend (sending : (e.parts.get ph).state = .sending) :
    (e.modPart ph (fun p => { p with state := .suspended })).state = e.state := by
  have goes {x : Entry} (open_ : (x.parts.get ph).state ≠ .finished) : x.allFinished = false := by
    refine Bool.eq_false_iff.mpr fun ended => open_ ((Entry.allFinished_iff x).mp ended ph)
  have before : e.allFinished = false := goes (by rw [sending]; decide)
  have after : (e.modPart ph (fun p => { p with state := .suspended })).allFinished = false :=
    goes (by rw [Entry.parts_modPart, if_pos rfl]; exact fun same => PartState.noConfusion same)
  have started : (e.modPart ph (fun p => { p with state := .suspended })).anyStarted = e.anyStarted :=
    Entry.anyStarted_modPart e ph _ fun _ => rfl
  have ready : (e.modPart ph (fun p => { p with state := .suspended })).anyReady = e.anyReady := by
    cases ph <;> change _ = PartState.sending at sending <;>
      simp [Entry.anyReady, Entry.modPart, Tri.toList, Tri.set, Tri.get] at sending ⊢ <;> simp [sending]
  unfold Entry.state
  rw [before, after, started, ready]
  rfl

/-- An urgent part that is due can start once a routine part has been set aside. -/
theorem State.choose_suspend (nodup : s.handles.Nodup) (found : s.entry? h = some e)
    (sending : (e.parts.get ph).state = .sending) (routine : e.cls = .routine) (due : s.urgentDue ph = true) :
    ∃ k, (s.suspend h ph).choose ph = some (.part k) := by
  have locks {o : Entry} (ho : o ∈ (s.suspend h ph).calendar) :
      ∃ x ∈ s.calendar, x.handle = o.handle ∧ x.group = o.group ∧ x.locks = o.locks := by
    rw [State.suspend_calendar] at ho
    obtain ⟨ho, -⟩ | ⟨x, hx, rfl⟩ := State.mem_modEntry nodup ho
    · exact ⟨o, ho, rfl, rfl, rfl⟩
    · cases Option.some.inj (hx.symm.trans found)
      refine ⟨e, State.entry?_mem found, rfl, rfl, ?_⟩
      unfold Entry.locks
      rw [Entry.state_suspend sending]
  have stays : (s.suspend h ph).candidates ph .urgent true ((s.suspend h ph).crossingNow ph) ≠ [] := by
    have some_ : s.candidates ph .urgent true (s.crossingNow ph) ≠ [] := by
      unfold State.urgentDue at due
      simpa using due
    obtain ⟨x, hx⟩ := List.exists_mem_of_ne_nil _ some_
    obtain ⟨mem, urgent, ready, ls, able⟩ := State.mem_candidates.mp hx
    obtain ⟨free, room, before⟩ := (State.canStart_iff s x _).mp able
    refine List.ne_nil_of_mem (a := x) (State.mem_candidates.mpr ⟨?_, urgent, ready, ls, (State.canStart_iff _ x _).mpr
      ⟨fun o ho apart group => ?_, room, before⟩⟩)
    · refine List.mem_map.mpr ⟨x, mem, if_neg fun here => ?_⟩
      have here : x.handle = h := by simpa using here
      have same : s.entry? h = some x := here ▸ State.entry?_of_mem nodup mem
      cases Option.some.inj (same.symm.trans found)
      rw [routine] at urgent
      cases urgent
    · obtain ⟨y, hy, handle, group', same⟩ := locks ho
      rw [← same]
      exact free y hy (handle ▸ apart) (group'.trans group)
  obtain ⟨x, first⟩ := earliestFirst_isSome (ph := ph) stays
  refine ⟨x.handle, ?_⟩
  unfold State.choose
  dsimp only
  rw [first]
  rfl

/-! ### Work that goes on, and a relation kept over the channels' work -/

theorem State.chan_of_within {bs : List Block} (within : Within bs s t) (apart : Block.channels ∉ bs) (q : Phase) :
    t.chan q = s.chan q := congrArg (·.get q) (within .channels apart)

/-- A channel keeps its parts, and carries the same work or a probe, or none. -/
def Channel.Continues (c d : Channel) : Prop :=
  c.Releases d ∧ ∀ x, d.work = some (.exchange x) → ∃ y, c.work = some (.exchange y) ∧ y.owner = x.owner

theorem Channel.Continues.refl (c : Channel) : c.Continues c := ⟨.refl c, fun x work => ⟨x, work, rfl⟩⟩

/-- A channel's other fields change, or its work ends. -/
theorem Channel.Continues.of_same {c d : Channel} (open_ : d.openPart = c.openPart)
    (suspended : d.suspendedPart = c.suspendedPart) (work : d.work = c.work ∨ d.work = none) : c.Continues d := by
  obtain same | none_ := work
  · exact ⟨⟨open_, suspended, fun f flood => ⟨f, same ▸ flood, rfl⟩⟩, fun x flies => ⟨x, same ▸ flies, rfl⟩⟩
  · refine ⟨⟨open_, suspended, fun f flood => ?_⟩, fun x flies => ?_⟩
    · rw [none_] at flood
      cases flood
    · rw [none_] at flies
      cases flies

theorem Channel.Continues.drain (c : Channel) : c.Continues c.drain := by
  unfold Channel.drain
  split <;> exact .refl c

theorem Channel.Continues.countCrossing (c : Channel) (b : Bool) : c.Continues (c.countCrossing b) := by
  refine ⟨⟨rfl, rfl, fun f work => ?_⟩, fun x work => ?_⟩
  all_goals
    change Option.map Work.endSlot _ = _ at work
    obtain ⟨w, before, slot⟩ := Option.map_eq_some_iff.mp work
  · cases w with
    | flood g =>
        cases slot
        exact ⟨g, before, rfl⟩
    | exchange | probe => cases slot
  · cases w with
    | exchange y =>
        cases slot
        exact ⟨y, before, rfl⟩
    | flood | probe => cases slot

/-- Every channel carries the work it carried. -/
def State.SameWork (s t : State) : Prop := ∀ ph, (t.chan ph).work = (s.chan ph).work

theorem sameWork_calKeeps : FreeKeeps State.SameWork :=
  .of_blind (fun _ _ => rfl) (fun h k ph => (k ph).trans (h ph)) (fun h ph => by rw [State.chan_of_within h (by decide)])
    fun s ph h q => by
      by_cases here : q = ph
      · subst here
        rw [State.chan_modChan_self, Channel.giveUp_work]
      · rw [State.chan_modChan_ne _ _ here]

theorem State.SameWork.of_within {bs : List Block} (h : Within bs s t) (apart : Block.channels ∉ bs) : s.SameWork t :=
  fun ph => by rw [State.chan_of_within h apart]

theorem Channel.work_of_listeningFor {c : Channel} {x : Exchange} (listens : c.listeningFor = some x) :
    c.work = some (.exchange x) := by
  unfold Channel.listeningFor at listens
  split at listens
  · rename_i y work
    split at listens
    · cases listens
      exact work
    · cases listens
  · cases listens

/-- A relation over coherent calendars that holds over what the channels' work is made of (chapter 3). -/
structure LineKeeps (R : State → State → Prop) : Prop extends CalActs R where
  coherent : ∀ {s t}, (Coherent s → R s t) → R s t
  keeps : ∀ {s t : State}, t.calendar = s.calendar → (∀ ph, (s.chan ph).Continues (t.chan ph)) → R s t
  starts : ∀ s ph c t, s.choose ph = some c → Starts s ph c t → R s t
  goesOn : ∀ s ph c t, s.choose ph = some c → GoesOn s ph c t → R s t
  send : ∀ s h ph, (s.chan ph).openPart = some h → R s (s.sendRepeat h ph)
  giveWay : ∀ s h ph e, (s.chan ph).openPart = some h → s.entry? h = some e → e.cls = .routine → s.urgentDue ph = true →
    R s (State.arbitrate arbiterRounds ph (s.suspend h ph))
  stopped : ∀ s h ph, R s ((s.stopPart h ph).settleEntry h)
  suspend : ∀ s h ph, (s.chan ph).openPart = some h → (s.chan ph).work = none → R s (s.suspend h ph)
  finishOpen : ∀ s h ph p, (s.chan ph).openPart = some h → (s.chan ph).work = none → R s (s.finishOpen h ph p)
  sent : ∀ s h ph, (s.chan ph).openPart = some h → R s (s.modPart h ph (fun p => { p with sent := p.sent + 1 }))
  haltConfirmations : ∀ s ph, R s (s.haltConfirmations ph)
  count : ∀ s h ph x reply, (s.chan ph).work = some (.exchange x) → x.owner = .confirm (some h) →
    R s ((s.clearWork ph).countExchange h ph x reply)
  timeStep : ∀ s : State, R s
    { s with calendar := s.calendar.map (fun (e : Entry) => { e with timeStepped := e.timeStepped || e.sequence.isSome }) }
  queueHeld : ∀ s p o, R s (s.queueHeld p o)
  joined : ∀ s p tag a x c, s.submitRefusal p a = none → R s (s.joined p tag (s.admittedEntry p tag a x c))
  resetOwned : ∀ s p, R s (s.resetOwned p)

namespace LineKeeps

variable {R : State → State → Prop} (hR : LineKeeps R)
include hR

theorem within {bs : List Block} (h : Within bs s t) (apart : Block.calendar ∉ bs ∧ Block.channels ∉ bs) : R s t := by
  refine hR.keeps (h .calendar apart.1) fun ph => ?_
  rw [State.chan_of_within h apart.2]
  exact .refl _

theorem modChan (s : State) (ph : Phase) (f : Channel → Channel) (h : (s.chan ph).Continues (f (s.chan ph))) :
    R s (s.modChan ph f) := by
  refine hR.keeps rfl fun k => ?_
  by_cases here : k = ph
  · subst here
    rw [State.chan_modChan_self]
    exact h
  · rw [State.chan_modChan_ne _ _ here]
    exact .refl _

theorem refigure (s : State) (g : Nat) : R s (s.refigure g) := hR.keeps rfl fun _ => .refl _

/-! ### A crossing at an IDLE channel (R60, R68) -/

theorem arbitrate (rounds : Nat) (s : State) (ph : Phase) : R s (State.arbitrate rounds ph s) := by
  induction rounds generalizing s with
  | zero => exact hR.refl s
  | succ rounds ih =>
      unfold State.arbitrate
      split
      · exact hR.refl s
      · rename_i c chosen
        split
        · rename_i served
          exact hR.starts s ph c _ chosen (Starts.of_serve served)
        · rename_i served
          exact hR.trans (hR.goesOn s ph c _ chosen (GoesOn.of_serve served)) (ih _)

theorem resumeOpen (open_ : (s.chan ph).openPart = some h) : R s (s.resumeOpen h ph) := by
  unfold State.resumeOpen
  split
  · rename_i e found
    split_ifs with _ gives
    · exact hR.stopped s h ph
    · rw [Bool.and_eq_true, decide_eq_true_eq] at gives
      exact hR.giveWay s h ph e open_ found gives.1 gives.2
    · exact hR.send s h ph open_
  · exact hR.refl s

theorem atCrossing (s : State) (ph : Phase) : R s (s.atCrossing ph) := by
  unfold State.atCrossing
  dsimp only
  split
  · exact hR.refl s
  · split
    · rename_i h open_
      split
      · exact hR.resumeOpen open_
      · exact hR.refl s
    · exact hR.arbitrate _ s ph

theorem markQuiet (s : State) (ph : Phase) : R s (s.markQuiet ph) := hR.modChan s ph _ (.of_same rfl rfl (.inl rfl))

/-! ### Work that ends (R51, R57, R59, R67) -/

theorem halt (s : State) (ph : Phase) : R s (s.halt ph) := by
  have silence (u : State) : R u (u.silenceQueue ph) :=
    hR.foldl _ (fun v _ => hR.within (v.completeQueued_within ph _) (by decide)) _ u
  refine hR.trans (hR.modChan s ph Channel.halted (.of_same rfl rfl (.inr rfl))) ?_
  unfold State.halt
  refine hR.trans ?_ (hR.haltConfirmations _ ph)
  refine hR.trans ?_ (hR.within (State.modDisc_within _ ph _) (by decide))
  exact hR.trans (hR.within (State.post_fault _ _).within (by decide)) (silence _)

theorem settleLine (s : State) : R s s.settleLine := by
  unfold State.settleLine
  split
  · exact hR.keeps rfl fun _ => .refl _
  · exact hR.refl s

theorem checkDrained (s : State) : R s s.checkDrained :=
  hR.trans (hR.settleLine s) (hR.within (State.noteLine_ports _ _ _).within (by decide))

theorem afterWork (s : State) (ph : Phase) : R s (s.afterWork ph) := by
  have ended : R s (if (s.chan ph).haltPending then s.halt ph else s) := by
    split
    · exact hR.halt s ph
    · exact hR.refl s
  exact hR.trans (hR.trans (hR.trans ended (hR.checkDrained _)) (hR.atCrossing _ ph)) (hR.markQuiet _ ph)

theorem clearWork (s : State) (ph : Phase) : R s (s.clearWork ph) := hR.modChan s ph _ (.of_same rfl rfl (.inr rfl))

theorem clearAfter (s : State) (ph : Phase) : R s ((s.clearWork ph).afterWork ph) :=
  hR.trans (hR.clearWork s ph) (hR.afterWork _ ph)

theorem afterFlood (open_ : (s.chan ph).openPart = some h) (work : (s.chan ph).work = none) (e : Entry) :
    R s (s.afterFlood h ph e) := by
  unfold State.afterFlood
  dsimp only
  split_ifs
  · exact hR.trans (hR.finishOpen s h ph _ open_ work) (hR.clearAfter _ ph)
  · exact hR.clearAfter s ph
  · exact hR.trans (hR.suspend s h ph open_ work) (hR.clearAfter _ ph)
  · exact hR.clearAfter s ph
  · exact hR.modChan s ph _ (.of_same rfl rfl (.inl rfl))

theorem endFlood {f : Flood} (work : (s.chan ph).work = some (.flood f)) : R s (s.endFlood ph f) := by
  have off : R s (s.modChan ph Channel.endFlood) := hR.modChan s ph Channel.endFlood (.of_same rfl rfl (.inr rfl))
  have chan := State.chan_modChan_self s ph Channel.endFlood
  refine hR.coherent fun coherent => ?_
  unfold State.endFlood
  dsimp only
  split
  · rename_i h entry
    have open_ : ((s.modChan ph Channel.endFlood).chan ph).openPart = some h := by
      rw [chan]
      exact (coherent.1.2.2 ph).2 f work h entry
    refine hR.trans off (hR.trans (hR.sent _ h ph open_) ?_)
    split
    · exact hR.afterFlood (s := (s.modChan ph Channel.endFlood).modPart h ph (fun p => { p with sent := p.sent + 1 }))
        open_ (by exact congrArg Channel.work chan) _
    · exact hR.clearAfter _ ph
  · exact hR.trans off (hR.clearAfter _ ph)

/-! ### The loss of a phase and a crossing's report (R57, R156, R158) -/

theorem abandonWork (s : State) (ph : Phase) : R s (s.abandonWork ph) := by
  have lost : R s (s.modChan ph Channel.lost) := hR.modChan s ph Channel.lost (.of_same rfl rfl (.inr rfl))
  refine hR.coherent fun coherent => ?_
  unfold State.abandonWork
  dsimp only
  split
  · rename_i f work
    refine hR.trans lost ?_
    unfold State.abandonFlood
    split
    · rename_i h entry
      split
      · split
        · have chan := State.chan_modChan_self s ph Channel.lost
          refine hR.finishOpen _ h ph _ ?_ (by exact congrArg Channel.work chan)
          exact (congrArg Channel.openPart chan).trans ((coherent.1.2.2 ph).2 f work h entry)
        · exact hR.refl _
      · exact hR.refl _
    · exact hR.refl _
  · refine hR.trans lost ?_
    unfold State.abandonExchange
    split
    · split
      · split
        · exact hR.refl _
        · exact hR.settleConfirm _ _
      · exact hR.refl _
    · exact hR.refl _
    · exact hR.within (State.requeueInFlight_within _ ph) (by decide)
    · exact hR.within (State.modDisc_within _ ph _) (by decide)
  · exact hR.trans lost (hR.within (State.modDisc_within _ ph _) (by decide))
  · exact lost

theorem losePhase (s : State) (ph : Phase) : R s (s.losePhase ph) := by
  have ended (t : State) : R t (if (t.chan ph).state = .halted then t
      else if ((t.abandonWork ph).chan ph).haltPending then (t.abandonWork ph).halt ph else t.abandonWork ph) := by
    split_ifs
    · exact hR.refl t
    · exact hR.trans (hR.abandonWork t ph) (hR.halt _ ph)
    · exact hR.abandonWork t ph
  have absent : R s ((s.setPhaseRec ph PhaseRec.fresh).modChan ph
      (fun c => { c with absentSinceFlood := true, quiet := false })) :=
    hR.trans (hR.within (s.setPhaseRec_within ph _) (by decide)) (hR.modChan _ ph _ (.of_same rfl rfl (.inl rfl)))
  exact hR.trans (hR.trans (hR.trans absent (ended _)) (hR.within (State.post_fault _ _).within (by decide)))
    (hR.checkDrained _)

theorem handCrossing (s : State) (ph : Phase) (noise : Int) (b : Bool) : R s (s.handCrossing ph noise b) := by
  have sampled : R s (s.sampleSlot ph noise) := hR.within (s.sampleSlot_within ph noise) (by decide)
  exact hR.trans (hR.trans (hR.trans sampled (hR.modChan _ ph (·.countCrossing b) (.countCrossing _ b)))
    (hR.atCrossing _ ph)) (hR.markQuiet _ ph)

theorem reportCrossing (s : State) (ph : Phase) (instant : Nat) (noise : Int) (b : Bool) :
    R s (s.reportCrossing ph instant noise b) := by
  have record (u : State) (r : PhaseRec) : R u (u.setPhaseRec ph r) := hR.within (u.setPhaseRec_within ph r) (by decide)
  have returned (u : State) : R u (u.returnPhase ph) :=
    hR.modChan u ph _ (by split <;> exact .of_same rfl rfl (.inl rfl))
  unfold State.reportCrossing
  dsimp only
  split
  · exact record s _
  · split_ifs
    · exact hR.refl s
    · exact hR.trans (hR.losePhase s ph) (record _ _)
    · unfold State.acceptCrossing
      dsimp only
      split_ifs
      · exact hR.trans (record s _) (hR.handCrossing _ ph noise b)
      · exact hR.trans (record s _) (hR.handCrossing _ ph noise b)
      · exact hR.trans (hR.trans (record s _) (returned _)) (hR.handCrossing _ ph noise b)
      · exact record s _
      · exact record s _

/-! ### Exchanges, probes and holds -/

/-- An exchange ends: it is in flight until the roster has taken its end (R88, R89). -/
theorem endExchange {x : Exchange} (listens : (s.chan ph).listeningFor = some x)
    (reply : Option (ReplyReading × Nat)) : R s (s.endExchange ph x reply) := by
  have work := Channel.work_of_listeningFor listens
  have effect (u : State) (hu : R s u) (flies : s.SameWork u) (q : Option (Option Byte)) (z : PingResult) : R s
      (State.afterWork (match x.owner with
        | .confirm (some h) => (u.clearWork ph).countExchange h ph x q
        | .confirm none => u.clearWork ph
        | .ping => (u.clearWork ph).completeInFlight ph z
        | .registration => u.clearWork ph) ph) := by
    have cleared := hR.trans hu (hR.clearWork u ph)
    refine hR.trans ?_ (hR.afterWork _ ph)
    split
    · rename_i h owner
      exact hR.trans hu (hR.count u h ph x q ((flies ph).trans work) owner)
    · exact cleared
    · exact hR.trans cleared (hR.within (State.completeInFlight_within _ ph z) (by decide))
    · exact cleared
  have quiet {u v : State} (h : Within quietBlocks u v) : R u v := hR.within h (by decide)
  unfold State.endExchange
  dsimp only
  cases reply with
  | none =>
      exact effect _ (hR.applySilence quiet hR.refigure s _ _)
        (sameWork_calKeeps.acts.applySilence (fun h => .of_within h (by decide)) (fun _ _ _ => rfl) s _ _) none .silent
  | some y =>
      exact effect _ (hR.applyReply quiet hR.refigure s ph x y.1 y.2 _)
        (sameWork_calKeeps.acts.applyReply (fun h => .of_within h (by decide)) (fun _ _ _ => rfl) s ph x y.1 y.2 _)
        (some y.1.sequence) (State.pingReplied _ x y.1 y.2)

theorem endProbe (s : State) (ph : Phase) : R s (s.endProbe ph) := by
  have searched (u : State) : R u
      (if (u.disc ph).state = .probing ∧ (u.disc ph).stack = [] then u.advanceOrigin ph else u) := by
    split
    · exact hR.within (u.advanceOrigin_within ph) (by decide)
    · exact hR.refl u
  exact hR.trans (hR.trans (hR.within (s.modDisc_within ph _) (by decide)) (searched _)) (hR.clearAfter _ ph)

theorem endWindow (s : State) (ph : Phase) (r : ProbeRun) (p : ProbeInFlight) (heard : List WindowFrame) :
    R s (s.endWindow ph r p heard) := by
  have applied : R s (s.applyWindow ph p r.next (readWindow s.identity.code p.filter r.next r.window heard)) :=
    hR.applyWindow (fun h => hR.within h (by decide)) hR.refigure
      (fun u i a _ _ => hR.within (u.register_within ph i a) (by decide)) (hR.within (s.modDisc_within ph _) (by decide))
  unfold State.endWindow
  dsimp only
  split
  · exact hR.trans applied (hR.endProbe _ ph)
  · exact hR.trans applied (hR.modChan _ ph _ ⟨⟨rfl, rfl, fun f flood => nomatch flood⟩, fun x flies => nomatch flies⟩)

theorem addHold (s : State) (p : Port) : R s (s.addHold p) := by
  unfold State.addHold
  dsimp only
  split
  · split
    · refine hR.trans ?_ (hR.settleLine _)
      refine hR.keeps rfl fun k => ?_
      cases k <;> exact .drain _
    · exact hR.keeps rfl fun _ => .refl _
  · exact hR.keeps rfl fun _ => .refl _

/-- A relation over coherent calendars that the channels' work keeps is kept by every event. -/
theorem eventKeeps : EventKeeps R where
  toCalActs := hR.toCalActs
  unread h := hR.within h (by decide)
  refigure := hR.refigure
  settings _ _ _ _ := hR.keeps rfl fun _ => .refl _
  dropField _ _ := hR.keeps rfl fun _ => .refl _
  timeStep := hR.timeStep
  queueHeld := hR.queueHeld
  joined := hR.joined
  runLine _ _ := hR.keeps rfl fun _ => .refl _
  addHold s p _ := hR.addHold s p
  releaseHold s p := hR.within (s.releaseHold_within p) (by decide)
  pinged s ph r _ := hR.within (s.modPings_within ph _) (by decide)
  silence s ph := hR.within (s.completeQueued_within ph _) (by decide)
  startDiscovery _ := hR.keeps rfl fun _ => .refl _
  stopDiscovery _ := hR.keeps rfl fun _ => .refl _
  cycle s ph _ := hR.within (s.modDisc_within ph _) (by decide)
  resetOwned := hR.resetOwned
  crossing := hR.reportCrossing
  loss s ph _ := hR.losePhase s ph
  flood s ph f work := hR.endFlood work
  gapEnd s ph h _ open_ := by
    unfold State.endGap
    split
    · split
      · exact hR.trans (hR.stopped s h ph) (hR.markQuiet _ ph)
      · exact hR.send s h ph open_
    · exact hR.refl s
  outbound s ph _ _ _ := hR.modChan s ph _ (.of_same rfl rfl (.inl rfl))
  exchange s ph x reply listens := hR.endExchange listens reply
  window s ph r p heard _ _ _ := hR.endWindow s ph r p heard

end LineKeeps

/-! ### The parts of the channels' work (R65 to R70) -/

theorem Orderly.clearWork (s : State) (ph : Phase) : Orderly s (s.clearWork ph) :=
  .modChan_same s ph _ fun _ => ⟨rfl, rfl, .inr rfl⟩

theorem Orderly.giveWay (open_ : (s.chan ph).openPart = some h) (found : s.entry? h = some e) (routine : e.cls = .routine)
    (due : s.urgentDue ph = true) : Orderly s (State.arbitrate arbiterRounds ph (s.suspend h ph)) := by
  rintro ⟨core, settled⟩
  obtain ⟨⟨but, lone⟩, less⟩ := core.suspend open_
  obtain ⟨k, chosen⟩ := State.choose_suspend core.1 found (core.openPart open_ found) routine due
  obtain ⟨x, hx, handle, ready, able⟩ := State.chosen_part chosen
  have starts : State.arbitrate arbiterRounds ph (s.suspend h ph) = (s.suspend h ph).startPart k ph := by
    unfold arbiterRounds State.arbitrate
    rw [chosen]
    rfl
  rw [starts]
  obtain ⟨coherent, lone'⟩ := but.startPart (fun q waits => settled q (less q waits))
    (handle ▸ State.entry?_of_mem but.1 hx) ready ((State.canStart_iff _ x _).mp able).1
  exact ⟨coherent, lone' ∘ lone⟩

/-- The open part finishes once its flood is off the wiring (R67). -/
theorem Orderly.finishOpen (open_ : (s.chan ph).openPart = some h) (work : (s.chan ph).work = none) (p : Part) :
    Orderly s (s.finishOpen h ph p) := by
  have closed : Edits h s (s.modChan ph (fun c => { c with openPart := none })) := .of_same rfl
  refine .settled h ?_ (closed.trans (.finishPart _ h ph _))
  obtain ⟨needed, calendar⟩ :=
    (s.modChan ph (fun c => { c with openPart := none })).finishPart_calendar h ph p.startedFinish
  have chan (k : Phase) : ((s.modChan ph (fun c => { c with openPart := none })).finishPart h ph p.startedFinish).chan k =
      (s.modChan ph (fun c => { c with openPart := none })).chan k := by
    unfold State.chan
    rw [State.finishPart_within _ h ph _ .channels (by decide)]
  refine .finished (f := p.startedFinish) (needed := needed) calendar (fun k apart => ?_) fun core => ?_
  · rw [chan]
    exact State.chan_modChan_ne _ _ apart
  · rw [chan, State.chan_modChan_self]
    refine ⟨fun k hk => (nomatch hk), fun k hk => ⟨?_, hk⟩, fun f flood => ?_⟩
    · rintro rfl
      obtain ⟨e, found, sending⟩ := (core.2.2 ph).1.1 k open_
      rw [core.suspendedPart hk found] at sending
      cases sending
    · rw [show ({ s.chan ph with openPart := none } : Channel).work = (s.chan ph).work from rfl, work] at flood
      cases flood

/-- A flood's repeat is counted (R67). -/
theorem Orderly.sent (open_ : (s.chan ph).openPart = some h) :
    Orderly s (s.modPart h ph (fun p => { p with sent := p.sent + 1 })) := by
  rintro ⟨core, settled⟩
  obtain ⟨e, found, sending⟩ := (core.2.2 ph).1.1 h open_
  have sends (x : Entry) (hx : s.entry? h = some x) : (x.parts.get ph).state = .sending := by
    cases Option.some.inj (hx.symm.trans found)
    exact sending
  obtain ⟨core', lone⟩ := Kept.modPart h ph (f := fun p => { p with sent := p.sent + 1 }) (fun _ => rfl)
    (fun x hx sane => ⟨id, fun _ => sane.2.2 ph (.inl (sends x hx)), id, id⟩) core
  refine ⟨⟨core', fun k waits => settled k (.of_open (ph := ph) core.1 rfl (fun x hx => ?_) waits)⟩, lone⟩
  rw [Entry.parts_modPart, if_pos rfl]
  change (x.parts.get ph).state ≠ _
  rw [sends x hx]
  decide

/-! ### The commands (R11, R18, R31, R50) -/

/-- The entries' other fields change. -/
theorem Orderly.map {f : Entry → Entry} (calendar : t.calendar = s.calendar.map f) (channels : t.channels = s.channels)
    (same : ∀ e, (f e).handle = e.handle ∧ (f e).group = e.group ∧ (f e).parts = e.parts ∧ (f e).outcome = e.outcome ∧
      (f e).record = e.record ∧ (f e).confirmation = e.confirmation) : Orderly s t := by
  rintro ⟨⟨nodup, sane, owns⟩, settled⟩
  have handles : t.handles = s.handles := by
    unfold State.handles
    rw [calendar, List.map_map]
    exact List.map_congr_left fun e _ => (same e).1
  have from_ {x : Entry} (hx : x ∈ t.calendar) : ∃ e ∈ s.calendar, x = f e := by
    rw [calendar] at hx
    obtain ⟨e, he, rfl⟩ := List.mem_map.mp hx
    exact ⟨e, he, rfl⟩
  have chan (ph : Phase) : t.chan ph = s.chan ph := by
    unfold State.chan
    rw [channels]
  have nodup' : t.handles.Nodup := handles.symm ▸ nodup
  refine ⟨⟨⟨nodup', fun x hx => ?_, fun ph => ⟨?_, chan ph ▸ (owns ph).2⟩⟩, fun k => ?_⟩,
    Lone.of_entries fun x hx => ?_⟩
  · obtain ⟨e, he, rfl⟩ := from_ hx
    obtain ⟨-, -, parts, outcome, record, confirmation⟩ := same e
    exact (sane e he).of_same parts outcome record (.inl (congrArg Option.isSome confirmation))
  · refine (owns ph).1.of_parts ⟨by rw [chan], by rw [chan]⟩ fun k x _ => ?_
    rintro ⟨e, he, part⟩
    refine ⟨f e, ?_, by rw [(same e).2.2.1]; exact part⟩
    rw [← State.entry?_handle he, ← (same e).1]
    exact State.entry?_of_mem nodup' (calendar ▸ List.mem_map_of_mem (State.entry?_mem he))
  · rintro ⟨x, hx, handle, waits⟩
    obtain ⟨e, he, rfl⟩ := from_ hx
    obtain ⟨here, -, parts, outcome, -, confirmation⟩ := same e
    exact settled k ⟨e, he, here.symm.trans handle, fun settles =>
      waits (Entry.Progresses.settles (.inl (congrArg Option.isSome confirmation)) parts outcome settles)⟩
  · obtain ⟨e, he, rfl⟩ := from_ hx
    obtain ⟨handle, group, parts, outcome, -, confirmation⟩ := same e
    exact ⟨e, he, handle, group, .of_same (sane e he) parts outcome (.inl (congrArg Option.isSome confirmation))⟩

/-- An entry joins the calendar, its handle not in use and nothing of it begun (R11). -/
theorem Orderly.joins {x : Entry} (calendar : t.calendar = insertEntry x s.calendar) (channels : t.channels = s.channels)
    (fresh : x.handle ∉ s.handles) (sane : x.Sane) (open_ : x.allFinished = false) (idle : ¬ x.Engaged) : Orderly s t := by
  rintro ⟨⟨nodup, all, owns⟩, settled⟩
  have from_ {y : Entry} (hy : y ∈ t.calendar) : y = x ∨ y ∈ s.calendar := mem_insertEntry.mp (calendar ▸ hy)
  have nodup' : t.handles.Nodup := by
    unfold State.handles
    rw [calendar, ((insertEntry_perm x s.calendar).map _).nodup_iff]
    exact List.nodup_cons.mpr ⟨fresh, nodup⟩
  have chan (ph : Phase) : t.chan ph = s.chan ph := by
    unfold State.chan
    rw [channels]
  refine ⟨⟨⟨nodup', fun y hy => ?_, fun ph => ⟨?_, chan ph ▸ (owns ph).2⟩⟩, fun k => ?_⟩,
    fun lone y hy z hz ey ez => ?_⟩
  · obtain rfl | hy := from_ hy
    · exact sane
    · exact all y hy
  · refine (owns ph).1.of_parts ⟨by rw [chan], by rw [chan]⟩ fun k y _ => ?_
    rintro ⟨e, he, part⟩
    refine ⟨e, ?_, part⟩
    rw [← State.entry?_handle he]
    exact State.entry?_of_mem nodup' (calendar ▸ mem_insertEntry.mpr (.inr (State.entry?_mem he)))
  · rintro ⟨y, hy, handle, waits⟩
    obtain rfl | hy := from_ hy
    · exact waits fun ended => absurd (open_.symm.trans ended) Bool.false_ne_true
    · exact settled k ⟨y, hy, handle, waits⟩
  · obtain rfl | hy := from_ hy
    · exact absurd ey idle
    · obtain rfl | hz := from_ hz
      · exact absurd ez idle
      · exact lone y hy z hz ey ez

theorem Orderly.joined {p : Port} {a : SubmitArgs} (tag : Byte) (x : Action) (c : EntryClass)
    (accepted : s.submitRefusal p a = none) : Orderly s (s.joined p tag (s.admittedEntry p tag a x c)) := by
  have part (ph : Phase) : ∃ f, (s.admittedEntry p tag a x c).parts.get ph = .admitted f := by
    cases ph <;> exact ⟨_, rfl⟩
  refine .joins rfl rfl (State.assignHandle_fresh (State.room_of_submitRefusal accepted).1) ⟨?_, ?_, fun ph => ?_⟩ rfl ?_
  · rintro (decided | confirms) <;> contradiction
  · exact fun recorded => absurd recorded Bool.false_ne_true
  · obtain ⟨f, eq⟩ := part ph
    rw [eq]
    rintro (h | h | h) <;> exact absurd h (by simp [Part.admitted])
  · rintro ⟨-, begun | confirms⟩
    · obtain ⟨ph, start⟩ := (Entry.anyStarted_iff _).mp begun
      obtain ⟨f, eq⟩ := part ph
      rw [eq] at start
      cases start
    · cases confirms

/-- A channel as its owned entries leave (R77). -/
theorem Channel.releaseOwned_parts (c : Channel) (owned : Nat → Bool) :
    (c.releaseOwned owned).openPart = c.openPart.filter (fun h => !owned h) ∧
      (c.releaseOwned owned).suspendedPart = c.suspendedPart.filter (fun h => !owned h) ∧
      (c.releaseOwned owned).work = c.work.map (Work.orphan owned) := by
  have either (gap : Bool) (d e : Channel) (h : d.openPart = e.openPart ∧ d.suspendedPart = e.suspendedPart ∧ d.work = e.work) :
      (if gap then d else e).openPart = e.openPart ∧ (if gap then d else e).suspendedPart = e.suspendedPart ∧
        (if gap then d else e).work = e.work := by
    split
    · exact h
    · exact ⟨rfl, rfl, rfl⟩
  exact either _ _ _ ⟨rfl, rfl, rfl⟩

theorem State.ownedBy_eq {p : Port} (found : s.entry? h = some e) : s.ownedBy p h = (e.origin == p) := by
  unfold State.ownedBy
  rw [found]

/-- The entries of a port leave, and the channels let go of them (R31, R77). -/
theorem Orderly.resetOwned (s : State) (p : Port) : Orderly s (s.resetOwned p) := by
  rintro ⟨⟨nodup, sane, owns⟩, settled⟩
  have calendar : (s.resetOwned p).calendar = s.calendar.filter (fun e => e.origin != p) := rfl
  have from_ {x : Entry} (hx : x ∈ (s.resetOwned p).calendar) : x ∈ s.calendar := List.mem_of_mem_filter hx
  have chan (ph : Phase) : (s.resetOwned p).chan ph = (s.chan ph).releaseOwned (s.ownedBy p) := by cases ph <;> rfl
  have nodup' : (s.resetOwned p).handles.Nodup := nodup.sublist (List.filter_sublist.map _)
  have stays {k : Nat} {ph : Phase} {x : PartState} (free : (!s.ownedBy p k) = true) (part : s.partIs k ph x) :
      (s.resetOwned p).partIs k ph x := by
    obtain ⟨e, he, state⟩ := part
    refine ⟨e, ?_, state⟩
    rw [State.ownedBy_eq he] at free
    rw [← State.entry?_handle he]
    refine State.entry?_of_mem nodup' (calendar ▸ List.mem_filter.mpr ⟨State.entry?_mem he, ?_⟩)
    simpa using free
  refine ⟨⟨⟨nodup', fun x hx => sane x (from_ hx), fun ph => ?_⟩, fun k ⟨x, hx, waits⟩ => settled k ⟨x, from_ hx, waits⟩⟩,
    Lone.of_entries fun x hx => ⟨x, from_ hx, rfl, rfl, id⟩⟩
  obtain ⟨open_, suspended, work⟩ := (s.chan ph).releaseOwned_parts (s.ownedBy p)
  refine ⟨⟨fun k hk => ?_, fun k hk => ?_⟩, fun f flood k entry => ?_⟩
  · rw [chan, open_] at hk
    obtain ⟨before, free⟩ := Option.mem_filter_iff.mp hk
    exact stays free ((owns ph).1.1 k before)
  · rw [chan, suspended] at hk
    obtain ⟨before, free⟩ := Option.mem_filter_iff.mp hk
    exact stays free ((owns ph).1.2 k before)
  · rw [chan, work] at flood
    obtain ⟨w, before, orphan⟩ := Option.map_eq_some_iff.mp flood
    cases w with
    | flood g =>
        cases orphan
        obtain ⟨entry, free⟩ := Option.mem_filter_iff.mp entry
        rw [chan, open_, (owns ph).2 g before k entry]
        exact Option.mem_filter_iff.mpr ⟨rfl, free⟩
    | exchange x =>
        unfold Work.orphan at orphan
        dsimp only at orphan
        split at orphan <;> cases orphan
    | probe r => cases orphan

/-! ### Every event -/

theorem orderly_lineKeeps : LineKeeps Orderly where
  toCalActs := orderly_calActs
  coherent h coherent := h coherent coherent
  keeps same channels := .of_releases same fun ph => (channels ph).1
  starts _ _ _ _ chosen h := h.orderly chosen
  goesOn _ _ _ _ _ h := h.orderly
  send _ _ _ open_ coherent := coherent.sendRepeat open_
  giveWay _ _ _ _ open_ found routine due := .giveWay open_ found routine due
  stopped s h ph := .settled h (kept_calKeeps.stopPart s h ph) (.stopPart s h ph)
  suspend _ _ _ open_ work := .suspend open_ work
  finishOpen _ _ _ p open_ work := .finishOpen open_ work p
  sent _ _ _ open_ := .sent open_
  haltConfirmations s ph := (steady_calNotes.haltConfirmations s ph).orderly
  count s h ph x reply _ _ :=
    (Orderly.clearWork s ph).trans (steady_calNotes.countExchange _ h ph x reply).orderly
  timeStep _ := .map rfl rfl fun _ => ⟨rfl, rfl, rfl, rfl, rfl, rfl⟩
  queueHeld s p o := (Steady.of_kept (.queueHeld s p o) (s.queueHeld_subset p o)).orderly
  joined _ _ tag _ x c accepted := .joined tag x c accepted
  resetOwned := Orderly.resetOwned

theorem EventKeeps.imp {R Q : State → State → Prop} (hR : EventKeeps R) (refl : ∀ s, Q s s)
    (trans : ∀ {s t u}, Q s t → Q t u → Q s u) (sub : ∀ {s t}, R s t → Q s t) : EventKeeps Q where
  refl := refl
  trans := trans
  offer s p k c := sub (hR.offer s p k c)
  join s h := sub (hR.join s h)
  mark s h f noted progress marked := sub (hR.mark s h f noted progress marked)
  conclude s h e found ended free := sub (hR.conclude s h e found ended free)
  review s recomputes test cutOff := sub (hR.review s recomputes test cutOff)
  withdraw s h open_ := sub (hR.withdraw s h open_)
  reach s h ph := sub (hR.reach s h ph)
  reread s h := sub (hR.reread s h)
  unread h := sub (hR.unread h)
  refigure s g := sub (hR.refigure s g)
  settings s v layout quota := sub (hR.settings s v layout quota)
  dropField s leaves := sub (hR.dropField s leaves)
  timeStep s := sub (hR.timeStep s)
  queueHeld s p o := sub (hR.queueHeld s p o)
  joined s p tag a x c accepted := sub (hR.joined s p tag a x c accepted)
  runLine s stopped := sub (hR.runLine s stopped)
  addHold s p out := sub (hR.addHold s p out)
  releaseHold s p := sub (hR.releaseHold s p)
  pinged s ph r room := sub (hR.pinged s ph r room)
  silence s ph := sub (hR.silence s ph)
  startDiscovery s := sub (hR.startDiscovery s)
  stopDiscovery s := sub (hR.stopDiscovery s)
  cycle s ph over_ := sub (hR.cycle s ph over_)
  resetOwned s p := sub (hR.resetOwned s p)
  crossing s ph instant noise b := sub (hR.crossing s ph instant noise b)
  loss s ph due := sub (hR.loss s ph due)
  flood s ph f work := sub (hR.flood s ph f work)
  gapEnd s ph h left open_ := sub (hR.gapEnd s ph h left open_)
  outbound s ph w work sending := sub (hR.outbound s ph w work sending)
  exchange s ph x reply listens := sub (hR.exchange s ph x reply listens)
  window s ph r p heard work listens probe := sub (hR.window s ph r p heard work listens probe)

theorem orderly_of_empty {s : State} (empty : s.calendar = []) (channels : s.channels = State.bare.channels) :
    Coherent s ∧ Lone s := by
  have none_ {e : Entry} : e ∉ s.calendar := by
    rw [empty]
    exact List.not_mem_nil
  refine ⟨⟨⟨?_, fun e he => absurd he none_, fun ph => ?_⟩, fun k ⟨e, he, _⟩ => none_ he⟩, fun e he => absurd he none_⟩
  · unfold State.handles
    rw [empty]
    exact List.nodup_nil
  · unfold State.OwnsParts Channel.FloodsOpen State.chan
    rw [channels]
    cases ph <;> exact ⟨⟨fun _ h => (nomatch h), fun _ h => (nomatch h)⟩, fun _ h => (nomatch h)⟩

/-- Settles O31: every event leaves the calendar coherent and at most one entry of a group at its lock, and a start-up
leaves no entry. -/
theorem groupLockIsHeldByOneEntry : Obligations.GroupLockIsHeldByOneEntry := by
  intro s t locked run
  refine (locksHeldByOne_iff t).mpr ?_
  have keeps : EventKeeps (fun s t => Coherent s ∧ Lone s → Coherent t ∧ Lone t) := by
    refine orderly_lineKeeps.eventKeeps.imp (fun _ => id) (fun h k => k ∘ h) fun h both => ?_
    obtain ⟨coherent, lone⟩ := h both.1
    exact ⟨coherent, lone both.2⟩
  exact keeps.step (fun s a b f _ => orderly_of_empty (s.startUp_calendar a b f) (s.startUp_rest a b f .channels (by decide)))
    ((locksHeldByOne_iff s).mp locked) run

end Sys2Proof.Machine
end

section
/-! PROOFS. The transfers of the client ports (R166 to R168, R170, R172). -/

namespace Sys2Proof.Machine

variable {s t u : State} {p : Port}

/-! ### The port's next work -/

/-- What the oldest frame of a FIFO comes to: the command it spells, or its refusal (R168). -/
def Frame.work (p : Port) (f : Frame) : Instr :=
  match readFrame p f.overLong f.bytes with
  | .command i => i
  | _ => .frameRefused p

/-- The oldest frame is due with a place for its reply, and a RESET PORT without one. -/
theorem State.frameDue_of_place {f : Frame} {rest : List Frame} (fifo : (s.port p).fifo = f :: rest)
    (place : (s.port p).outq.length < 16 ∨ ∃ tag, readFrame p f.overLong f.bytes = .command (.resetPort p tag)) :
    s.frameDue p = some (f.work p) := by
  rw [State.frameDue_cons fifo]
  unfold Frame.work
  cases reading : readFrame p f.overLong f.bytes with
  | command i =>
      refine if_pos ((s.replyRoom_iff p i).mpr (place.imp_right ?_))
      rintro ⟨tag, same⟩
      cases reading.symm.trans same
      rfl
  | badFrame | badParameter =>
      refine if_pos (place.resolve_right ?_)
      rintro ⟨tag, same⟩
      cases reading.symm.trans same

/-- A frame's work is carried out as the command it is. -/
theorem State.carryOut_frame (s : State) (p : Port) (f : Frame) : s.carryOut (f.work p) = exec (f.work p) s := by
  unfold Frame.work
  split
  · rename_i i reading
    obtain ⟨code, tag, params, client⟩ := client_of_readFrame reading
    exact s.carryOut_client client
  · rfl

/-- A port's waiting work is done when what is due first leaves nothing due. -/
theorem State.tryWaiting_once {i : Instr} (due : s.portDue p = some (i, t)) (run : t.carryOut i = .next u)
    (tried : (u.port p).tried p) : s.tryWaiting p = u := by
  obtain ⟨m, rounds⟩ : ∃ m, s.portRounds p = m + 1 := ⟨31 + (s.port p).held.length, by unfold State.portRounds; omega⟩
  unfold State.tryWaiting
  rw [rounds, State.servePort_round m due run, State.servePort_of_tried m tried]

theorem State.tryWaiting_idle (none_due : s.portDue p = none) : s.tryWaiting p = s := State.servePort_idle _ none_due

/-- A port's last frame is answered or its port reset, and nothing is left to do. -/
theorem State.lastFrame_tried {i : Instr} (due : s.frameDue p = some i) (run : s.carryOut i = .next u)
    (last : (s.port p).fifo.tail = []) (held : (s.port p).held = [] ∨ noticeRoom (s.port p).outq = false) :
    (u.port p).tried p := by
  obtain took | ⟨-, cleared⟩ := State.frameDue_run due rfl run
  · exact (PortRec.tried_iff p _).mpr ⟨.inl (took.fifo.trans last), took.heldTried held⟩
  · exact cleared.empty.2

/-! ### COMMAND transfers (R166 to R168) -/

/-- A frame joins at a port that has tried its waiting work: it waits there, or is taken (R168). -/
theorem State.tryWaiting_joined {f : Frame} (tried : (s.port p).tried p) :
    (¬ ((s.port p).fifo = [] ∧ ((s.port p).outq.length < 16 ∨
        ∃ tag, readFrame p f.overLong f.bytes = .command (.resetPort p tag))) →
      (s.modPort p (·.joined f)).tryWaiting p = s.modPort p (·.joined f)) ∧
    ((s.port p).fifo = [] ∧ ((s.port p).outq.length < 16 ∨
        ∃ tag, readFrame p f.overLong f.bytes = .command (.resetPort p tag)) →
      exec (f.work p) (s.modPort p (·.joined f)) = .next ((s.modPort p (·.joined f)).tryWaiting p)) := by
  have port : (s.modPort p (·.joined f)).port p = (s.port p).joined f := s.port_modPort_self p _
  have held := ((PortRec.tried_iff p _).mp tried).2
  refine ⟨fun waits => ?_, fun ⟨empty, place⟩ => ?_⟩
  · obtain none_due | ⟨empty, c, due, -⟩ := State.joined_due (f := f) tried
    · exact State.tryWaiting_idle none_due
    · refine absurd ⟨empty, ?_⟩ waits
      by_contra full
      rw [not_or, Nat.not_lt] at full
      have none_due : (s.modPort p (·.joined f)).frameDue p = none := by
        rw [State.frameDue_eq_none_iff, port]
        refine .inr ⟨full.1, ?_⟩
        rintro ⟨g, tag, first, reset⟩
        rw [PortRec.joined, empty] at first
        cases first
        exact full.2 ⟨tag, reset⟩
      rw [due] at none_due
      cases none_due
  · have fifo : ((s.modPort p (·.joined f)).port p).fifo = f :: [] := by
      rw [port, PortRec.joined, empty]
      rfl
    have due := State.frameDue_of_place fifo (by rw [port]; exact place)
    have no_held : (s.modPort p (·.joined f)).heldDue p = false := by
      unfold State.heldDue
      rw [port]
      obtain h | h := held <;> simp [PortRec.joined, h]
    obtain ⟨u, run⟩ := (s.modPort p (·.joined f)).carryOut_next (f.work p)
    have after : (u.port p).tried p :=
      State.lastFrame_tried due run (by rw [fifo]; rfl) (by rw [port]; exact held)
    have round : (s.modPort p (·.joined f)).portDue p = some (f.work p, s.modPort p (·.joined f)) := by
      simp [State.portDue, due, no_held]
    rw [State.tryWaiting_once round run after, ← State.carryOut_frame, run]

/-- Settles O7: the branches of the transfer, the frame's fate at a FIFO with a place being `tryWaiting_joined`. -/
theorem commandTransferDeliversFrame : Obligations.CommandTransferDeliversFrame := by
  intro p bytes s x transfer
  dsimp only
  have ran : exec (.commandTransfer p bytes) s = .next (
      if bytes.isEmpty then s.modPort p (·.endTransfer (List.replicate (bytes.length + 1) (byteOf x.fifoFill)))
      else (s.modPort p (·.endTransfer (List.replicate (bytes.length + 1) (byteOf x.fifoFill)))).arrive p (frameOf bytes)) := by
    change execCommandTransfer p bytes s = _
    unfold execCommandTransfer
    rw [transfer]
  have port := s.port_modPort_self p (·.endTransfer (List.replicate (bytes.length + 1) (byteOf x.fifoFill)))
  refine ⟨?_, fun some_ full => ?_, fun some_ place ready => ?_⟩
  · rintro rfl
    exact ran
  · rw [ran, if_neg (by simpa using some_), State.arrive, if_neg]
    · rfl
    · rw [port]
      exact Nat.not_lt.mpr full
  · rw [ran, if_neg (by simpa using some_), State.arrive, if_pos (by rw [port]; exact place)]
    have tried : ((s.modPort p (·.endTransfer (List.replicate (bytes.length + 1) (byteOf x.fifoFill)))).port p).tried p := by
      rw [port]
      exact ((portsTried_iff s).mp ready p).2
    obtain ⟨waits, takes⟩ := State.tryWaiting_joined (f := frameOf bytes) tried
    rw [port] at waits takes
    refine ⟨fun stays => congrArg _ (waits stays), fun taken => ?_⟩
    have ran := takes taken
    unfold Frame.work at ran
    refine ⟨fun i reads => ?_, fun refused => ?_⟩
    · have reads : readFrame p (frameOf bytes).overLong (frameOf bytes).bytes = .command i := reads
      rw [reads] at ran
      exact ran.symm
    · split at ran
      · rename_i i reads
        exact absurd reads (refused i)
      · exact ran.symm

/-! ### FETCH transfers: a held item that is no notice (R172) -/

/-- Port A with 15 notices in its out-queue, a FETCH of the oldest under way, and two items of the survey of L1 held,
the first of them a reply. A survey holds such an item in no run; the statement is about every state. -/
def heldReplyState : State :=
  let notice : Item := .notice .lineState []
  { State.bare with
    ports := ⟨{ PortRec.fresh with
      outq := List.replicate 15 notice
      held := [.survey .L1, .survey .L1]
      transfer := some { mode3 := false, fifoFill := 0, outCount := 15, head := some notice, cut := false } },
      PortRec.fresh⟩
    surveys := ⟨{ State.bare.surveys.l1 with held := [(.A, .reply 0 0 .ok []), (.A, notice)] },
      State.bare.surveys.l2, State.bare.surveys.l3⟩ }

/-- The notices port A holds after a command. -/
def heldAfter : Host.Outcome State Fault Refusal → List HeldOwner
  | .next t => t.ports.a.held
  | _ => []

/-- Refutes O8: the place a FETCH frees goes to a held item that is a reply, which leaves the notices their place, so that
the port queues the second held item on the same event too. -/
theorem not_fetchTransferTakesHead : ¬ Obligations.FetchTransferTakesHead := by
  intro h
  obtain ⟨x, transfer⟩ : ∃ x, (heldReplyState.port .A).transfer = some x := ⟨_, rfl⟩
  have tried : PortsTried heldReplyState :=
    ⟨by decide, ⟨.inl rfl, .inr (.inr (by decide))⟩, .inl rfl, .inl rfl⟩
  cases transfer
  have first := ((h .A 16 heldReplyState _ rfl).2 (by decide) tried).2.1 (.survey .L1) (.reply 0 0 .ok []) rfl (by decide) rfl rfl
  have both : heldAfter (exec (.fetchTransfer .A 16) heldReplyState) = [] := by decide
  rw [first] at both
  exact absurd both (by decide)

end Sys2Proof.Machine
end

section
/-! PROOFS. RESET PORT and the line's commands (R49 to R53, R175 to R177). -/

namespace Sys2Proof.Machine

variable {s t : State} {p q : Port}

/-! ### LINE STATE at a port (R53) -/

theorem PortRec.offered_keeps (r : PortRec) (i : Item) :
    (r.offered i).fifo = r.fifo ∧ (r.offered i).held = r.held ∧ (r.offered i).overflow = r.overflow ∧
      (r.offered i).transfer = r.transfer ∧ r.outq <+: (r.offered i).outq := by
  unfold PortRec.offered
  split
  · exact ⟨rfl, rfl, rfl, rfl, List.prefix_append _ _⟩
  · exact ⟨rfl, rfl, rfl, rfl, List.prefix_rfl⟩

theorem State.noteLine_port (s : State) (line : LineState) (hold : Duo Bool) (q : Port) :
    (s.noteLine line hold).port q =
      if s.line = line ∧ s.hold = hold then s.port q else (s.port q).offered (lineNotice s.line s.hold) := by
  split
  · rename_i same
    rw [State.noteLine_of_same s same.1 same.2]
  · rename_i changed
    rw [State.noteLine_of_changed s changed, State.offerBoth_eq]
    cases q <;> rfl

theorem State.noteLine_fields (s : State) (line : LineState) (hold : Duo Bool) :
    s.noteLine line hold = { s with ports := (s.noteLine line hold).ports } := s.noteLine_ports line hold

/-! ### RESET PORT (R175 to R177) -/

/-- The block as a port is reset and its reply queued, LINE STATE apart. -/
def State.portReset (s : State) (p : Port) (tag : Byte) : State :=
  ((((s.popFrame p).modPort p PortRec.reset).resetOwned p).reply p 0x25 tag .ok []).releaseHold p

theorem execResetPort_eq {tag : Byte} (taken : s.takes p (.resetPort p tag)) :
    exec (.resetPort p tag) s = .next ((s.portReset p tag).noteLine s.line s.hold) := exec_of_takes taken rfl

theorem State.portReset_frame (s : State) (p : Port) (tag : Byte) :
    { s.portReset p tag with
      ports := s.ports, calendar := s.calendar, retirement := s.retirement, pings := s.pings
      readCursors := s.readCursors, store := s.store, surveys := s.surveys, hold := s.hold, line := s.line
      channels := s.channels } = s := by
  unfold State.portReset State.releaseHold State.reply State.pushItem State.resetOwned State.removeEntries
    State.popFrame State.modPort
  rfl

theorem State.portReset_port_self (s : State) (p : Port) (tag : Byte) :
    (s.portReset p tag).port p = { (s.port p).reset with outq := [.reply 0x25 tag .ok []] } := by
  cases p <;> rfl

theorem State.portReset_port_ne (s : State) (tag : Byte) (apart : q ≠ p) :
    (s.portReset p tag).port q = s.port q := by
  have ports : (s.portReset p tag).ports = (((s.popFrame p).modPort p PortRec.reset).reply p 0x25 tag .ok []).ports := by
    unfold State.portReset State.releaseHold State.reply State.pushItem State.resetOwned State.removeEntries State.modPort
    rfl
  unfold State.port
  rw [ports]
  change (State.reply _ p 0x25 tag .ok []).port q = s.port q
  rw [State.reply, State.port_pushItem_ne _ _ apart, State.port_modPort_ne _ _ apart, State.popFrame,
    State.port_modPort_ne _ _ apart]

theorem partedFrom_eq (s : State) (p : Port) : partedFrom s p = Work.orphan (s.ownedBy p) := by
  funext w
  cases w with
  | exchange x =>
      obtain ⟨owner, _⟩ := x
      cases owner <;> rfl
  | flood | probe => rfl

/-- What a channel does as a port is reset (R77). -/
theorem Channel.releaseOwned_eq (c : Channel) (owned : Nat → Bool) {gap : Prop} [Decidable gap]
    (closes : gap ↔ c.gapLeft.isSome = true ∧ ∃ h, c.openPart = some h ∧ owned h = true) :
    c.releaseOwned owned =
      { c with
        work := c.work.map (Work.orphan owned)
        openPart := c.openPart.filter (fun h => !owned h)
        suspendedPart := c.suspendedPart.filter (fun h => !owned h)
        state := if gap then .idle else c.state
        gapLeft := if gap then none else c.gapLeft } := by
  unfold Channel.releaseOwned
  dsimp only
  by_cases h : gap
  · obtain ⟨waits, k, open_, own⟩ := closes.mp h
    rw [if_pos h, if_pos h, if_pos]
    rw [open_, waits]
    simpa using own
  · rw [if_neg h, if_neg h, if_neg]
    intro test
    rw [Bool.and_eq_true] at test
    obtain ⟨own, waits⟩ := test
    split at own
    · rename_i k open_
      exact h (closes.mpr ⟨waits, k, open_, own⟩)
    · cases own

/-- Settles O13: the port and the blocks as `State.portReset` has them, and LINE STATE after the reply. -/
theorem resetPortClearsThePort : Obligations.ResetPortClearsThePort := by
  intro p tag s head
  refine ⟨_, execResetPort_eq ⟨(s.replyRoom_iff p _).mpr (.inr rfl), head⟩, ?_⟩
  have fields := (s.portReset p tag).noteLine_fields s.line s.hold
  have port := (s.portReset p tag).noteLine_port s.line s.hold
  generalize (s.portReset p tag).noteLine s.line s.hold = t at fields port ⊢
  have line : t.line = (s.portReset p tag).line := by rw [fields]
  have hold : t.hold = s.hold.set p false := by rw [fields]; rfl
  have own : (t.port p).fifo = [] ∧ (t.port p).held = [] ∧ (t.port p).overflow = 0 ∧ (t.port p).drops = 0 ∧
      (t.port p).transfer = (s.port p).transfer.map (fun x => { x with cut := true }) ∧
      (t.port p).outq = .reply 0x25 tag .ok [] :: (if t.line = s.line ∧ t.hold = s.hold then [] else [lineNotice t.line t.hold]) := by
    rw [port p, s.portReset_port_self, line, hold]
    rw [show s.hold.set p false = (s.portReset p tag).hold from rfl]
    by_cases same : (s.portReset p tag).line = s.line ∧ (s.portReset p tag).hold = s.hold
    · rw [if_pos same, if_pos same]
      exact ⟨rfl, rfl, rfl, rfl, rfl, rfl⟩
    · rw [if_neg same, if_neg same]
      exact ⟨rfl, rfl, rfl, rfl, rfl, rfl⟩
  obtain ⟨fifo, held, overflow, drops, transfer, outq⟩ := own
  refine ⟨fifo, held, overflow, drops, transfer, outq, ?_, ?_, ?_, ?_, ?_, ?_, hold, ?_, ?_, ?_, ?_⟩
  · rw [fields]; rfl
  · rw [fields]; rfl
  · intro ph
    rw [fields]
    cases ph <;> rfl
  · rw [fields]; rfl
  · rw [fields]; rfl
  · intro ph
    rw [fields]
    cases ph <;> rfl
  · rw [line, hold]
    change (if (!((s.hold.set p false).a || (s.hold.set p false).b) && (s.line = .draining || s.line = .held)) = true
      then LineState.running else s.line) = _
    congr 1
    rw [Duo.eq_clear_iff]
    simp
  · intro ph
    dsimp only
    rw [partedFrom_eq]
    have chan : t.chan ph = (s.chan ph).releaseOwned (s.ownedBy p) := by
      rw [fields]
      cases ph <;> rfl
    rw [chan]
    exact Channel.releaseOwned_eq _ _ Iff.rfl
  · intro q apart
    rw [port q, s.portReset_port_ne tag apart]
    split
    · exact ⟨rfl, rfl, List.prefix_rfl⟩
    · obtain ⟨fifo, held, -, -, outq⟩ := (s.port q).offered_keeps (lineNotice (s.portReset p tag).line (s.portReset p tag).hold)
      exact ⟨fifo, held, outq⟩
  · rw [fields]
    exact s.portReset_frame p tag

/-! ### HOLD LINE (R50) -/

/-- A reply and then notices alone (R168). -/
theorem Grows.replyThenNotices {code tag : Byte} {o : ReplyCode} {x : List Byte}
    (h : Grows (fun i => i.isNotice = true) (s.answered p code tag o x) t) :
    replyThenNotices (s.port p).outq (t.port p).outq (.reply code tag o x) := by
  obtain ⟨new, eq, notices, -⟩ := (h p).outq
  rw [s.port_answered_self] at eq
  exact ⟨new, by rw [eq, List.append_assoc]; rfl, notices⟩

/-- The channels of a line that stops running (R50, R56). -/
theorem Channel.drain_eq (c : Channel) :
    c.drain = if c.gapLeft.isSome then { c with state := .idle, gapLeft := none } else c := rfl

/-- A coherent channel is at work after the line stops running exactly where it has work. -/
theorem Channel.drain_busy {c : Channel} {line : LineState} {present : Bool} (h : c.coherent line present) :
    c.drain.busy = true ↔ c.work.isSome = true := by
  rw [Channel.drain_eq, Channel.busy_iff]
  obtain ⟨gap, work, state⟩ | ⟨-, gap, work, state⟩ | ⟨-, gap, work, -, -⟩ := (Channel.coherent_iff _ _ _).mp h
  · rw [gap, work]
    obtain idle | ⟨-, idle⟩ | ⟨-, idle⟩ := state <;> simp [idle]
  · simp [gap, work, state]
  · simp [gap, work]

/-- Some channel has work. -/
def State.anyWork (s : State) : Bool := s.channels.l1.work.isSome || s.channels.l2.work.isSome || s.channels.l3.work.isSome

theorem State.anyWork_iff (s : State) : s.anyWork = true ↔ ∃ ph, (s.chan ph).work.isSome = true := by
  unfold State.anyWork
  rw [Bool.or_eq_true, Bool.or_eq_true]
  constructor
  · rintro ((h | h) | h)
    · exact ⟨.L1, h⟩
    · exact ⟨.L2, h⟩
    · exact ⟨.L3, h⟩
  · rintro ⟨ph, h⟩
    cases ph
    · exact .inl (.inl h)
    · exact .inl (.inr h)
    · exact .inr h

/-- A line that stops running with a channel busy drains where a channel has work, and is held where none has. -/
theorem State.settleLine_drain {line : LineState} (fits : ∀ ph, ∃ present, (s.chan ph).coherent line present)
    (u : State) (drains : u.line = .draining) (channels : ∀ ph, u.chan ph = (s.chan ph).drain) :
    u.settleLine = { u with line := if s.anyWork then .draining else .held } := by
  have busy : u.anyBusy = s.anyWork := by
    rw [Bool.eq_iff_iff, State.anyBusy_iff, State.anyWork_iff]
    refine exists_congr fun ph => ?_
    obtain ⟨present, coherent⟩ := fits ph
    rw [channels, Channel.drain_busy coherent]
  unfold State.settleLine
  rw [busy, drains]
  cases s.anyWork
  · rfl
  · rw [if_neg (by simp), if_pos rfl, ← drains]

/-- The line with a port added to the hold set (R50), where it and the channels agree. -/
theorem State.addHold_eq (coherent : ChannelsCoherent s) (u : State) (line : u.line = s.line)
    (channels : u.channels = s.channels) (p : Port) :
    u.addHold p = { u with
      hold := u.hold.set p true
      line := if s.line = .running then (if s.anyWork then .draining else .held) else s.line
      channels := if s.line = .running then ⟨s.channels.l1.drain, s.channels.l2.drain, s.channels.l3.drain⟩
        else s.channels } := by
  have fits : ∀ ph, ∃ present, (s.chan ph).coherent s.line present := fun ph =>
    ⟨_, (((channelsCoherent_iff s).mp coherent).1 ph).1⟩
  have chan (ph : Phase) : u.chan ph = s.chan ph := by
    unfold State.chan
    rw [channels]
  unfold State.addHold
  dsimp only
  by_cases runs : s.line = .running
  · rw [if_pos (line.trans runs), if_pos runs, if_pos runs]
    split
    · rw [State.settleLine_drain fits _ rfl fun ph => by cases ph <;> exact congrArg Channel.drain (by rw [← chan]; rfl)]
      rw [channels]
    · rename_i idle
      have none_busy := (State.anyBusy_eq_false_iff u).mp (by simpa using idle)
      have still (ph : Phase) : (s.chan ph).drain = s.chan ph ∧ (s.chan ph).work = none := by
        have free := none_busy ph
        rw [chan, Channel.busy_eq_false_iff] at free
        obtain ⟨present, coherent⟩ := fits ph
        obtain ⟨gap, work, -⟩ | ⟨-, -, -, sending | listens⟩ | ⟨-, -, -, sending, -⟩ := (Channel.coherent_iff _ _ _).mp coherent
        · rw [Channel.drain_eq, gap]
          exact ⟨rfl, work⟩
        · exact absurd sending free.1
        · exact absurd listens free.2
        · exact absurd sending free.1
      have rests : s.anyWork = false := by
        rw [← Bool.not_eq_true, State.anyWork_iff]
        rintro ⟨ph, works⟩
        rw [(still ph).2] at works
        cases works
      rw [rests, if_neg Bool.false_ne_true]
      have l1 : s.channels.l1.drain = s.channels.l1 := (still .L1).1
      have l2 : s.channels.l2.drain = s.channels.l2 := (still .L2).1
      have l3 : s.channels.l3.drain = s.channels.l3 := (still .L3).1
      rw [l1, l2, l3, ← channels]
  · rw [if_neg (fun h => runs (line.symm.trans h)), if_neg runs, if_neg runs, ← channels, ← line]

/-- Settles O17: the line and the channels as `State.addHold_eq` has them, and LINE STATE after the reply. -/
theorem holdLineHoldsTheLine : Obligations.HoldLineHoldsTheLine := by
  intro p tag s coherent taken
  have run := exec_of_takes taken rfl
  refine ⟨fun holds => ?_, fun free => ?_⟩
  · exact run.trans (congrArg _ (if_pos holds))
  · have joins := State.addHold_eq coherent (s.answered p 0x06 tag .ok []) rfl rfl p
    refine ⟨((s.answered p 0x06 tag .ok []).addHold p).noteLine s.line s.hold,
      run.trans (congrArg _ (if_neg (by simpa using free))), ?_⟩
    have grows : Grows (fun i => i.isNotice = true) (s.answered p 0x06 tag .ok [])
        (((s.answered p 0x06 tag .ok []).addHold p).noteLine s.line s.hold) := by
      refine Grows.after (State.noteLine_grows (fun _ _ => rfl) _ _ _) ?_
      rw [joins]
    have fields := ((s.answered p 0x06 tag .ok []).addHold p).noteLine_fields s.line s.hold
    generalize ((s.answered p 0x06 tag .ok []).addHold p).noteLine s.line s.hold = t at grows fields ⊢
    rw [joins] at fields
    refine ⟨by rw [fields]; rfl, fun stays => ?_, fun runs => ⟨fun works => ?_, fun idle => ?_, fun ph => ?_⟩,
      grows.replyThenNotices, ?_⟩
    · rw [fields]
      exact ⟨if_neg stays, if_neg stays⟩
    · rw [fields]
      exact (if_pos runs).trans (if_pos ((State.anyWork_iff s).mpr works))
    · rw [fields]
      refine (if_pos runs).trans (if_neg fun works => ?_)
      obtain ⟨ph, works⟩ := (State.anyWork_iff s).mp works
      rw [idle ph] at works
      cases works
    · rw [← Channel.drain_eq, fields]
      unfold State.chan
      dsimp only
      rw [if_pos runs]
      cases ph <;> rfl
    · rw [fields]
      rfl

end Sys2Proof.Machine
end

section
/-! PROOFS. Start-up: the blocks at their start-up values, the store loaded, and the faults it posts (R116, R138, R185,
R187). -/

namespace Sys2Proof.Machine

variable {s t u : State} {ph : Phase} {p : Port}

/-! ### States that agree in every block -/

theorem Block.eq_of_same (h : ∀ b : Block, b.same s t) : t = s := by
  have pending : t.pending = s.pending := h .pending
  have elapsed : t.elapsed = s.elapsed := h .elapsed
  have freeCount : t.freeCount = s.freeCount := h .freeCount
  have clock : t.clock = s.clock := h .clock
  have mains : t.mains = s.mains := h .mains
  have fPlan : t.fPlan = s.fPlan := h .fPlan
  have excursion : t.excursion = s.excursion := h .excursion
  have ports : t.ports = s.ports := h .ports
  have calendar : t.calendar = s.calendar := h .calendar
  have lastHandle : t.lastHandle = s.lastHandle := h .lastHandle
  have retirement : t.retirement = s.retirement := h .retirement
  have line : t.line = s.line := h .line
  have hold : t.hold = s.hold := h .hold
  have channels : t.channels = s.channels := h .channels
  have testMasks : t.testMasks = s.testMasks := h .testMasks
  have pings : t.pings = s.pings := h .pings
  have roster : t.roster = s.roster := h .roster
  have readCursors : t.readCursors = s.readCursors := h .readCursors
  have groups : t.groups = s.groups := h .groups
  have discovery : t.discovery = s.discovery := h .discovery
  have levels : t.levels = s.levels := h .levels
  have settings : t.settings = s.settings := h .settings
  have store : t.store = s.store := h .store
  have identity : t.identity = s.identity := h .identity
  have faults : t.faults = s.faults := h .faults
  have surveys : t.surveys = s.surveys := h .surveys
  cases s
  cases t
  congr

/-- A state with the blocks that differ put back is the state there was. -/
theorem Within.restore {bs : List Block} (h : Within bs s t) (back : ∀ b ∈ bs, b.same s u) (rest : ∀ b, b ∉ bs → b.same t u) :
    u = s := Block.eq_of_same fun b =>
  if hb : b ∈ bs then back b hb else Block.same_trans (h b hb) (rest b hb)

/-! ### Faults posted to ports that have room (R169, R187) -/

/-- A port at its start-up value, but for at most `n` items in its out-queue. -/
def PortRec.Unused (n : Nat) (r : PortRec) : Prop :=
  r.fifo = [] ∧ r.held = [] ∧ r.overflow = 0 ∧ r.drops = 0 ∧ r.transfer = none ∧ r.outq.length ≤ n

theorem State.post_port (s : State) (f : FaultReport) (p : Port) :
    ∃ i, (s.post f).port p = (s.port p).offered i := by
  unfold State.post
  rw [State.offerBoth_eq]
  exact ⟨faultNotice f s.faultTime (wrappingSucc Config.counterTop s.faults.generation) s.faults.record.isNone, by
    cases p <;> rfl⟩

theorem PortRec.Unused.offered {n : Nat} {r : PortRec} (h : r.Unused n) (room : n < 15) (i : Item) :
    (r.offered i).Unused (n + 1) := by
  obtain ⟨fifo, held, overflow, drops, transfer, length⟩ := h
  have free : noticeRoom r.outq = true := by
    refine (noticeRoom_iff _).mpr ⟨by omega, lt_of_le_of_lt (List.length_filter_le _ _) ?_⟩
    omega
  unfold PortRec.offered
  rw [if_pos free]
  refine ⟨fifo, held, overflow, drops, transfer, ?_⟩
  rw [List.length_append, List.length_singleton]
  omega

theorem State.post_unused {n : Nat} (f : FaultReport) (room : n < 15) (h : (s.port p).Unused n) :
    ((s.post f).port p).Unused (n + 1) := by
  obtain ⟨i, eq⟩ := s.post_port f p
  rw [eq]
  exact h.offered room i

theorem PortRec.Unused.mono {n m : Nat} {r : PortRec} (h : r.Unused n) (le : n ≤ m) : r.Unused m := by
  obtain ⟨fifo, held, overflow, drops, transfer, length⟩ := h
  exact ⟨fifo, held, overflow, drops, transfer, length.trans le⟩

/-! ### The stages of a start-up (R185) -/

/-- The state a start-up's loading begins in. -/
abbrev State.begun (s : State) (a b : Bool) (f : FaultRec) : State := s.starting (s.store.atStart a b) f

theorem State.startUp_eq (s : State) (a b : Bool) (f : FaultRec) :
    s.startUp a b f = (s.begun a b f).loadSettings.loadRoster.figureAll.applySettings := rfl

/-- Once the store is loaded, start-up writes the groups' figures, the levels and the planning frequency. -/
theorem State.startUp_late (s : State) (a b : Bool) (f : FaultRec) :
    Within [.groups, .fPlan, .levels] (s.begun a b f).loadSettings.loadRoster (s.startUp a b f) :=
  (State.figureAll_within _).then (State.applySettings_within _) (by decide)

theorem State.startUp_port (s : State) (a b : Bool) (f : FaultRec) (p : Port) :
    ((s.startUp a b f).port p).Unused 2 := by
  have fresh : ((s.begun a b f).port p).Unused 0 := by
    cases p <;> exact ⟨rfl, rfl, rfl, rfl, rfl, Nat.le_refl 0⟩
  have loaded : ((s.begun a b f).loadSettings.port p).Unused 1 := by
    unfold State.loadSettings
    split
    · exact PortRec.Unused.mono fresh (Nat.le_succ 0)
    · exact State.post_unused (s := { s.begun a b f with settings := Settings.factory }) _ (Nat.le_of_ble_eq_true rfl) fresh
  have rostered (u : State) (h : (u.port p).Unused 1) : (u.loadRoster.port p).Unused 2 := by
    unfold State.loadRoster
    split
    · dsimp only
      split
      · exact State.post_unused (s := { u with
          roster := _, groups := _, store := _ }) _ (Nat.le_of_ble_eq_true rfl) h
      · exact PortRec.Unused.mono h (Nat.le_succ 1)
    · exact State.post_unused _ (Nat.le_of_ble_eq_true rfl) h
  have late := s.startUp_late a b f .ports (by decide)
  unfold State.port
  rw [late]
  exact rostered _ loaded

theorem State.startUp_store (s : State) (a b : Bool) (f : FaultRec) :
    (s.startUp a b f).store =
      { s.store.atStart a b with
        settingsValid := (s.store.atStart a b).settingsImage.isSome
        rosterValid := (s.store.atStart a b).rosterImage.isSome } := by
  have late : (s.startUp a b f).store = (s.begun a b f).loadSettings.loadRoster.store := s.startUp_late a b f .store (by decide)
  have loaded : (s.begun a b f).loadSettings.store =
      { s.store.atStart a b with settingsValid := (s.store.atStart a b).settingsImage.isSome } := by
    unfold State.loadSettings
    split
    · rename_i v image
      exact congrArg (fun x : Bool => { s.store.atStart a b with settingsValid := x }) (congrArg Option.isSome image).symm
    · rename_i image
      rw [State.post_fault]
      exact congrArg (fun x : Bool => { s.store.atStart a b with settingsValid := x }) (congrArg Option.isSome image).symm
  have rostered (u : State) (off : u.store.rosterValid = false) :
      u.loadRoster.store = { u.store with rosterValid := u.store.rosterImage.isSome } := by
    have off' : u.store = { u.store with rosterValid := false } := by rw [← off]
    unfold State.loadRoster
    split
    · rename_i v image
      dsimp only
      rw [image]
      split
      · rw [State.post_fault]
        rfl
      · rfl
    · rename_i image
      rw [State.post_fault, image]
      exact off'
  rw [late, rostered _ (by rw [loaded]; rfl), loaded]

theorem holdWithin_eq {lo hi : Nat} (ordered : lo ≤ hi) (v : Nat) : holdWithin lo hi v = max lo (min hi v) := by
  unfold holdWithin
  split_ifs <;> omega

/-- Settles O14: the blocks that start-up does not load are those of `State.starting`, and the rest is read off its
stages. -/
theorem startUpLeavesEveryBlockFresh : Obligations.StartUpLeavesEveryBlockFresh := by
  intro c a b s start
  obtain ⟨f, run⟩ : ∃ f, exec c s = .next (s.startUp a b f) := by
    obtain rfl | rfl := start
    · exact ⟨FaultRec.fresh, rfl⟩
    · exact ⟨s.faults, rfl⟩
  have rest := s.startUp_rest a b f
  refine ⟨_, run, rest .line (by decide), rest .hold (by decide), fun ph => ?_, rest .calendar (by decide),
    rest .lastHandle (by decide), rest .retirement (by decide), fun ph => ?_, fun p => ?_, fun ph => ?_, fun ph => ?_,
    fun ph => ?_, rest .testMasks (by decide), rest .clock (by decide), rest .excursion (by decide), rfl,
    rest .readCursors (by decide), ?_, rest .identity (by decide), fun ph ordered => ?_⟩
  · have channels : (s.startUp a b f).channels = State.bare.channels := rest .channels (by decide)
    unfold State.chan
    rw [channels]
    cases ph <;> rfl
  · have pings : (s.startUp a b f).pings = State.bare.pings := rest .pings (by decide)
    unfold State.pingQueue
    rw [pings]
    cases ph <;> rfl
  · obtain ⟨fifo, held, overflow, drops, transfer, -⟩ := s.startUp_port a b f p
    exact ⟨fifo, held, overflow, drops, transfer⟩
  · have discovery : (s.startUp a b f).discovery = State.bare.discovery := rest .discovery (by decide)
    unfold State.disc
    rw [discovery]
    cases ph <;> rfl
  · have surveys : (s.startUp a b f).surveys = State.bare.surveys := rest .surveys (by decide)
    unfold State.survey
    rw [surveys]
    cases ph <;> rfl
  · have mains : (s.startUp a b f).mains = State.bare.mains := rest .mains (by decide)
    unfold State.phaseRec
    rw [mains]
    cases ph <;> rfl
  · rw [State.startUp_store]
    exact ⟨rfl, rfl, rfl⟩
  · rw [← holdWithin_eq ordered]
    cases ph <;> rfl

/-! ### The store loaded (R103, R116, R185) -/

theorem rosterLawful.loaded_units {r : Roster} (h : rosterLawful r) (capacity : Nat) (counters : List Byte) :
    (RosterImage.mk r counters).roster capacity =
      (r.filter (fun x => x.1 < capacity)).map (fun x =>
        if ∃ i ∈ x.2.route, capacity ≤ i then (x.1, { x.2 with route := [], state := .lost }) else x) := by
  rw [h.loaded_eq capacity counters, clearDependents]
  refine List.map_congr_left fun x hx => ?_
  obtain ⟨hr, below⟩ := List.mem_filter.mp hx
  have below : x.1 < capacity := by simpa using below
  have dropped : x.2.dependsOn ((r.filter (fun x => capacity ≤ x.1)).map (·.1)) = true ↔ ∃ i ∈ x.2.route, capacity ≤ i := by
    rw [UnitRec.dependsOn_iff]
    refine exists_congr fun i => and_congr_right fun hi => ?_
    constructor
    · intro mem
      obtain ⟨y, hy, rfl⟩ := List.mem_map.mp mem
      simpa using (List.mem_filter.mp hy).2
    · intro beyond
      obtain ⟨w, hw, -⟩ := h.relay_of_mem hr hi
      exact List.mem_map.mpr ⟨(i, w), List.mem_filter.mpr ⟨hw, by simpa using beyond⟩, rfl⟩
  by_cases lost : ∃ i ∈ x.2.route, capacity ≤ i
  · rw [if_pos ⟨below.ne, dropped.mpr lost⟩, if_pos lost]
    rfl
  · rw [if_neg fun both => lost (dropped.mp both.2), if_neg lost]

/-- A group's counter and field-pending list. -/
def GroupRec.sending (r : GroupRec) : Byte × List Nat := (r.sequence, r.fieldPending)

theorem State.modGroup_sending (s : State) (k : Nat) {f : GroupRec → GroupRec} (keeps : ∀ r, (f r).sending = r.sending)
    (g : Nat) : ((s.modGroup k f).group g).sending = (s.group g).sending := by
  by_cases here : g = k
  · subst here
    by_cases inside : g < s.groups.length
    · rw [State.group_modGroup_self inside, keeps]
    · unfold State.modGroup State.group
      dsimp only
      rw [List.set_eq_of_length_le (Nat.not_lt.mp inside)]
  · rw [State.group_modGroup_ne here]

theorem State.figureAll_sending (s : State) (g : Nat) : (s.figureAll.group g).sending = (s.group g).sending :=
  foldl_frame (fun s t => (State.group t g).sending = (s.group g).sending) (fun _ => rfl) (fun h k => k.trans h) State.refigure
    (fun u k => by
      unfold State.refigure
      exact u.modGroup_sending k (by intro _; rfl) g) _ s

theorem groupsFrom_sending (counters : List Byte) {g : Nat} (inside : g < 64) :
    ((groupsFrom counters).getD g GroupRec.fresh).sending = (counters.getD g 0, []) := by
  unfold groupsFrom
  simp [List.getD_eq_getElem?_getD, inside, GroupRec.sending, GroupRec.fresh]

theorem State.startUp_sending (s : State) (a b : Bool) (f : FaultRec) {g : Nat} (inside : g < 64) :
    ((s.startUp a b f).group g).sending =
      (match (s.store.atStart a b).rosterImage with
        | some v => (v.counters.getD g 0, [])
        | none => (0, [])) := by
  have applied : (s.startUp a b f).groups = (s.begun a b f).loadSettings.loadRoster.figureAll.groups :=
    State.applySettings_within _ .groups (by decide)
  have group : (s.startUp a b f).group g = (s.begun a b f).loadSettings.loadRoster.figureAll.group g := by
    unfold State.group
    rw [applied]
  have bare : State.bare.groups = List.replicate 64 GroupRec.fresh := by simp only [State.bare]
  have groups : (s.begun a b f).loadSettings.groups = State.bare.groups :=
    State.loadSettings_within _ .groups (by decide)
  have store : (s.begun a b f).loadSettings.store.rosterImage = (s.store.atStart a b).rosterImage := by
    unfold State.loadSettings
    split
    · rfl
    · rw [State.post_fault]
      rfl
  rw [group, State.figureAll_sending]
  unfold State.loadRoster
  rw [store]
  cases (s.store.atStart a b).rosterImage with
  | some v =>
      dsimp only
      split
      · rw [State.post_fault]
        exact groupsFrom_sending v.counters inside
      · exact groupsFrom_sending v.counters inside
  | none =>
      dsimp only
      rw [State.post_fault]
      unfold State.group
      dsimp only
      rw [groups, bare, List.getD_eq_getElem?_getD, List.getElem?_replicate, if_pos inside]
      rfl

/-- What a start-up makes of the settings, the roster and the groups. -/
theorem State.startUp_loads (s : State) (a b : Bool) (f : FaultRec) :
    let t := s.startUp a b f
    (∀ v, a = false → s.store.settingsImage = some v →
      t.settings = { v with layout := v.nextLayout, quota := v.nextQuota } ∧ t.store.settingsValid = true) ∧
    (a = true ∨ s.store.settingsImage = none →
      t.settings = Settings.factory ∧ t.store.settingsValid = false ∧ t.store.settingsImage = none) ∧
    (∀ v, b = false → s.store.rosterImage = some v →
      (rosterLawful v.units →
        t.roster =
          (v.units.filter (fun x => x.1 < Config.rosterCapacity t.settings.layout)).map (fun x =>
            if ∃ i ∈ x.2.route, Config.rosterCapacity t.settings.layout ≤ i
            then (x.1, { x.2 with route := [], state := .lost }) else x)) ∧
        (∀ g < 64, (t.group g).sequence = v.counters.getD g 0 ∧ (t.group g).fieldPending = []) ∧
        t.store.rosterValid = true) ∧
    (b = true ∨ s.store.rosterImage = none →
      t.roster = [] ∧ (∀ g < 64, (t.group g).sequence = 0 ∧ (t.group g).fieldPending = []) ∧
        t.store.rosterValid = false ∧ t.store.rosterImage = none) := by
  obtain ⟨settings, -, -⟩ := s.startUp_settings a b f
  obtain ⟨roster, -, -⟩ := s.startUp_rosterImage a b f
  have store := s.startUp_store a b f
  have sending (g : Nat) (inside : g < 64) := s.startUp_sending a b f inside
  have sends {g : Nat} {c : Byte} (eq : ((s.startUp a b f).group g).sending = (c, [])) :
      ((s.startUp a b f).group g).sequence = c ∧ ((s.startUp a b f).group g).fieldPending = [] := Prod.mk.inj eq
  refine ⟨fun v kept image => ?_, fun lost => ?_, fun v kept image => ?_, fun lost => ?_⟩
  · have loaded : (s.store.atStart a b).settingsImage = some v := by
      rw [kept]
      exact image
    rw [settings, store, loaded]
    exact ⟨rfl, rfl⟩
  · have loaded : (s.store.atStart a b).settingsImage = none := by
      obtain rfl | image := lost
      · rfl
      · unfold Store.atStart
        dsimp only
        rw [image, ite_self]
    rw [settings, store, loaded]
    exact ⟨rfl, rfl, rfl⟩
  · have loaded : (s.store.atStart a b).rosterImage = some v := by
      rw [kept]
      exact image
    rw [store, loaded]
    refine ⟨fun law => ?_, fun g inside => sends ?_, rfl⟩
    · rw [roster, loaded]
      exact law.loaded_units _ v.counters
    · rw [sending g inside, loaded]
  · have loaded : (s.store.atStart a b).rosterImage = none := by
      obtain rfl | image := lost
      · rfl
      · unfold Store.atStart
        dsimp only
        rw [image, ite_self]
    rw [roster, store, loaded]
    refine ⟨rfl, fun g inside => sends ?_, rfl, rfl⟩
    rw [sending g inside, loaded]

/-! ### The Fault Record of a start-up (R185, R187) -/

theorem State.startUp_faults (s : State) (a b : Bool) (f : FaultRec) :
    (s.startUp a b f).faults = (s.begun a b f).loadSettings.loadRoster.faults := s.startUp_late a b f .faults (by decide)

/-- Loading two valid images posts ROSTER TRUNCATED alone, where the capacity drops a unit. -/
theorem State.startUp_faults_of_valid {v : Settings} {w : RosterImage} (settings : s.store.settingsImage = some v)
    (roster : s.store.rosterImage = some w) (f : FaultRec) :
    ((∀ x ∈ w.units, x.1 < Config.rosterCapacity v.nextLayout) → (s.startUp false false f).faults = f) ∧
    ((¬ ∀ x ∈ w.units, x.1 < Config.rosterCapacity v.nextLayout) →
      (s.startUp false false f).faults.counters = f.counters.set 3 (saturatingSucc 255 (f.counters.getD 3 0)) ∧
        (s.startUp false false f).faults.generation = wrappingSucc 65535 f.generation) := by
  have loaded : (s.begun false false f).loadSettings =
      { s.begun false false f with settings := v.loaded, store := { s.store.atStart false false with settingsValid := true } } := by
    unfold State.loadSettings
    rw [show (s.begun false false f).store.settingsImage = some v from settings]
    rfl
  have image : (s.begun false false f).loadSettings.store.rosterImage = some w := by
    rw [loaded]
    exact roster
  have capacity : (s.begun false false f).loadSettings.rosterCapacity = Config.rosterCapacity v.nextLayout := by
    rw [loaded]
    rfl
  have drops : 0 < w.dropped (Config.rosterCapacity v.nextLayout) ↔
      ¬ ∀ x ∈ w.units, x.1 < Config.rosterCapacity v.nextLayout := by
    unfold RosterImage.dropped
    rw [List.length_pos_iff_exists_mem]
    simp [List.mem_filter, not_lt]
  rw [State.startUp_faults]
  unfold State.loadRoster
  rw [image]
  dsimp only
  rw [capacity]
  refine ⟨fun kept => ?_, fun truncates => ?_⟩
  · rw [if_neg (fun some_ => drops.mp some_ kept), loaded]
    rfl
  · rw [if_pos (drops.mpr truncates), State.post_faults, loaded]
    exact ⟨rfl, rfl⟩

/-- Settles O15: what start-up loads, and the faults of loading two valid images and two that have decayed. -/
theorem startUpLoadsTheStoreAndPostsItsFaults : Obligations.StartUpLoadsTheStoreAndPostsItsFaults := by
  refine ⟨fun c a b s start => ?_, fun s v w settings roster => ?_, fun s => ⟨_, rfl, ?_⟩⟩
  · obtain rfl | rfl := start
    · exact ⟨_, rfl, s.startUp_loads a b FaultRec.fresh⟩
    · exact ⟨_, rfl, s.startUp_loads a b s.faults⟩
  · have kept := State.startUp_faults_of_valid settings roster s.faults
    have fresh := State.startUp_faults_of_valid settings roster FaultRec.fresh
    exact ⟨⟨_, rfl, kept⟩, fun below => ⟨_, rfl, fresh.1 below⟩⟩
  · rw [State.startUp_faults]
    have loaded : (s.begun true true FaultRec.fresh).loadSettings.faults =
        { record := some (.storeCheck .settings, none), counters := [0, 1, 0, 0, 0, 0, 0, 0], generation := 1 } := by
      unfold State.loadSettings
      exact State.post_faults _ _
    have missing : (s.begun true true FaultRec.fresh).loadSettings.store.rosterImage = none := by
      unfold State.loadSettings
      rw [show (s.begun true true FaultRec.fresh).store.settingsImage = none from rfl]
      dsimp only
      rw [State.post_fault]
      rfl
    unfold State.loadRoster
    rw [missing]
    dsimp only
    rw [State.post_faults, loaded]
    rfl

end Sys2Proof.Machine
end

section
/-! PROOFS. Plans remade over the whole calendar, whatever handles it holds (R14, R42). -/

namespace Sys2Proof.Machine

variable {s t u : State} {ph : Phase} {h k : Nat} {e : Entry}

/-! ### The entries of a handle -/

/-- The entries with a handle, in calendar order; the first is the one the handle names. -/
def State.ofHandle (s : State) (h : Nat) : List Entry := s.calendar.filter (fun e => e.handle == h)

theorem State.entry?_eq_head? (s : State) (h : Nat) : s.entry? h = (s.ofHandle h).head? := by
  unfold State.entry? State.ofHandle
  rw [List.head?_filter]

theorem Edits.ofHandle_ne (edits : Edits k s t) (apart : h ≠ k) : t.ofHandle h = s.ofHandle h := by
  obtain ⟨f, keeps, calendar⟩ := edits
  unfold State.ofHandle
  rw [calendar, List.filter_map]
  have other (e : Entry) (he : e ∈ s.calendar.filter (fun e => e.handle == h)) : (if e.handle == k then f e else e) = e := by
    have handle : e.handle = h := by simpa using (List.mem_filter.mp he).2
    exact if_neg (by simpa [handle] using apart)
  have same : (fun e : Entry => e.handle == h) ∘ (fun e => if e.handle == k then f e else e) = fun e => e.handle == h := by
    funext e
    simp only [Function.comp]
    split
    · rw [keeps]
    · rfl
  rw [same, List.map_congr_left other]
  exact List.map_id _

theorem Edits.ofHandle_length (edits : Edits k s t) (h : Nat) : (t.ofHandle h).length = (s.ofHandle h).length := by
  obtain ⟨f, keeps, calendar⟩ := edits
  unfold State.ofHandle
  rw [calendar, List.filter_map, List.length_map]
  congr 2
  funext e
  simp only [Function.comp]
  split
  · rw [keeps]
  · rfl

/-! ### Parts that have been read (R14) -/

/-- What the plans and the states of parts are read from. -/
def SameReading (s t : State) : Prop :=
  t.plan = s.plan ∧ t.now = s.now ∧ ∀ g ph, t.needed g ph = s.needed g ph

theorem SameReading.of_cal (h : CalFrame s t) : SameReading s t := by
  rw [h]
  exact ⟨rfl, rfl, fun _ _ => rfl⟩

theorem SameReading.trans (h : SameReading s t) (k : SameReading t u) : SameReading s u :=
  ⟨k.1.trans h.1, k.2.1.trans h.2.1, fun g ph => (k.2.2 g ph).trans (h.2.2 g ph)⟩

/-- A WAITING part whose ES lies ahead, a READY part that is needed at its ES, or a part that has started. -/
def Part.Read (s : State) (group : Nat) (ph : Phase) (p : Part) : Prop :=
  (p.state = .waiting → s.now < p.es) ∧ (p.state = .ready → s.needed group ph = true ∧ p.es ≤ s.now)

theorem Part.Read.of_same {group : Nat} {p : Part} (same : SameReading s t) :
    p.Read t group ph ↔ p.Read s group ph := by
  unfold Part.Read
  rw [same.2.1, same.2.2]

theorem State.rereadPart_of_read (found : s.entry? h = some e) (read : (e.parts.get ph).Read s e.group ph) :
    s.rereadPart h ph = s := by
  unfold State.rereadPart
  rw [found]
  dsimp only
  split
  · rename_i waits
    exact if_neg (Nat.not_le.mpr (read.1 waits))
  · rename_i ready
    obtain ⟨needed, ripe⟩ := read.2 ready
    rw [needed, if_neg (by decide), if_neg (Nat.not_lt.mpr ripe)]
  · rfl

/-- A part of the entry a handle names has been read once it is read again; its other parts stay. -/
theorem State.rereadPart_first (found : s.entry? h = some e) (planned : e.Planned s.plan) (ph : Phase) :
    ∃ x, (s.rereadPart h ph).entry? h = some x ∧ x.group = e.group ∧ x.Planned s.plan ∧
      (x.parts.get ph).Read s e.group ph ∧ ∀ q ≠ ph, x.parts.get q = e.parts.get q := by
  have part (f : Part → Part) : (e.modPart ph f).parts.get ph = f (e.parts.get ph) := by
    rw [Entry.parts_modPart, if_pos rfl]
  have others (f : Part → Part) (q : Phase) (apart : q ≠ ph) : (e.modPart ph f).parts.get q = e.parts.get q := by
    rw [Entry.parts_modPart, if_neg apart]
  have finished (f : Finish) : ∃ x, (s.finishPart h ph f).entry? h = some x ∧ x.group = e.group ∧ x.Planned s.plan ∧
      (x.parts.get ph).Read s e.group ph ∧ ∀ q ≠ ph, x.parts.get q = e.parts.get q := by
    obtain ⟨needed, calendar⟩ := s.finishPart_calendar h ph f
    refine ⟨e.modPart ph (·.finished f needed), (State.entry?_of_same calendar).trans
      (State.entry?_modEntry_self (fun _ => rfl) found), rfl,
      planned.modPart ph (f := (·.finished f needed)) (fun p => ⟨rfl, rfl, rfl, rfl, rfl⟩) (fun waits => (nomatch waits)),
      ?_, others _⟩
    rw [part]
    exact ⟨fun waits => (nomatch waits), fun ready => (nomatch ready)⟩
  have moved (x : PartState) (unstarted : (e.parts.get ph).unstarted = true)
      (read : ({ e.parts.get ph with state := x } : Part).Read s e.group ph) :
      ∃ y, (s.modPart h ph (fun p => { p with state := x })).entry? h = some y ∧ y.group = e.group ∧ y.Planned s.plan ∧
        (y.parts.get ph).Read s e.group ph ∧ ∀ q ≠ ph, y.parts.get q = e.parts.get q := by
    refine ⟨e.modPart ph (fun p => { p with state := x }), State.entry?_modEntry_self (fun _ => rfl) found, rfl,
      planned.modPart ph (f := fun p => { p with state := x }) (fun p => ⟨rfl, rfl, rfl, rfl, rfl⟩) fun _ => unstarted, ?_,
      others _⟩
    rw [part]
    exact read
  have stays (read : (e.parts.get ph).Read s e.group ph) : ∃ x, s.entry? h = some x ∧ x.group = e.group ∧
      x.Planned s.plan ∧ (x.parts.get ph).Read s e.group ph ∧ ∀ q ≠ ph, x.parts.get q = e.parts.get q :=
    ⟨e, found, rfl, planned, read, fun _ _ => rfl⟩
  unfold State.rereadPart
  rw [found]
  dsimp only
  split
  · rename_i waits
    split_ifs with ripe needed
    · exact moved .ready (by unfold Part.unstarted; rw [waits]; rfl) ⟨fun h => (nomatch h), fun _ => ⟨needed, ripe⟩⟩
    · exact finished _
    · exact stays ⟨fun _ => Nat.not_le.mp ripe, fun ready => (nomatch waits.symm.trans ready)⟩
  · rename_i ready
    split_ifs with needed early
    · exact finished _
    · exact moved .waiting (by unfold Part.unstarted; rw [ready]; rfl) ⟨fun _ => early, fun h => (nomatch h)⟩
    · refine stays ⟨fun waits => (nomatch ready.symm.trans waits), fun _ => ⟨?_, Nat.not_lt.mp early⟩⟩
      simpa using needed
  · rename_i waits ready
    exact stays ⟨fun h => absurd h waits, fun h => absurd h ready⟩

/-- The entry a handle names holds the plans of the inputs, and its parts have been read. -/
def State.Firm (s : State) (h : Nat) : Prop :=
  ∀ e, s.entry? h = some e → e.Planned s.plan ∧ ∀ ph, (e.parts.get ph).Read s e.group ph

/-- Every entry of a handle holds the plans of the inputs, and the first has been read. -/
def State.Sure (s : State) (h : Nat) : Prop := s.Firm h ∧ ∀ e ∈ s.ofHandle h, e.Planned s.plan

theorem State.rereadParts_first (found : s.entry? h = some e) (planned : e.Planned s.plan) : (s.rereadParts h).Firm h := by
  obtain ⟨x1, found1, group1, planned1, read1, others1⟩ := State.rereadPart_first found planned .L1
  have same1 := SameReading.of_cal (s.rereadPart_cal h .L1)
  obtain ⟨x2, found2, group2, planned2, read2, others2⟩ := State.rereadPart_first found1 (same1.1 ▸ planned1) .L2
  have same2 := SameReading.of_cal ((s.rereadPart h .L1).rereadPart_cal h .L2)
  obtain ⟨x3, found3, group3, planned3, read3, others3⟩ := State.rereadPart_first found2 (same2.1 ▸ planned2) .L3
  have same3 := SameReading.of_cal (((s.rereadPart h .L1).rereadPart h .L2).rereadPart_cal h .L3)
  have parts : s.rereadParts h = ((s.rereadPart h .L1).rereadPart h .L2).rereadPart h .L3 := rfl
  intro y hy
  rw [parts] at hy ⊢
  cases Option.some.inj (found3.symm.trans hy)
  refine ⟨same3.1 ▸ planned3, fun ph => ?_⟩
  rw [group3, Part.Read.of_same same3]
  cases ph with
  | L1 =>
      rw [others3 .L1 (by decide), others2 .L1 (by decide), Part.Read.of_same same2, group2, Part.Read.of_same same1, group1]
      exact read1
  | L2 =>
      rw [others3 .L2 (by decide), Part.Read.of_same same2, group2]
      exact read2
  | L3 => exact read3

theorem State.replanned_parts_of_planned (planned : e.Planned s.plan) : (s.replanned e).parts = e.parts := by
  have part (ph : Phase) : (s.replanned e).parts.get ph = e.parts.get ph := by
    have eq : (s.replanned e).parts.get ph =
        if (e.parts.get ph).unstarted then (e.parts.get ph).replan (s.plan e.group e.cls e.activation ph)
        else e.parts.get ph := by
      cases ph <;> rfl
    rw [eq]
    split
    · rename_i waits
      exact planned ph waits
    · rfl
  have l1 : (s.replanned e).parts.l1 = e.parts.l1 := part .L1
  have l2 : (s.replanned e).parts.l2 = e.parts.l2 := part .L2
  have l3 : (s.replanned e).parts.l3 = e.parts.l3 := part .L3
  cases hx : (s.replanned e).parts
  cases hy : e.parts
  rw [hx, hy] at l1 l2 l3
  cases l1
  cases l2
  cases l3
  rfl

/-- One pass over a handle leaves the entry it names read; a second leaves every entry of the handle planned. -/
theorem State.reviewParts_firm (s : State) (h : Nat) :
    (s.reviewParts true false h).Firm h ∧ (s.Firm h → (s.reviewParts true false h).Sure h) := by
  have same : SameReading s (s.modEntry h s.replanned) := ⟨rfl, rfl, fun _ _ => rfl⟩
  have pass : s.reviewParts true false h = (s.modEntry h s.replanned).rereadParts h := rfl
  rw [pass]
  cases found : s.entry? h with
  | none =>
      have absent : (s.modEntry h s.replanned).entry? h = none := by
        rw [State.entry?_modEntry (f := s.replanned) h fun _ => rfl, found]
        rfl
      have idle (ph : Phase) : (s.modEntry h s.replanned).rereadPart h ph = s.modEntry h s.replanned := by
        unfold State.rereadPart
        rw [absent]
      have still : (s.modEntry h s.replanned).rereadParts h = s.modEntry h s.replanned := by
        change (((s.modEntry h s.replanned).rereadPart h .L1).rereadPart h .L2).rereadPart h .L3 = _
        rw [idle, idle, idle]
      rw [still]
      have firm : (s.modEntry h s.replanned).Firm h := fun e he => by
        rw [absent] at he
        cases he
      refine ⟨firm, fun _ => ⟨firm, fun e he => ?_⟩⟩
      have none_ : (s.modEntry h s.replanned).ofHandle h = [] := by
        rw [← List.head?_eq_none_iff, ← State.entry?_eq_head?]
        exact absent
      rw [none_] at he
      cases he
  | some e =>
      have found' : (s.modEntry h s.replanned).entry? h = some (s.replanned e) :=
        State.entry?_modEntry_self (fun _ => rfl) found
      have first := State.rereadParts_first found' (same.1 ▸ s.replanned_planned e)
      refine ⟨first, fun firm => ⟨first, ?_⟩⟩
      obtain ⟨planned, read⟩ := firm e found
      have idle (ph : Phase) : (s.modEntry h s.replanned).rereadPart h ph = s.modEntry h s.replanned := by
        refine State.rereadPart_of_read found' ?_
        rw [Part.Read.of_same same, State.replanned_parts_of_planned planned]
        exact read ph
      have still : (s.modEntry h s.replanned).rereadParts h = s.modEntry h s.replanned := by
        change (((s.modEntry h s.replanned).rereadPart h .L1).rereadPart h .L2).rereadPart h .L3 = _
        rw [idle, idle, idle]
      rw [still]
      intro x hx
      obtain ⟨mem, handle⟩ := List.mem_filter.mp hx
      obtain ⟨y, -, rfl⟩ := List.mem_map.mp mem
      rw [same.1]
      by_cases here : y.handle == h
      · rw [if_pos here]
        exact s.replanned_planned y
      · rw [if_neg here] at handle
        exact absurd handle here

/-- A pass over another handle changes nothing of this one's. -/
theorem State.reviewParts_other (s : State) (apart : h ≠ k) :
    (s.Firm h → (s.reviewParts true false k).Firm h) ∧ (s.Sure h → (s.reviewParts true false k).Sure h) := by
  have edits := Edits.reviewParts s true false k
  have same := SameReading.of_cal (s.reviewParts_cal true k)
  have entries := edits.ofHandle_ne apart
  have firm : s.Firm h → (s.reviewParts true false k).Firm h := fun firm e found => by
    rw [State.entry?_eq_head?, entries, ← State.entry?_eq_head?] at found
    obtain ⟨planned, read⟩ := firm e found
    exact ⟨same.1 ▸ planned, fun ph => (Part.Read.of_same same).mpr (read ph)⟩
  exact ⟨firm, fun sure => ⟨firm sure.1, fun e he => same.1 ▸ sure.2 e (entries ▸ he)⟩⟩

/-- The passes of a recomputation: a handle passed once is firm, and one passed twice is sure. -/
theorem State.foldl_reviewParts (es : List Entry) (h : Nat) (s : State) :
    let t := es.foldl (fun s e => s.reviewParts true false e.handle) s
    let n := (es.map (·.handle)).count h
    (1 ≤ n ∨ s.Firm h → t.Firm h) ∧ (2 ≤ n ∨ (1 ≤ n ∧ s.Firm h) ∨ s.Sure h → t.Sure h) ∧ SameReading s t ∧
      (t.ofHandle h).length = (s.ofHandle h).length := by
  induction es generalizing s with
  | nil =>
      refine ⟨fun h => h.resolve_left (by simp), fun h => ?_, ⟨rfl, rfl, fun _ _ => rfl⟩, rfl⟩
      exact (h.resolve_left (by simp)).resolve_left (by simp)
  | cons e rest ih =>
      obtain ⟨firm, sure, same, length⟩ := ih (s.reviewParts true false e.handle)
      have same' := (SameReading.of_cal (s.reviewParts_cal true e.handle)).trans same
      have length' := length.trans ((Edits.reviewParts s true false e.handle).ofHandle_length h)
      rw [List.map_cons]
      by_cases here : e.handle = h
      · subst here
        rw [List.count_cons_self]
        obtain ⟨once, twice⟩ := s.reviewParts_firm e.handle
        refine ⟨fun _ => firm (.inr once), fun passed => sure ?_, same', length'⟩
        obtain more | ⟨-, before⟩ | before := passed
        · exact .inr (.inl ⟨by omega, once⟩)
        · exact .inr (.inr (twice before))
        · exact .inr (.inr (twice before.1))
      · rw [List.count_cons_of_ne here]
        obtain ⟨once, twice⟩ := s.reviewParts_other (h := h) (k := e.handle) (Ne.symm here)
        refine ⟨fun passed => firm (passed.imp_right once), fun passed => sure ?_, same', length'⟩
        exact passed.imp_right (Or.imp (And.imp_right once) twice)

/-! ### What follows leaves the parts as they are -/

/-- Every entry has the parts of one there was, for the same inputs. -/
def KeepsParts (s t : State) : Prop :=
  t.plan = s.plan ∧ ∀ x ∈ t.calendar, ∃ e ∈ s.calendar, x.fixed = e.fixed ∧ x.parts = e.parts

theorem KeepsParts.plansCurrent (keeps : KeepsParts s t) (h : PlansCurrent s) : PlansCurrent t := by
  intro x hx
  obtain ⟨e, he, fixed, parts⟩ := keeps.2 x hx
  have planned : x.Planned s.plan := Entry.Planned.of_parts (h e he) fixed parts
  rw [← keeps.1] at planned
  exact planned

theorem KeepsParts.of_subset (plan : t.plan = s.plan) (sub : ∀ e ∈ t.calendar, e ∈ s.calendar) : KeepsParts s t :=
  ⟨plan, fun e he => ⟨e, sub e he, rfl, rfl⟩⟩

theorem KeepsParts.modEntry (s : State) (h : Nat) {f : Entry → Entry}
    (same : ∀ e, (f e).fixed = e.fixed ∧ (f e).parts = e.parts) : KeepsParts s (s.modEntry h f) := by
  refine ⟨rfl, fun x hx => ?_⟩
  obtain ⟨e, he, rfl⟩ := List.mem_map.mp hx
  refine ⟨e, he, ?_⟩
  split
  · exact same e
  · exact ⟨rfl, rfl⟩

theorem parts_calNotes : CalNotes KeepsParts where
  refl s := .of_subset rfl fun _ => id
  trans h k := ⟨k.1.trans h.1, fun x hx => by
    obtain ⟨y, hy, fixed, parts⟩ := k.2 x hx
    obtain ⟨e, he, fixed', parts'⟩ := h.2 y hy
    exact ⟨e, he, fixed.trans fixed', parts.trans parts'⟩⟩
  offer s p k c := by
    refine .of_subset (SameInputs.plan (.of_within (s.offer_within p _) (by decide))) fun e he => ?_
    have same : (s.offer p (.notice k c)).calendar = s.calendar := s.offer_within p _ .calendar (by decide)
    exact same ▸ he
  join s h := by
    refine .of_subset (SameInputs.plan (.of_within (s.joinRetirement_cal h).within (by decide))) ?_
    exact s.joinRetirement_subset h
  note s h f noted _ := .modEntry s h fun e => ⟨noted.fixed e, by rw [noted e]⟩
  decide s h e _ _ := .modEntry s h fun e => by
    split <;> exact ⟨rfl, rfl⟩

theorem KeepsParts.reviewEntries (es : List Entry) (s : State) :
    KeepsParts s (es.foldl (fun s e => s.reviewEntry e.handle) s) :=
  parts_calNotes.foldl (fun s (e : Entry) => s.reviewEntry e.handle)
    (fun s e => parts_calNotes.reviewEntry s e.handle) es s

/-- The passes of a recomputation over the whole calendar leave every entry planned (R42). -/
theorem State.reviewedParts_planned (s : State) :
    ∀ x ∈ (s.calendar.foldl (fun s e => s.reviewParts true false e.handle) s).calendar,
      x.Planned (s.calendar.foldl (fun s e => s.reviewParts true false e.handle) s).plan := by
  intro x hx
  obtain ⟨firm, sure, -, length⟩ := State.foldl_reviewParts s.calendar x.handle s
  generalize s.calendar.foldl (fun s e => s.reviewParts true false e.handle) s = t at hx firm sure length ⊢
  have mem : x ∈ t.ofHandle x.handle := List.mem_filter.mpr ⟨hx, by simp⟩
  have count : (s.calendar.map (·.handle)).count x.handle = (s.ofHandle x.handle).length := by
    unfold State.ofHandle List.count
    rw [List.countP_map, List.countP_eq_length_filter]
    rfl
  rw [count, ← length] at firm sure
  by_cases once : (t.ofHandle x.handle).length ≤ 1
  · have first : t.entry? x.handle = some x := by
      rw [State.entry?_eq_head?]
      cases entries : t.ofHandle x.handle with
      | nil =>
          rw [entries] at mem
          cases mem
      | cons y rest =>
          rw [entries] at once mem
          have none_ : rest = [] := List.eq_nil_of_length_eq_zero (by simpa using once)
          rw [none_, List.mem_singleton] at mem
          rw [mem]
          rfl
    exact (firm (.inl (List.length_pos_of_mem mem)) x first).1
  · exact (sure (.inl (Nat.not_le.mp once))).2 x mem

/-- Plans remade over the whole calendar are current (R42). -/
theorem State.recomputeAll_plansCurrent (s : State) : PlansCurrent s.recomputeAll := by
  have all : s.calendar.filter (fun _ => true) = s.calendar := List.filter_true s.calendar
  have kept := KeepsParts.reviewEntries s.calendar (s.calendar.foldl (fun s e => s.reviewParts true false e.handle) s)
  have eq : s.recomputeAll = s.calendar.foldl (fun s e => s.reviewEntry e.handle)
      (s.calendar.foldl (fun s e => s.reviewParts true false e.handle) s) := by
    unfold State.recomputeAll State.recompute State.review
    rw [all]
  rw [eq]
  exact kept.plansCurrent s.reviewedParts_planned

end Sys2Proof.Machine
end

section
/-! PROOFS. APPLY PROFILE and SET PARAMETER (R42, R54, R143, R180, R181). -/

namespace Sys2Proof.Machine

variable {s t : State} {p : Port} {ph : Phase}

/-! ### Settings written and plans remade (R42) -/

theorem State.retireSince_plansCurrent (before : State) (h : PlansCurrent s) : PlansCurrent (s.retireSince before) :=
  (parts_calNotes.retireSince s before).plansCurrent h

theorem State.joint_of_line (joint : s.line = .stopped ∨ (s.line = .held ∧ s.hold = ⟨true, true⟩)) :
    (s.popFrame p).joint = true := (s.popFrame_joint p).trans ((State.joint_iff s).mpr joint)

/-! ### APPLY PROFILE (R180) -/

theorem profileOfByte_eq_none_iff (b : Byte) : profileOfByte b = none ↔ 6 ≤ b.toNat := by
  refine ⟨fun h => ?_, fun h => ?_⟩
  · by_contra inside
    have : b.toNat ≤ 5 := by omega
    interval_cases hb : b.toNat <;> simp_all [profileOfByte]
  · unfold profileOfByte
    split <;> first | omega | rfl

theorem profileByte_of_profileOfByte {b : Byte} {q : Profile} (h : profileOfByte b = some q) : profileByte q = b := by
  unfold profileOfByte at h
  have named {n : Nat} (small : b.toNat = n) : BitVec.ofNat 8 n = b := by
    rw [← small, BitVec.ofNat_toNat, BitVec.setWidth_eq]
  split at h
  all_goals
    cases h
  all_goals
    rename_i eq
    exact named eq

theorem Settings.withProfile_parameters (v : Settings) (q : Profile) :
    profileParameters (v.withProfile q) = profileColumn q ∧ (v.withProfile q).profile = q ∧
      (v.withProfile q).modified = false := by
  cases q <;> exact ⟨rfl, rfl, rfl⟩

theorem Settings.withProfile_frame (v : Settings) (q : Profile) :
    { v with
      profile := (v.withProfile q).profile, modified := false, routineRepeats := (v.withProfile q).routineRepeats
      urgentRepeats := (v.withProfile q).urgentRepeats, pollRetries := (v.withProfile q).pollRetries
      guardMs := (v.withProfile q).guardMs, leadS := (v.withProfile q).leadS, gap := (v.withProfile q).gap
      tolerance := (v.withProfile q).tolerance, degradeLimit := (v.withProfile q).degradeLimit
      lostLimit := (v.withProfile q).lostLimit, probePeriod := (v.withProfile q).probePeriod } = v.withProfile q := by
  cases q <;> rfl

/-- The block once a profile is in force, its command's frame having left. -/
def State.profiled (s : State) (p : Port) (tag : Byte) (q : Profile) : State :=
  (State.reacquireAll { s.answered p 0x08 tag .ok [] with settings := s.settings.withProfile q }).recomputeAll.retireSince
    (s.popFrame p)

theorem State.profiled_cal (s : State) (p : Port) (tag : Byte) (q : Profile) :
    CalFrame (State.reacquireAll { s.answered p 0x08 tag .ok [] with settings := s.settings.withProfile q })
      (s.profiled p tag q) := (State.recomputeAll_cal _).trans (State.retireSince_cal _ _)

theorem State.profiled_grows (s : State) (p : Port) (tag : Byte) (q : Profile) :
    Grows (fun i => i.isNotice = true) (s.answered p 0x08 tag .ok []) (s.profiled p tag q) := by
  refine Grows.trans ?_ ((grows_calKeeps fun _ _ => rfl).retireSince _ (s.popFrame p))
  exact Grows.after ((grows_calKeeps fun _ _ => rfl).recomputeAll _) rfl

/-- Settles O21: the settings and the controllers as `State.profiled` has them, and every plan remade. -/
theorem applyProfileWritesTheColumn : Obligations.ApplyProfileWritesTheColumn := by
  intro p tag profile s taken joint
  have run := exec_of_takes taken rfl
  rw [State.joint_of_line joint] at run
  refine ⟨fun none_named => ?_, fun named => ?_⟩
  · rw [(profileOfByte_eq_none_iff profile).mpr none_named] at run
    exact run
  · cases eq : profileOfByte profile with
    | none => exact absurd ((profileOfByte_eq_none_iff profile).mp eq) (Nat.not_le.mpr named)
    | some q =>
        rw [eq] at run
        have frame := s.profiled_cal p tag q
        have grows := s.profiled_grows p tag q
        have current : PlansCurrent (s.profiled p tag q) :=
          State.retireSince_plansCurrent _ (State.recomputeAll_plansCurrent _)
        refine ⟨s.profiled p tag q, run, ?_⟩
        generalize s.profiled p tag q = t at frame grows current ⊢
        have settings : t.settings = s.settings.withProfile q := by rw [frame]; rfl
        obtain ⟨column, name, unmodified⟩ := s.settings.withProfile_parameters q
        rw [settings, name]
        obtain ⟨new, outq, -⟩ := grows.replyThenNotices
        refine ⟨profileByte_of_profileOfByte eq, unmodified, column, ?_, fun ph => ?_, current, ⟨new, outq⟩, ?_⟩
        · have same := s.settings.withProfile_frame q
          rw [name] at same
          exact same
        · rw [frame]
          cases ph <;> rfl
        · rw [frame]
          rfl

/-! ### SET PARAMETER (R181) -/

/-- The number of a parameter (R195). -/
def Parameter.number : Parameter → Nat
  | .routineRepeats => 0x00
  | .urgentRepeats => 0x01
  | .guardMs => 0x02
  | .leadS => 0x03
  | .gap => 0x04
  | .tolerance => 0x05
  | .pollRetries => 0x06
  | .degradeLimit => 0x07
  | .lostLimit => 0x08
  | .probePeriod => 0x09
  | .levelMin _ => 0x0A
  | .levelMax _ => 0x0B
  | .target _ => 0x0C
  | .nominal => 0x0D

/-- The channel's phase of a level parameter. -/
def Parameter.phase : Parameter → Option Phase
  | .levelMin ph | .levelMax ph | .target ph => some ph
  | _ => none

theorem Parameter.phase_isSome (q : Parameter) :
    q.phase.isSome = true ↔ q.number = 0x0A ∨ q.number = 0x0B ∨ q.number = 0x0C := by
  cases q <;> simp [Parameter.phase, Parameter.number]

/-- What the bytes of SET PARAMETER name. -/
theorem readParameterArgs_eq_some {a : ParameterArgs} {q : Parameter} (h : readParameterArgs a = some q) :
    a.parameter.toNat = q.number ∧ ∀ ph ∈ q.phase, phaseOfChannel a.channel = some ph := by
  unfold readParameterArgs at h
  split at h
  case h_11 eq =>
    obtain ⟨ph, channel, rfl⟩ := Option.map_eq_some_iff.mp h
    exact ⟨eq, fun _ same => by cases same; exact channel⟩
  case h_12 eq =>
    obtain ⟨ph, channel, rfl⟩ := Option.map_eq_some_iff.mp h
    exact ⟨eq, fun _ same => by cases same; exact channel⟩
  case h_13 eq =>
    obtain ⟨ph, channel, rfl⟩ := Option.map_eq_some_iff.mp h
    exact ⟨eq, fun _ same => by cases same; exact channel⟩
  all_goals
    cases h
  all_goals
    rename_i eq
    exact ⟨eq, fun _ same => nomatch same⟩

theorem readParameterArgs_eq_none_iff (a : ParameterArgs) :
    readParameterArgs a = none ↔ 0x0D < a.parameter.toNat ∨
      ((a.parameter.toNat = 0x0A ∨ a.parameter.toNat = 0x0B ∨ a.parameter.toNat = 0x0C) ∧
        (a.channel.toNat = 0 ∨ 3 < a.channel.toNat)) := by
  rw [← phaseOfChannel_eq_none_iff]
  unfold readParameterArgs
  split <;> simp_all <;> omega

/-- The line of the table of R181 for the settings. -/
theorem Parameter.store_line (q : Parameter) (v : Settings) (value : Nat) :
    let w := q.written v value
    let u := q.store v w
    (∀ lo hi, parameterRange q.number = some (lo, hi) →
      w = max lo (min hi value) ∧ parameterValue u q.number = some w ∧
        u.lostLimit = (if q.number = 0x07 then max v.lostLimit (w + 1) else v.lostLimit)) ∧
    (q.number = 0x08 →
      u.lostLimit = w ∧ (v.degradeLimit ≤ 30 → w = max (v.degradeLimit + 1) (min 31 value))) ∧
    (q.number = 0x0D → w = (if value < 5500 then 5000 else 6000) ∧ u.nominal = w) ∧
    u.modified = (v.modified || decide (q.number ≤ 0x09)) ∧
    (∀ j, j ≠ q.number → j ≠ 0x08 → parameterValue u j = parameterValue v j) ∧
    (q.number ≠ 0x07 → q.number ≠ 0x08 → u.lostLimit = v.lostLimit) ∧
    (q.phase = none → u.levels = v.levels) := by
  have held (lo hi : Nat) (ordered : lo ≤ hi) : holdWithin lo hi value = max lo (min hi value) := holdWithin_eq ordered value
  dsimp only
  refine ⟨fun lo hi range => ?_, fun lost => ?_, fun nominal => ?_, ?_, fun j apart other => ?_, fun h7 h8 => ?_, fun none_ => ?_⟩
  · cases q <;> cases range <;> exact ⟨held _ _ (by decide), rfl, rfl⟩
  · cases q with
    | lostLimit => exact ⟨rfl, fun room => holdWithin_eq (by omega) value⟩
    | _ => simp [Parameter.number] at lost
  · cases q with
    | nominal => exact ⟨rfl, rfl⟩
    | _ => simp [Parameter.number] at nominal
  · cases q <;> simp [Parameter.store, Parameter.number]
  · unfold parameterValue
    cases q <;> split <;> first | rfl | exact absurd rfl apart | exact absurd rfl other
  · cases q <;> first | rfl | exact absurd rfl h7 | exact absurd rfl h8
  · cases q <;> first | rfl | cases none_

/-- The settings that no parameter names stay. -/
theorem Parameter.store_frame (q : Parameter) (v : Settings) (w : Nat) :
    { q.store v w with
      modified := v.modified, routineRepeats := v.routineRepeats, urgentRepeats := v.urgentRepeats
      pollRetries := v.pollRetries, guardMs := v.guardMs, leadS := v.leadS, gap := v.gap, tolerance := v.tolerance
      degradeLimit := v.degradeLimit, lostLimit := v.lostLimit, probePeriod := v.probePeriod, levels := v.levels
      nominal := v.nominal } = v := by
  cases q <;> rfl

/-- A level setting's line of the table of R181. -/
theorem Parameter.store_levels {q : Parameter} (named : q.phase = some ph) (v : Settings) (value : Nat) :
    let w := q.written v value
    let u := q.store v w
    (q.number = 0x0A → w = min 63 value ∧
      u.levels.get ph = { v.levels.get ph with low := w, high := max (v.levels.get ph).high w }) ∧
    (q.number = 0x0B → w = max (min 63 value) (v.levels.get ph).low ∧
      u.levels.get ph = { v.levels.get ph with high := w }) ∧
    (q.number = 0x0C → w = min 255 value ∧ u.levels.get ph = { v.levels.get ph with target := w }) ∧
    ∀ k ≠ ph, u.levels.get k = v.levels.get k := by
  have held (hi : Nat) : holdWithin 0 hi value = min hi value := (holdWithin_eq (Nat.zero_le hi) value).trans (Nat.zero_max _)
  dsimp only
  cases q with
  | levelMin k =>
      cases named
      refine ⟨fun _ => ⟨held 63, Tri.get_set_self ..⟩, fun h => absurd h (by simp [Parameter.number]),
        fun h => absurd h (by simp [Parameter.number]), fun k apart => Tri.get_set_ne _ _ apart⟩
  | levelMax k =>
      cases named
      refine ⟨fun h => absurd h (by simp [Parameter.number]), fun _ => ⟨congrArg (max · _) (held 63), Tri.get_set_self ..⟩,
        fun h => absurd h (by simp [Parameter.number]), fun k apart => Tri.get_set_ne _ _ apart⟩
  | target k =>
      cases named
      refine ⟨fun h => absurd h (by simp [Parameter.number]), fun h => absurd h (by simp [Parameter.number]),
        fun _ => ⟨held 255, Tri.get_set_self ..⟩, fun k apart => Tri.get_set_ne _ _ apart⟩
  | _ => cases named

/-- The block once a parameter is in force, its command's frame having left. -/
def State.parametered (s : State) (p : Port) (tag : Byte) (q : Parameter) (w : Nat) : State :=
  (State.parameterEffects { s.answered p 0x09 tag .ok (be 2 w) with settings := q.store s.settings w } q).retireSince
    (s.popFrame p)

/-- A level setting's effect on the controllers (R143). -/
def Parameter.controllers (q : Parameter) (levels : Tri LevelRec) (v : Settings) : Tri LevelRec :=
  match q with
  | .levelMin ph | .levelMax ph => levels.set ph ((levels.get ph).reacquire.within (v.levels.get ph))
  | .target ph => levels.set ph (levels.get ph).reacquire
  | _ => levels

theorem State.parameterEffects_frame (s : State) (q : Parameter) :
    CalFrame { s with levels := q.controllers s.levels s.settings } (s.parameterEffects q) := by
  cases q with
  | routineRepeats | urgentRepeats | guardMs | leadS | gap => exact State.recomputeAll_cal s
  | _ => rfl

theorem State.parameterEffects_plansCurrent (s : State) {q : Parameter} (planned : q.number ≤ 0x04) :
    PlansCurrent (s.parameterEffects q) := by
  cases q with
  | routineRepeats | urgentRepeats | guardMs | leadS | gap => exact State.recomputeAll_plansCurrent s
  | _ => simp [Parameter.number] at planned

theorem Parameter.controllers_same {q : Parameter} (levels : Tri LevelRec) (v : Settings) (none_ : q.phase = none) :
    q.controllers levels v = levels := by
  cases q with
  | levelMin | levelMax | target => cases none_
  | _ => rfl

theorem Parameter.controllers_get {q : Parameter} (named : q.phase = some ph) (levels : Tri LevelRec) {v : Settings}
    (ordered : (v.levels.get ph).low ≤ (v.levels.get ph).high ∨ q.number = 0x0C) :
    (q.controllers levels v).get ph =
      { levels.get ph with
        state := .acquire, windowCount := 0, windowMin := none, levelLimit := false
        level :=
          if q.number = 0x0C then (levels.get ph).level
          else max (v.levels.get ph).low (min (v.levels.get ph).high (levels.get ph).level) } ∧
    ∀ k ≠ ph, (q.controllers levels v).get k = levels.get k := by
  cases q with
  | levelMin k =>
      cases named
      refine ⟨(Tri.get_set_self ..).trans ?_, fun k apart => Tri.get_set_ne _ _ apart⟩
      have ordered := ordered.resolve_right (by simp [Parameter.number])
      rw [LevelRec.within, holdWithin_eq ordered]
      rfl
  | levelMax k =>
      cases named
      refine ⟨(Tri.get_set_self ..).trans ?_, fun k apart => Tri.get_set_ne _ _ apart⟩
      have ordered := ordered.resolve_right (by simp [Parameter.number])
      rw [LevelRec.within, holdWithin_eq ordered]
      rfl
  | target k =>
      cases named
      exact ⟨(Tri.get_set_self ..).trans rfl, fun k apart => Tri.get_set_ne _ _ apart⟩
  | _ => cases named

theorem State.parametered_cal (s : State) (p : Port) (tag : Byte) (q : Parameter) (w : Nat) :
    CalFrame { s.answered p 0x09 tag .ok (be 2 w) with
      settings := q.store s.settings w, levels := q.controllers s.levels (q.store s.settings w) }
      (s.parametered p tag q w) := (State.parameterEffects_frame _ q).trans (State.retireSince_cal _ _)

theorem State.parametered_grows (s : State) (p : Port) (tag : Byte) (q : Parameter) (w : Nat) :
    Grows (fun i => i.isNotice = true) (s.answered p 0x09 tag .ok (be 2 w)) (s.parametered p tag q w) := by
  refine Grows.trans ?_ ((grows_calKeeps fun _ _ => rfl).retireSince _ (s.popFrame p))
  exact Grows.after (State.parameterEffects_grows (fun _ _ => rfl) _ q) rfl

/-- A level setting written leaves the maximum not below the minimum. -/
theorem Parameter.store_ordered {q : Parameter} (named : q.phase = some ph) (v : Settings) (value : Nat) :
    ((q.store v (q.written v value)).levels.get ph).low ≤ ((q.store v (q.written v value)).levels.get ph).high ∨
      q.number = 0x0C := by
  obtain ⟨low, high, -, -⟩ := Parameter.store_levels named v value
  obtain h | h | h := (q.phase_isSome).mp (by rw [named]; rfl)
  · rw [(low h).2]
    exact .inl (Nat.le_max_right _ _)
  · rw [(high h).2, (high h).1]
    exact .inl (Nat.le_max_right _ _)
  · exact .inr h

/-- Settles O22: the settings by `Parameter.store_line` and `Parameter.store_levels`, the controllers by
`Parameter.controllers_get`, and every plan remade where the parameter is one of the plan. -/
theorem setParameterWritesWithinRange : Obligations.SetParameterWritesWithinRange := by
  intro p tag a s taken joint
  dsimp only
  have run := exec_of_takes taken rfl
  rw [State.joint_of_line joint] at run
  refine ⟨fun refused => ?_, fun known channel => ?_⟩
  · rw [(readParameterArgs_eq_none_iff a).mpr refused] at run
    exact run
  · cases read : readParameterArgs a with
    | none =>
        obtain high | ⟨leveled, outside⟩ := (readParameterArgs_eq_none_iff a).mp read
        · exact absurd known (Nat.not_le.mpr high)
        · obtain ⟨low, high⟩ := channel leveled
          omega
    | some q =>
        rw [read] at run
        obtain ⟨number, phase⟩ := readParameterArgs_eq_some read
        rw [number]
        obtain ⟨ranged, lost, nominal, modified, others, keeps, unleveled⟩ := q.store_line s.settings a.value.toNat
        have leveled := fun ph (named : q.phase = some ph) => Parameter.store_levels named s.settings a.value.toNat
        have ordered := fun ph (named : q.phase = some ph) => Parameter.store_ordered named s.settings a.value.toNat
        have untouched := q.store_frame s.settings (q.written s.settings a.value.toNat)
        have frame := s.parametered_cal p tag q (q.written s.settings a.value.toNat)
        have grows := s.parametered_grows p tag q (q.written s.settings a.value.toNat)
        have current : q.number ≤ 0x04 → PlansCurrent (s.parametered p tag q (q.written s.settings a.value.toNat)) :=
          fun planned => State.retireSince_plansCurrent _ (State.parameterEffects_plansCurrent _ planned)
        refine ⟨s.parametered p tag q (q.written s.settings a.value.toNat), q.written s.settings a.value.toNat, run, ?_⟩
        generalize s.parametered p tag q (q.written s.settings a.value.toNat) = t at frame grows current ⊢
        generalize q.written s.settings a.value.toNat = w at *
        have settings : t.settings = q.store s.settings w := by rw [frame]
        have levels : t.levels = q.controllers s.levels (q.store s.settings w) := by rw [frame]
        rw [settings, levels]
        obtain ⟨new, outq, -⟩ := grows.replyThenNotices
        refine ⟨⟨new, outq⟩, ranged, lost, nominal, fun ph here => ?_, current, modified, others, keeps, fun no_level => ?_,
          untouched, ?_⟩
        · have own (h : q.number = 0x0A ∨ q.number = 0x0B ∨ q.number = 0x0C) : q.phase = some ph := by
            obtain ⟨k, named⟩ := Option.isSome_iff_exists.mp (q.phase_isSome.mpr h)
            rw [named, ← here, phase k named]
          refine ⟨fun h => (leveled ph (own (.inl h))).1 h, fun h => (leveled ph (own (.inr (.inl h)))).2.1 h,
            fun h => (leveled ph (own (.inr (.inr h)))).2.2.1 h, fun h => ?_⟩
          obtain ⟨here, apart⟩ := Parameter.controllers_get (own h) s.levels (ordered ph (own h))
          have level (k : Phase) : t.levelRec k = (q.controllers s.levels (q.store s.settings w)).get k := by
            unfold State.levelRec
            rw [levels]
          refine ⟨(level ph).trans here, fun k other => ⟨(level k).trans (apart k other), ?_⟩⟩
          exact (leveled ph (own h)).2.2.2 k other
        · have none_ : q.phase = none := by
            rw [← Option.not_isSome_iff_eq_none, q.phase_isSome]
            exact no_level
          exact ⟨unleveled none_, Parameter.controllers_same _ _ none_⟩
        · rw [frame]
          rfl

end Sys2Proof.Machine
end

section
/-! PROOFS. ADD UNIT, and what EDIT UNIT and RETIRE UNIT read of their parameters (R102, R105, R195). -/

namespace Sys2Proof.Machine

variable {s t : State} {p : Port} {ph : Phase}

/-! ### Parameters (R195) -/

theorem phaseOfByte_eq_some_iff (b : Byte) (ph : Phase) : phaseOfByte b = some ph ↔ phaseByte ph = b := by
  unfold phaseOfByte phaseByte
  split
  all_goals first
    | cases ph <;> simp_all [BitVec.toNat_eq] <;> omega
    | cases ph <;> simp_all

theorem phaseOfByte_eq_none_iff (b : Byte) : phaseOfByte b = none ↔ 2 < b.toNat := by
  constructor
  · intro h
    by_contra small
    have : b.toNat ≤ 2 := by omega
    interval_cases hb : b.toNat <;> simp_all [phaseOfByte]
  · intro h
    unfold phaseOfByte
    split <;> first | omega | rfl

theorem groupsOfArg_of_pass {a : GroupsArg} (h : groupsPass a) : groupsOfArg a = some (groupPlaces a) := by
  obtain ⟨short, range, nodup⟩ := h
  refine if_pos ?_
  simp only [Bool.and_eq_true, decide_eq_true_eq, List.all_eq_true]
  exact ⟨⟨short, range⟩, nodup⟩

theorem groupsOfArg_of_fail {a : GroupsArg} (h : ¬ groupsPass a) : groupsOfArg a = none := by
  refine if_neg fun k => h ?_
  simp only [Bool.and_eq_true, decide_eq_true_eq, List.all_eq_true] at k
  exact ⟨k.1.1, k.1.2, k.2⟩

/-- The test of R102 as the commands make it: a route parameter is read, and obeys the law. -/
theorem routePasses_iff (r : Roster) (ph : Phase) (own : Option Nat) (a : RouteArg) :
    routePasses r ph own a ↔
      routeOfArg a = some (routePlaces a) ∧ routeLawful r ph own (routePlaces a) = true := by
  have read : routeOfArg a = some (routePlaces a) ↔ a.count.toNat ≤ 3 := by
    unfold routeOfArg routePlaces
    split <;> simp_all
  have length : (routePlaces a).length ≤ 3 := by simp [routePlaces]
  have empty : routePlaces a = [] ↔ a.count.toNat = 0 := by simp [routePlaces]
  rw [routeLawful_iff, read, empty]
  unfold routePasses
  constructor
  · rintro (none | ⟨short, front, last, v, places, found, capable, phase, route, own⟩)
    · exact ⟨by omega, .inl none⟩
    · exact ⟨short, .inr ⟨last, v, found, by rw [places, route], length, capable, phase, own⟩⟩
  · rintro ⟨short, none | ⟨last, v, found, places, -, capable, phase, own⟩⟩
    · exact .inl none
    · exact .inr ⟨short, v.route, last, v, places.symm, found, capable, phase, rfl, own⟩

/-- A route parameter that is read has the places it names. -/
theorem routeOfArg_eq {a : RouteArg} {route : List Nat} (h : routeOfArg a = some route) : route = routePlaces a := by
  unfold routeOfArg at h
  split at h
  · exact (Option.some.inj h).symm
  · cases h

/-! ### The lowest free index (R96) -/

theorem lowestFrom_eq_of_first : ∀ {r : Roster} {n i : Nat}, Rising r → (∀ x ∈ r, n ≤ x.1) → n ≤ i →
    (∀ j, n ≤ j → j < i → ∃ x ∈ r, x.1 = j) → (∀ x ∈ r, x.1 ≠ i) → lowestFrom n r = i
  | [], n, i, _, _, le, used, _ => by
      by_contra apart
      obtain ⟨x, hx, -⟩ := used n (Nat.le_refl n) (lt_of_le_of_ne le apart)
      cases hx
  | y :: rest, n, i, rising, low, le, used, free => by
      obtain ⟨first, later⟩ := List.pairwise_cons.mp (show ((y :: rest).map (·.1)).Pairwise (· < ·) from rising)
      have behind (x : Nat × UnitRec) (hx : x ∈ rest) : y.1 < x.1 := first _ (List.mem_map_of_mem hx)
      unfold lowestFrom
      by_cases h : y.1 = n
      · rw [if_pos h]
        have apart := free y List.mem_cons_self
        refine lowestFrom_eq_of_first later (fun x hx => ?_) (by omega) (fun j hj hi => ?_)
          fun x hx => free x (List.mem_cons_of_mem _ hx)
        · have := behind x hx
          omega
        · obtain ⟨x, hx, rfl⟩ := used j (by omega) hi
          obtain rfl | hx := List.mem_cons.mp hx
          · omega
          · exact ⟨x, hx, rfl⟩
      · rw [if_neg h]
        by_contra apart
        obtain ⟨x, hx, e⟩ := used n (Nat.le_refl n) (lt_of_le_of_ne le apart)
        have above := low y List.mem_cons_self
        obtain rfl | hx := List.mem_cons.mp hx
        · exact h e
        · have := behind x hx
          omega

/-- The lowest index that no unit holds, where there is one below the capacity. -/
theorem lowestFree_eq_some {capacity i : Nat} {r : Roster} (rising : Rising r) (below : i < capacity)
    (free : unitAt r i = none) (used : ∀ j < i, (unitAt r j).isSome = true) : lowestFree capacity r = some i := by
  have first : lowestFrom 0 r = i := by
    refine lowestFrom_eq_of_first rising (fun _ _ => Nat.zero_le _) (Nat.zero_le _) (fun j _ hj => ?_)
      (unitAt_eq_none_iff.mp free)
    obtain ⟨u, hu⟩ := Option.isSome_iff_exists.mp (used j hj)
    exact ⟨(j, u), unitAt_mem hu, rfl⟩
  unfold lowestFree
  simp only [first, if_pos below]

theorem lowestFree_eq_none {capacity : Nat} {r : Roster} (rising : Rising r)
    (used : ∀ j < capacity, (unitAt r j).isSome = true) : lowestFree capacity r = none := by
  cases found : lowestFree capacity r with
  | none => rfl
  | some i =>
      obtain ⟨free, below⟩ := lowestFree_free rising found
      have held := used i below
      rw [free] at held
      cases held

/-! ### The tests of R105 -/

theorem readAddUnitArgs_of_invalid {a : AddUnitArgs}
    (h : ¬ (a.address ≠ 0 ∧ a.address ≠ 0xFFFFFFFF ∧ a.phase.toNat ≤ 2 ∧ groupsPass a.groups)) :
    readAddUnitArgs a = none := by
  unfold readAddUnitArgs
  cases phase : phaseOfByte a.phase with
  | none => rfl
  | some ph =>
      cases groups : groupsOfArg a.groups with
      | none => rfl
      | some gs =>
          have low : a.phase.toNat ≤ 2 := by
            by_contra high
            rw [(phaseOfByte_eq_none_iff _).mpr (by omega)] at phase
            cases phase
          have pass : groupsPass a.groups := by
            by_contra fail
            rw [groupsOfArg_of_fail fail] at groups
            cases groups
          refine if_neg fun valid => h ?_
          have valid : a.address ≠ 0 ∧ a.address ≠ 0xFFFFFFFF := by simpa [validAddress] using valid
          exact ⟨valid.1, valid.2, low, pass⟩

theorem readAddUnitArgs_of_valid {a : AddUnitArgs} (phase : phaseByte ph = a.phase)
    (h : a.address ≠ 0 ∧ a.address ≠ 0xFFFFFFFF ∧ a.phase.toNat ≤ 2 ∧ groupsPass a.groups) :
    readAddUnitArgs a = some (ph, groupPlaces a.groups) := by
  obtain ⟨zero, ones, -, pass⟩ := h
  unfold readAddUnitArgs
  rw [(phaseOfByte_eq_some_iff _ _).mpr phase, groupsOfArg_of_pass pass]
  exact if_pos (by simpa [validAddress] using ⟨zero, ones⟩)

/-- What ADD UNIT comes to once its first test has passed. -/
theorem State.addUnitResult_of_read {s : State} {a : AddUnitArgs} {gs : List Nat} (read : readAddUnitArgs a = some (ph, gs)) :
    ((∃ x ∈ s.roster, x.2.address = a.address) → s.addUnitResult a = .error .duplicate) ∧
    ((¬ ∃ x ∈ s.roster, x.2.address = a.address) →
      (¬ routePasses s.roster ph none a.route → s.addUnitResult a = .error .badRoute) ∧
      (routePasses s.roster ph none a.route →
        (lowestFree s.rosterCapacity s.roster = none → s.addUnitResult a = .error .full) ∧
        ∀ i, lowestFree s.rosterCapacity s.roster = some i →
          s.addUnitResult a = .ok (i, UnitRec.added a.address ph gs a.relayCapable (routePlaces a.route)))) := by
  unfold State.addUnitResult
  rw [read]
  refine ⟨fun known => ?_, fun unknown => ⟨fun fails => ?_, fun passes => ?_⟩⟩
  · have held : (s.indexOf? a.address).isSome = true := by
      by_contra none
      obtain ⟨x, hx, same⟩ := known
      exact State.indexOf?_eq_none_iff.mp (by simpa using none) x hx same
    exact if_pos held
  all_goals
    have fresh : s.indexOf? a.address = none :=
      State.indexOf?_eq_none_iff.mpr fun x hx same => unknown ⟨x, hx, same⟩
    simp only [fresh, Option.isSome_none, Bool.false_eq_true, if_false]
  · split
    · rfl
    · rename_i route given
      obtain rfl := routeOfArg_eq given
      have unlawful : routeLawful s.roster ph none (routePlaces a.route) = false := by
        by_contra lawful
        exact fails ((routePasses_iff ..).mpr ⟨given, by simpa using lawful⟩)
      simp [unlawful]
  · obtain ⟨given, lawful⟩ := (routePasses_iff ..).mp passes
    simp only [given, lawful, Bool.not_true, Bool.false_eq_true, if_false]
    exact ⟨fun full => by rw [full], fun i free => by rw [free]⟩

/-! ### The figures computed afresh leave the counters and the field-pending lists (R115) -/

/-- What a group keeps of its own. -/
def State.groupsSending (s : State) : List (Byte × List Nat) := s.groups.map GroupRec.sending

theorem State.groupsSending_refigure (s : State) (g : Nat) : (s.refigure g).groupsSending = s.groupsSending := by
  unfold State.groupsSending
  refine List.ext_getElem (by simp [State.refigure, State.modGroup_length]) fun i inside inside' => ?_
  have below : i < s.groups.length := by simpa using inside'
  simp only [List.getElem_map, State.refigure, State.modGroup, List.getElem_set]
  split
  · rename_i same
    subst same
    simp [State.group, GroupRec.sending, below]
  · rfl

theorem State.groupsSending_of_cal (h : CalFrame s t) : t.groupsSending = s.groupsSending := by
  rw [h]
  rfl

theorem State.groupsSending_recomputeGroups (s : State) (gs : List Nat) :
    (s.recomputeGroups gs).groupsSending = s.groupsSending := by
  have refigured (l : List Nat) : (l.foldl State.refigure s).groupsSending = s.groupsSending :=
    foldl_frame (fun s t => State.groupsSending t = State.groupsSending s) (fun _ => rfl) (fun h k => k.trans h)
      State.refigure State.groupsSending_refigure l s
  unfold State.recomputeGroups
  exact (State.groupsSending_of_cal (State.recompute_cal _ _)).trans (refigured _)

/-! ### ADD UNIT (R105) -/

theorem exec_addUnit (tag : Byte) (a : AddUnitArgs) (takes : s.takes p (.addUnit p tag a)) :
    exec (.addUnit p tag a) s =
      .next (match s.addUnitResult a with
        | .error code => s.answered p 0x0C tag code []
        | .ok (i, u) => (s.answered p 0x0C tag .ok (be 2 i)).record i u) :=
  exec_of_takes takes rfl

/-- A block that differs in these blocks alone has them put back. -/
theorem Within.restore_roster (h : Within [.ports, .calendar, .retirement, .groups, .roster] s t) :
    { t with
      ports := s.ports, roster := s.roster, groups := s.groups, calendar := s.calendar, retirement := s.retirement } = s :=
  h.restore (by intro b hb; fin_cases hb <;> rfl)
    (by intro b hb; cases b <;> first | rfl | exact absurd (by decide) hb)

theorem State.answered_within (s : State) (p : Port) (code tag : Byte) (o : ReplyCode) (x : List Byte) :
    Within [.ports] s (s.answered p code tag o x) :=
  PortsFrame.within (show PortsFrame s (s.answered p code tag o x) from rfl)

/-- Settles O34. -/
theorem addUnitRecordsAtTheLowestFreeIndex : Obligations.AddUnitRecordsAtTheLowestFreeIndex := by
  intro p tag a s law takes c refused valid known routed
  have run := exec_addUnit tag a takes
  have refuse {code : ReplyCode} (result : s.addUnitResult a = .error code) : refused code := by
    rw [result] at run
    exact run
  refine ⟨fun invalid => refuse ?_, fun ok held => refuse ?_, fun ph named => ⟨fun ok fresh unrouted => refuse ?_,
    fun ok fresh route full => refuse ?_, fun i ok fresh route below free used => ?_⟩⟩
  · unfold State.addUnitResult
    rw [readAddUnitArgs_of_invalid invalid]
  · cases read : phaseOfByte a.phase with
    | none => exact absurd ok.2.2.1 (by have := (phaseOfByte_eq_none_iff _).mp read; omega)
    | some ph =>
        have read := readAddUnitArgs_of_valid ((phaseOfByte_eq_some_iff _ _).mp read) ok
        exact (State.addUnitResult_of_read read).1 held
  · exact ((State.addUnitResult_of_read (readAddUnitArgs_of_valid named ok)).2 fresh).1 unrouted
  · exact (((State.addUnitResult_of_read (readAddUnitArgs_of_valid named ok)).2 fresh).2 route).1
      (lowestFree_eq_none law.1.rising full)
  · have result := (((State.addUnitResult_of_read (readAddUnitArgs_of_valid named ok)).2 fresh).2 route).2 i
      (lowestFree_eq_some law.1.rising below free used)
    rw [result] at run
    have roster := State.record_roster (s := s.answered p 0x0C tag .ok (be 2 i)) i
      (UnitRec.added a.address ph (groupPlaces a.groups) a.relayCapable (routePlaces a.route))
    have within : Within [.ports, .calendar, .retirement, .groups, .roster] s
        ((s.answered p 0x0C tag .ok (be 2 i)).record i
          (UnitRec.added a.address ph (groupPlaces a.groups) a.relayCapable (routePlaces a.route))) :=
      Within.then (s.answered_within p _ _ _ _) (State.record_within _ _ _)
        (ds := [.ports, .calendar, .retirement, .groups, .roster]) (by decide)
    refine ⟨_, run, ?_, fun j apart => ?_, (State.record_grows (fun _ _ => rfl) _ i _).replyThenNotices, ?_, within.restore_roster⟩
    · exact (congrArg (unitAt · i) roster).trans (unitAt_putUnit_self free law.1.rising)
    · exact (congrArg (unitAt · j) roster).trans (unitAt_putUnit_ne free law.1.rising apart)
    · exact (State.groupsSending_of_cal (State.retireSince_cal _ _)).trans
        (State.groupsSending_recomputeGroups _ _)

end Sys2Proof.Machine
end

section
/-! PROOFS. EDIT UNIT and RETIRE UNIT: the dependents of a withdrawn relay, and their UNIT LOST (R101, R103, R106,
R107). -/

namespace Sys2Proof.Machine

variable {s t : State} {p q : Port} {i : Nat} {u v : UnitRec} {r : Roster}

/-! ### The dependents -/

theorem UnitRec.dependsOn_singleton (u : UnitRec) (i : Nat) : u.dependsOn [i] = true ↔ i ∈ u.route := by
  rw [UnitRec.dependsOn_iff]
  simp

theorem unitAt_dependents {j : Nat} (apart : j ≠ i) :
    unitAt (clearDependents i [i] r) j = (unitAt r j).map (withdrawnFrom i) := by
  rw [unitAt_clearDependents]
  congr 1
  funext u
  simp only [UnitRec.dependsOn_singleton, apart, ne_eq, not_false_eq_true, true_and]
  rfl

theorem unitAt_clearDependents_self (i : Nat) (r : Roster) : unitAt (clearDependents i [i] r) i = unitAt r i := by
  rw [unitAt_clearDependents]
  simp

/-! ### UNIT LOST of the dependents (R101) -/

/-- A unit that the withdrawal of the relay at an index takes from ACTIVE or DEGRADED to LOST. -/
def losesRoute (i : Nat) (x : Nat × UnitRec) : Bool := decide (x.1 ≠ i ∧ i ∈ x.2.route ∧ x.2.state ≠ .lost)

/-- UNIT LOST with the cause route. -/
def routeLostNotice (x : Nat × UnitRec) : Item :=
  .notice .unitLost (be 2 x.1 ++ be32 x.2.address ++ [phaseByte x.2.phase, 1])

theorem lostNotices_eq (r : Roster) (i : Nat) : lostNotices r i = (r.filter (losesRoute i)).map routeLostNotice := rfl

/-- The notices of the units that a withdrawn relay makes LOST are those of the units that relied on it. -/
theorem newlyLost_dependents (rising : Rising r) (i : Nat) :
    (newlyLost r (clearDependents i [i] r)).map (fun x => unitLostNotice x.1 x.2 .route) = lostNotices r i := by
  unfold newlyLost clearDependents
  rw [List.filter_map, List.map_map, lostNotices_eq]
  refine (congrArg (List.map _) (List.filter_congr (q := losesRoute i) fun x hx => ?_)).trans ?_
  · have found : unitAt r x.1 = some x.2 := rising.unitAt_iff.mpr hx
    simp only [Function.comp, found, UnitRec.dependsOn_singleton, losesRoute]
    by_cases lost : x.1 ≠ i ∧ i ∈ x.2.route
    · rw [Bool.eq_iff_iff]
      simp [lost, UnitRec.invalidated]
    · have none : ¬ (x.1 ≠ i ∧ i ∈ x.2.route ∧ x.2.state ≠ .lost) := fun h => lost ⟨h.1, h.2.1⟩
      simp [lost, none, bne]
  refine List.map_congr_left fun x hx => ?_
  have lost : x.1 ≠ i ∧ i ∈ x.2.route ∧ x.2.state ≠ .lost := of_decide_eq_true (List.mem_filter.mp hx).2
  simp only [Function.comp, UnitRec.dependsOn_singleton, lost.1, lost.2.1, ne_eq, not_false_eq_true, and_self, if_true]
  rfl

theorem lostNotices_setUnit (v : UnitRec) (r : Roster) (i : Nat) : lostNotices (setUnit i v r) i = lostNotices r i := by
  have apart {x : Nat × UnitRec} (hx : losesRoute i x = true) : x.1 ≠ i := (of_decide_eq_true hx).1
  rw [lostNotices_eq, lostNotices_eq, setUnit, List.filter_map, List.map_map]
  have same : r.filter (losesRoute i ∘ fun x => (x.1, if x.1 = i then v else x.2)) = r.filter (losesRoute i) := by
    refine List.filter_congr fun x _ => ?_
    by_cases h : x.1 = i
    · simp [losesRoute, h]
    · simp [Function.comp, h]
  rw [same]
  refine List.map_congr_left fun x hx => ?_
  simp [apart (List.mem_filter.mp hx).2]

theorem lostNotices_withoutUnit (r : Roster) (i : Nat) : lostNotices (withoutUnit i r) i = lostNotices r i := by
  rw [lostNotices_eq, lostNotices_eq, withoutUnit, List.filter_filter]
  congr 1
  refine List.filter_congr fun x _ => ?_
  by_cases h : x.1 = i <;> simp [losesRoute, h]

/-! ### Notices that all find room (R169) -/

theorem PortRec.offered_outq_of_room {r : PortRec} {n : Item} (length : r.outq.length < 16)
    (notices : noticeCount r.outq < 15) : (r.offered n).outq = r.outq ++ [n] := by
  unfold PortRec.offered
  rw [if_pos ((noticeRoom_iff _).mpr ⟨length, notices⟩)]

theorem State.offerBoth_port (s : State) (n : Item) (q : Port) : (s.offerBoth n).port q = (s.port q).offered n := by
  rw [State.offerBoth_eq]
  cases q <;> rfl

/-- Notices offered one after the other, where all of them find room, stand in their order at the end. -/
theorem foldl_offerBoth_outq (q : Port) : ∀ (l : List Item) (s : State),
    (s.port q).outq.length + l.length ≤ 16 → noticeCount (s.port q).outq + l.length ≤ 15 →
      ((l.foldl State.offerBoth s).port q).outq = (s.port q).outq ++ l
  | [], s, _, _ => by simp
  | n :: rest, s, length, notices => by
      rw [List.length_cons] at length notices
      have first : ((s.offerBoth n).port q).outq = (s.port q).outq ++ [n] := by
        rw [State.offerBoth_port]
        exact PortRec.offered_outq_of_room (by omega) (by omega)
      have one : noticeCount [n] ≤ 1 := by cases n <;> simp
      rw [List.foldl_cons, foldl_offerBoth_outq q rest (s.offerBoth n), first, List.append_assoc]
      · rfl
      · rw [first, List.length_append, List.length_singleton]
        omega
      · rw [first, noticeCount_append]
        omega

theorem State.noticeLost_eq (s : State) (before : Roster) (c : LostCause) :
    s.noticeLost before c =
      ((newlyLost before s.roster).map (fun x => unitLostNotice x.1 x.2 c)).foldl State.offerBoth s := by
  rw [List.foldl_map]
  rfl

/-- The reply, then the notices of the relay's dependents, then what else the event brings. -/
theorem repliedThen_of_grows {code tag : Byte} {x : List Byte} {w : State} {notices : List Item}
    (offered : w.ports = (notices.foldl State.offerBoth (s.answered p code tag .ok x)).ports)
    (grown : Grows (fun i => i.isNotice = true) w t) : repliedThen s t p (.reply code tag .ok x) notices := by
  intro q first length count
  have before : ((s.answered p code tag .ok x).port q).outq = (s.port q).outq ++ first := by
    by_cases h : q = p
    · subst h
      simp [first, State.answered, State.reply, State.popFrame]
    · rw [State.answered, State.reply, State.port_pushItem_ne _ _ h, State.popFrame, State.port_modPort_ne _ _ h]
      simp [first, h]
  have counted : noticeCount first = 0 := by
    dsimp only [first]
    split <;> rfl
  have queued : (w.port q).outq = (s.port q).outq ++ first ++ notices := by
    unfold State.port at before ⊢
    rw [offered]
    refine (foldl_offerBoth_outq q notices (s.answered p code tag .ok x) ?_ ?_).trans (congrArg (· ++ notices) before)
    · change (((s.answered p code tag .ok x).ports.get q).outq).length + _ ≤ _
      rw [before, List.length_append]
      exact length
    · change noticeCount (((s.answered p code tag .ok x).ports.get q).outq) + _ ≤ _
      rw [before, noticeCount_append, counted]
      exact count
  obtain ⟨more, outq, -, -⟩ := (grown q).outq
  exact ⟨more, by rw [outq, queued]⟩

/-! ### What the two commands do before the figures are computed afresh -/

theorem State.editUnit_dependents (s : State) (i : Nat) (u v : UnitRec) (withdrawn : u.withdrawn v = true) :
    Grows (fun i => i.isNotice = true) ((s.modUnit i (fun _ => v)).withdrawRelay i) (s.editUnit i u v) := by
  have notice (k : NoticeKind) (c : List Byte) : (Item.notice k c).isNotice = true := rfl
  unfold State.editUnit
  simp only [withdrawn, if_true]
  split
  · exact Grows.refl _
  · exact (State.recomputeGroups_grows notice _ _).trans ((grows_calKeeps notice).retireSince _ s)

theorem State.retireUnit_dependents (s : State) (i : Nat) (u : UnitRec) :
    Grows (fun i => i.isNotice = true) (State.withdrawRelay { s with roster := withoutUnit i s.roster } i)
      (s.retireUnit i u) := by
  have notice (k : NoticeKind) (c : List Byte) : (Item.notice k c).isNotice = true := rfl
  unfold State.retireUnit
  exact (State.recomputeGroups_grows notice _ _).trans ((grows_calKeeps notice).retireSince _ s)

theorem foldl_offerBoth_ports (l : List Item) {s t : State} (h : s.ports = t.ports) :
    (l.foldl State.offerBoth s).ports = (l.foldl State.offerBoth t).ports := by
  induction l generalizing s t with
  | nil => exact h
  | cons n rest ih =>
      refine ih ?_
      rw [State.offerBoth_eq, State.offerBoth_eq, h]

/-- The ports once the relay at an index has been withdrawn from a roster whose dependents one round finds. -/
theorem State.withdrawRelay_offers (s : State) (i : Nat) (rising : Rising s.roster)
    (round : invalidateFrom i s.roster = clearDependents i [i] s.roster) :
    (s.withdrawRelay i).ports = ((lostNotices s.roster i).foldl State.offerBoth s).ports := by
  unfold State.withdrawRelay
  rw [State.noticeLost_eq, round, newlyLost_dependents rising]
  exact foldl_offerBoth_ports _ rfl

/-! ### The tests of R106 -/

theorem groupsBroken_iff (g : Option GroupsArg) : groupsBroken g = false ↔ ∀ a, g = some a → groupsPass a := by
  cases g with
  | none => simp [groupsBroken]
  | some a =>
      simp only [groupsBroken, Option.some.injEq, forall_eq']
      by_cases h : groupsPass a
      · simp [groupsOfArg_of_pass h, h]
      · simp [groupsOfArg_of_fail h, h]

theorem editedGroups_eq (u : UnitRec) {g : Option GroupsArg} (pass : ∀ a, g = some a → groupsPass a) :
    editedGroups u g = (g.map groupPlaces).getD u.groups := by
  cases g with
  | none => rfl
  | some a => simp [editedGroups, groupsOfArg_of_pass (pass a rfl)]

theorem State.editedRoute_of_pass (s : State) (i : Nat) (u : UnitRec) {r : Option RouteArg}
    (pass : ∀ a, r = some a → routePasses s.roster u.phase (some i) a) :
    s.editedRoute i u r = some ((r.map routePlaces).getD u.route) := by
  cases r with
  | none => rfl
  | some a =>
      obtain ⟨read, lawful⟩ := (routePasses_iff ..).mp (pass a rfl)
      simp [State.editedRoute, read, lawful]

theorem State.editedRoute_of_fail (s : State) (i : Nat) (u : UnitRec) {r : Option RouteArg}
    (fail : ¬ ∀ a, r = some a → routePasses s.roster u.phase (some i) a) : s.editedRoute i u r = none := by
  cases r with
  | none => exact absurd (fun a e => nomatch e) fail
  | some a =>
      have fail : ¬ routePasses s.roster u.phase (some i) a := by simpa using fail
      unfold State.editedRoute
      split
      · rename_i read
        cases read
      · rename_i arg given
        cases given
        split
        · rename_i route read
          obtain rfl := routeOfArg_eq read
          exact if_neg fun lawful => fail ((routePasses_iff ..).mpr ⟨read, lawful⟩)
        · rfl

theorem UnitRec.withdrawn_iff (u v : UnitRec) :
    u.withdrawn v = true ↔ v.route ≠ u.route ∨ (u.relayCapable = true ∧ v.relayCapable = false) := by
  simp only [UnitRec.withdrawn, Bool.or_eq_true, bne_iff_ne, Bool.and_eq_true, Bool.not_eq_true']
  rw [ne_comm]

/-! ### The two commands (R106, R107) -/

theorem exec_editUnit (tag : Byte) (a : EditUnitArgs) (takes : s.takes p (.editUnit p tag a)) :
    exec (.editUnit p tag a) s =
      .next (match s.editUnitResult a with
        | .error code => s.answered p 0x0D tag code []
        | .ok (u, v) => (s.answered p 0x0D tag .ok []).editUnit a.index.toNat u v) :=
  exec_of_takes takes rfl

theorem exec_retireUnit (tag : Byte) (index : Word16) (takes : s.takes p (.retireUnit p tag index)) :
    exec (.retireUnit p tag index) s =
      .next (if s.rosterCapacity ≤ index.toNat then s.answered p 0x0E tag .badParameter []
        else
          match s.unit? index.toNat with
          | none => s.answered p 0x0E tag .noEntry []
          | some u => (s.answered p 0x0E tag .ok (be32 u.address)).retireUnit index.toNat u) :=
  exec_of_takes takes rfl

theorem editUnit_dependents_of_takes (tag : Byte) (a : EditUnitArgs) (s : State) (law : RosterLawful s)
    (takes : s.takes p (.editUnit p tag a)) :
    let c : Instr := .editUnit p tag a
    let i := a.index.toNat
    let refused (code : ReplyCode) : Prop := exec c s = .next (s.answered p 0x0D tag code [])
    let valid : Prop := i < s.rosterCapacity ∧ ∀ g, a.groups = some g → groupsPass g
    (¬ valid → refused .badParameter) ∧ (valid → s.unit? i = none → refused .noEntry) ∧
    ∀ u, s.unit? i = some u →
      let routed : Prop := ∀ r, a.route = some r → routePasses s.roster u.phase (some i) r
      (valid → ¬ routed → refused .badRoute) ∧
      (valid → routed →
        s.editUnitResult a = .ok (u, { u with
          route := (a.route.map routePlaces).getD u.route, groups := (a.groups.map groupPlaces).getD u.groups,
          pinned := a.pinned.getD u.pinned, relayCapable := a.relayCapable.getD u.relayCapable })) := by
  intro c i refused valid
  have run := exec_editUnit tag a takes
  have refuse {code : ReplyCode} (result : s.editUnitResult a = .error code) : refused code := by
    rw [result] at run
    exact run
  have tested : (s.rosterCapacity ≤ a.index.toNat || groupsBroken a.groups) = true ↔ ¬ valid := by
    rw [Bool.or_eq_true, decide_eq_true_iff, ← Bool.not_eq_false, groupsBroken_iff]
    simp only [valid, i]
    rw [not_and_or, Nat.not_lt]
  refine ⟨fun invalid => refuse (if_pos (tested.mpr invalid)), fun ok free => refuse ?_, fun u found => ⟨?_, ?_⟩⟩
  · unfold State.editUnitResult
    rw [if_neg fun h => tested.mp h ok, free]
  · intro ok fail
    refine refuse ?_
    unfold State.editUnitResult
    have none : s.editedRoute a.index.toNat u a.route = none := s.editedRoute_of_fail _ u fail
    rw [if_neg fun h => tested.mp h ok, found]
    simp only [none]
  · intro ok pass
    unfold State.editUnitResult
    have route : s.editedRoute a.index.toNat u a.route = some ((a.route.map routePlaces).getD u.route) :=
      s.editedRoute_of_pass _ u pass
    rw [if_neg fun h => tested.mp h ok, found]
    simp only [route, editedGroups_eq u ok.2]

/-- Settles O35. -/
theorem editsAndRetirementsReachDependents : Obligations.EditsAndRetirementsReachDependents := by
  constructor
  · intro p tag a s law takes c i refused valid
    obtain ⟨invalid, absent, tested⟩ := editUnit_dependents_of_takes tag a s law takes
    refine ⟨invalid, absent, ?_⟩
    intro u found routed
    refine ⟨(tested u found).1, ?_⟩
    intro ok route v withdrawn
    have run := exec_editUnit tag a takes
    rw [(tested u found).2 ok route] at run
    have roster := State.editUnit_roster (s := s.answered p 0x0D tag .ok []) law.1 i u v
    have within : Within [.ports, .calendar, .retirement, .groups, .roster] s
        ((s.answered p 0x0D tag .ok []).editUnit i u v) :=
      Within.then (s.answered_within p _ _ _ _) (State.editUnit_within _ _ _ _)
        (ds := [.ports, .calendar, .retirement, .groups, .roster]) (by decide)
    have grows := State.editUnit_grows (fun _ _ => rfl) (s.answered p 0x0D tag .ok []) i u v
      (P := fun i => i.isNotice = true)
    refine ⟨_, run, ?_, fun gone => ⟨fun j apart => ?_, ?_⟩, fun stays j apart => ?_, grows.replyThenNotices,
      within.restore_roster⟩
    · refine (congrArg (unitAt · i) roster).trans ?_
      unfold written
      split
      · exact (unitAt_clearDependents_self i _).trans (unitAt_setUnit_self found)
      · exact unitAt_setUnit_self found
    · refine (congrArg (unitAt · j) roster).trans ?_
      rw [(u.withdrawn_iff v).mpr gone]
      exact (unitAt_dependents apart).trans (congrArg _ (unitAt_setUnit_ne apart))
    · refine repliedThen_of_grows ?_ (State.editUnit_dependents _ i u v ((u.withdrawn_iff v).mpr gone))
      have written : ((s.answered p 0x0D tag .ok []).modUnit i (fun _ => v)).roster = setUnit i v s.roster :=
        State.modUnit_roster _ i v
      refine (State.withdrawRelay_offers _ i ?_ ?_).trans ?_
      · rw [written]
        exact law.1.rising.setUnit
      · rw [written]
        exact law.1.written_eq true
      · rw [written, lostNotices_setUnit]
        exact foldl_offerBoth_ports _ rfl
    · refine (congrArg (unitAt · j) roster).trans ?_
      have kept : u.withdrawn v = false := by
        rw [← Bool.not_eq_true, UnitRec.withdrawn_iff]
        exact stays
      rw [kept]
      exact unitAt_setUnit_ne apart
  · intro p tag index s law takes c i
    have run := exec_retireUnit tag index takes
    refine ⟨fun above => ?_, fun below free => ?_, fun u below found => ?_⟩
    · rw [if_pos above] at run
      exact run
    · rw [if_neg (Nat.not_le.mpr below), free] at run
      exact run
    · rw [if_neg (Nat.not_le.mpr below), found] at run
      have roster := State.retireUnit_roster (s := s.answered p 0x0E tag .ok (be32 u.address)) law.1 i u
      have within : Within [.ports, .calendar, .retirement, .groups, .roster] s
          ((s.answered p 0x0E tag .ok (be32 u.address)).retireUnit i u) :=
        Within.then (s.answered_within p _ _ _ _) (State.retireUnit_within _ _ _)
          (ds := [.ports, .calendar, .retirement, .groups, .roster]) (by decide)
      have grows := State.retireUnit_grows (fun _ _ => rfl) (s.answered p 0x0E tag .ok (be32 u.address)) i u
        (P := fun i => i.isNotice = true)
      refine ⟨_, run, ?_, fun j apart => ?_, ?_, grows.replyThenNotices, within.restore_roster⟩
      · refine (congrArg (unitAt · i) roster).trans ((unitAt_clearDependents_self i _).trans ?_)
        exact unitAt_eq_none_iff.mpr fun x hx => (mem_withoutUnit.mp hx).2
      · exact (congrArg (unitAt · j) roster).trans
          ((unitAt_dependents apart).trans (congrArg _ (unitAt_withoutUnit_ne apart)))
      · refine repliedThen_of_grows ?_ (State.retireUnit_dependents _ i u)
        refine (State.withdrawRelay_offers _ i (law.1.rising.filter _) law.1.without_eq).trans ?_
        have without : lostNotices (withoutUnit i s.roster) i = lostNotices s.roster i := lostNotices_withoutUnit _ i
        refine (congrArg (fun l => (List.foldl State.offerBoth _ l).ports) without).trans ?_
        exact foldl_offerBoth_ports _ rfl

end Sys2Proof.Machine
end

section
/-! PROOFS. PING UNIT (R90), and the pings of a HALTED channel (R94, R172). -/

namespace Sys2Proof.Machine

variable {s t : State} {p o : Port} {ph : Phase}

/-! ### Queues of pings -/

theorem setOldestQueued_of_first {st : PingState} {front back : List PingRec} {z : PingRec}
    (none : ∀ x ∈ front, x.state ≠ .queued) (queued : z.state = .queued) :
    setOldestQueued st (front ++ z :: back) = front ++ { z with state := st } :: back := by
  induction front with
  | nil => exact if_pos queued
  | cons x rest ih =>
      rw [List.cons_append, setOldestQueued, if_neg (none x List.mem_cons_self),
        ih fun y hy => none y (List.mem_cons_of_mem _ hy)]
      rfl

theorem oldestQueued_of_first {front back : List PingRec} {z : PingRec} (none : ∀ x ∈ front, x.state ≠ .queued)
    (queued : z.state = .queued) : oldestQueued (front ++ z :: back) = some z := by
  unfold oldestQueued
  rw [List.find?_append, List.find?_eq_none.mpr (by simpa using none), List.find?_cons_of_pos (by simp [queued])]
  rfl

theorem isHeldFor_of_state {w : PingRec} {result : PingResult} (origin : w.origin = o) (held : w.state = .held result) :
    isHeldFor o w = true := by
  simp [isHeldFor, origin, held]

theorem heldPing_of_first {front back : List PingRec} {w : PingRec} {result : PingResult}
    (none : ∀ x ∈ front, isHeldFor o x = false) (origin : w.origin = o) (held : w.state = .held result) :
    heldPing o (front ++ w :: back) = some (w, result) := by
  induction front with
  | nil => simp [heldPing, origin, held]
  | cons x rest ih =>
      have skipped : heldPing o (x :: (rest ++ w :: back)) = heldPing o (rest ++ w :: back) := by
        have apart := none x List.mem_cons_self
        unfold heldPing
        rw [List.findSome?_cons]
        split
        · rename_i found
          unfold isHeldFor at apart
          split at found
          · rename_i same
            rw [same] at apart
            split at found
            · rename_i held
              simp [held] at apart
            · cases found
          · cases found
        · rfl
      exact skipped.trans (ih fun y hy => none y (List.mem_cons_of_mem _ hy))

theorem eraseP_of_first {front back : List PingRec} {w : PingRec} (none : ∀ x ∈ front, isHeldFor o x = false)
    (held : isHeldFor o w = true) : (front ++ w :: back).eraseP (isHeldFor o) = front ++ back := by
  rw [List.eraseP_append_right _ (by simpa using none), List.eraseP_cons_of_pos held]

/-- The notice of a record offered to its port: queued, the record having left its queue, or held. -/
theorem State.offerHeld_ping_of_first (s : State) {front back : List PingRec} {w : PingRec} {result : PingResult}
    (none : ∀ x ∈ front, isHeldFor o x = false) (origin : w.origin = o) (held : w.state = .held result)
    (room : (s.port o).held = [] ∧ (s.port o).outq.length < 16 ∧ noticeCount (s.port o).outq < 15) :
    State.offerHeld { s with pings := s.pings.set ph (front ++ w :: back) } o (.ping ph) =
      { s.pushItem o (pingNotice ph w result) with pings := s.pings.set ph (front ++ back) } := by
  have queue : State.pingQueue { s with pings := s.pings.set ph (front ++ w :: back) } ph = front ++ w :: back :=
    Tri.get_set_self ..
  have item : State.heldItem { s with pings := s.pings.set ph (front ++ w :: back) } o (.ping ph) =
      some (pingNotice ph w result) := by
    simp only [State.heldItem, queue, heldPing_of_first none origin held]
    rfl
  unfold State.offerHeld
  refine (if_pos ((noticeRoom_and_iff _).mpr room)).trans ?_
  rw [State.queueHeld, item]
  simp only [State.completeHeld, State.modPings, State.pushItem, State.modPort, State.pingQueue, Tri.get_set_self,
    Tri.set_set, eraseP_of_first none (isHeldFor_of_state origin held)]
  rfl

theorem State.offerHeld_of_no_room (owner : HeldOwner)
    (full : ¬ ((s.port o).held = [] ∧ (s.port o).outq.length < 16 ∧ noticeCount (s.port o).outq < 15)) :
    s.offerHeld o owner = s.modPort o (fun x => { x with held := x.held ++ [owner] }) :=
  if_neg fun h => full ((noticeRoom_and_iff _).mp h)

/-- A record joins the queue of a channel, and the oldest QUEUED one is completed. -/
theorem State.completeQueued_joined (s : State) {front back : List PingRec} {r z : PingRec} {result : PingResult}
    (queue : s.pingQueue ph ++ [r] = front ++ z :: back) (none : ∀ x ∈ front, x.state ≠ .queued)
    (queued : z.state = .queued) :
    (s.modPings ph (· ++ [r])).completeQueued ph result =
      State.offerHeld { s with pings := s.pings.set ph (front ++ { z with state := .held result } :: back) } z.origin
        (.ping ph) := by
  unfold State.completeQueued
  rw [State.pingQueue_modPings_self, queue, oldestQueued_of_first none queued]
  simp only [State.modPings, State.pingQueue, Tri.get_set_self, Tri.set_set]
  unfold State.pingQueue at queue
  rw [queue, setOldestQueued_of_first none queued]

/-! ### PING UNIT (R90) -/

theorem exec_pingUnit (tag : Byte) (index : Word16) (register : Bool) (takes : s.takes p (.pingUnit p tag index register)) :
    exec (.pingUnit p tag index register) s =
      .next (match s.pingResultOf index.toNat with
        | .error code => s.answered p 0x12 tag code []
        | .ok u =>
            let t := State.modPings (s.answered p 0x12 tag .ok [channelByte u.phase]) u.phase
              (· ++ [⟨p, tag, index.toNat, u.address, register, .queued, false⟩])
            if (s.chan u.phase).state = .halted then t.completeQueued u.phase .silent else t) :=
  exec_of_takes takes rfl

/-- Settles O36. -/
theorem pingUnitQueuesARecord : Obligations.PingUnitQueuesARecord := by
  intro p tag index register s takes c i refused
  have run := exec_pingUnit tag index register takes
  refine ⟨fun above => ?_, fun below free => ?_, ?_⟩
  · rw [State.pingResultOf, if_pos above] at run
    exact run
  · rw [State.pingResultOf, if_neg (Nat.not_le.mpr below), free] at run
    exact run
  · intro u below found q r t
    have room (small : q.length < 8) : s.pingResultOf index.toNat = .ok u := by
      rw [State.pingResultOf, if_neg (Nat.not_le.mpr below), found]
      exact if_neg (Nat.not_le.mpr small)
    refine ⟨fun full => ?_, fun small runs => ?_, fun small halted none => ?_, ?_⟩
    · have busy : s.pingResultOf index.toNat = .error .busy := by
        rw [State.pingResultOf, if_neg (Nat.not_le.mpr below), found]
        exact if_pos full
      rw [busy] at run
      exact run
    · rw [room small] at run
      exact run.trans (congrArg _ (if_neg runs))
    · rw [room small] at run
      have joined := t.completeQueued_joined (result := .silent) (show t.pingQueue u.phase ++ [r] = q ++ r :: [] from rfl)
        (fun x hx => (none x hx).1) rfl
      refine run.trans (congrArg _ ((if_pos halted).trans (joined.trans ?_)))
      split
      · rename_i fits
        have same : s.pings.set u.phase (q ++ []) = s.pings := by
          rw [List.append_nil]
          exact Tri.set_get _ _
        refine (t.offerHeld_ping_of_first (result := .silent) (fun x hx => (none x hx).2) rfl rfl fits).trans ?_
        change ({ t.pushItem p _ with pings := s.pings.set u.phase (q ++ []) } : State) = _
        rw [same]
        rfl
      · rename_i full
        exact State.offerHeld_of_no_room (.ping u.phase) full
    · intro front z back small halted split none queued marked o room'
      rw [room small] at run
      have joined := t.completeQueued_joined (result := .silent) split none queued
      have run := run.trans (congrArg _ ((if_pos halted).trans joined))
      refine ⟨fun full => ?_, fun before w result after fits cut apart origin held => ?_⟩
      · exact run.trans (congrArg _ (State.offerHeld_of_no_room (.ping u.phase) full))
      · have offered := t.offerHeld_ping_of_first (ph := u.phase) (back := after) apart origin held fits
        rw [← cut] at offered
        exact run.trans (congrArg _ offered)

end Sys2Proof.Machine
end

section
/-! PROOFS. The arbiter's choice (R61, R62). -/

namespace Sys2Proof.Machine

variable {s t : State} {ph : Phase} {e : Entry} {h : Nat}

/-! ### The four classes of parts (R61) -/

/-- The number of an arbitration class of READY parts. -/
def classNumber : EntryClass → Bool → Nat
  | .urgent, true => 1
  | .routine, true => 2
  | .urgent, false => 3
  | .routine, false => 4

theorem Entry.locks_eq_false_iff (e : Entry) : e.locks = false ↔ e.state ≠ .sending ∧ e.state ≠ .confirming := by
  simp [Entry.locks]

theorem startable_iff (s : State) (e : Entry) (now : Nat) : startable s e now ↔ s.canStart e now = true := by
  rw [State.canStart_iff]
  simp only [startable, Entry.locks_eq_false_iff]

theorem mem_candidates_iff (c : EntryClass) (due : Bool) (now : Nat) :
    e ∈ s.candidates ph c due now ↔ inClass s ph now (classNumber c due) e := by
  rw [State.mem_candidates, ← startable_iff]
  cases c <;> cases due <;> simp only [inClass, classNumber, if_true, Bool.false_eq_true, if_false] <;>
    constructor <;> intro h <;> simp_all

theorem inClass_number {now k : Nat} (h : inClass s ph now k e) : k = 1 ∨ k = 2 ∨ k = 3 ∨ k = 4 := by
  obtain ⟨-, -, -, ⟨rfl, -⟩ | ⟨rfl, -⟩ | ⟨rfl, -⟩ | ⟨rfl, -⟩⟩ := h <;> simp

/-! ### Earliest LS first (R61) -/

theorem earliestFirst_le {es : List Entry} {b : Entry} (best : earliestFirst ph es = some b) :
    ∀ x ∈ es, (b.parts.get ph).ls ≤ (x.parts.get ph).ls := by
  induction es using List.reverseRecOn generalizing b with
  | nil => cases best
  | append_singleton l y ih =>
      unfold earliestFirst at best ih
      rw [List.foldl_append, List.foldl_cons, List.foldl_nil] at best
      intro x hx
      split at best
      · rename_i empty
        cases best
        obtain hx | hx := List.mem_append.mp hx
        · obtain ⟨z, hz⟩ := earliestFirst_isSome (ph := ph) (List.ne_nil_of_mem hx)
          rw [earliestFirst] at hz
          rw [hz] at empty
          cases empty
        · rw [List.mem_singleton.mp hx]
      · rename_i a found
        obtain hx | hx := List.mem_append.mp hx
        · have le := ih found x hx
          split at best
          · obtain rfl := Option.some.inj best
            omega
          · obtain rfl := Option.some.inj (found.symm.trans best)
            exact le
        · rw [List.mem_singleton.mp hx]
          split at best
          · obtain rfl := Option.some.inj best
            exact Nat.le_refl _
          · obtain rfl := Option.some.inj (found.symm.trans best)
            omega

theorem earliestFirst_eq_none_iff {es : List Entry} : earliestFirst ph es = none ↔ es = [] := by
  refine ⟨fun h => ?_, fun h => by rw [h]; rfl⟩
  by_contra some_
  obtain ⟨b, hb⟩ := earliestFirst_isSome (ph := ph) some_
  rw [h] at hb
  cases hb

theorem no_candidates_iff (c : EntryClass) (due : Bool) (now : Nat) :
    earliestFirst ph (s.candidates ph c due now) = none ↔ ∀ e, ¬ inClass s ph now (classNumber c due) e := by
  rw [earliestFirst_eq_none_iff, List.eq_nil_iff_forall_not_mem]
  exact forall_congr' fun e => not_congr (mem_candidates_iff c due now)

/-- The earliest of a class is in it, and no other of it has an earlier LS. -/
theorem earliest_candidate {c : EntryClass} {due : Bool} {now : Nat}
    (best : earliestFirst ph (s.candidates ph c due now) = some e) :
    inClass s ph now (classNumber c due) e ∧
      ∀ x, inClass s ph now (classNumber c due) x → (e.parts.get ph).ls ≤ (x.parts.get ph).ls :=
  ⟨(mem_candidates_iff c due now).mp (mem_of_earliestFirst best),
    fun x hx => earliestFirst_le best x ((mem_candidates_iff c due now).mpr hx)⟩

/-! ### The other classes -/

/-- The suspended part could resume (R61, R62). -/
def State.resumes (s : State) (ph : Phase) (h : Nat) : Prop :=
  (s.chan ph).suspendedPart = some h ∧ ∃ e, s.entry? h = some e ∧ s.crossingNow ph < e.cutOff * 1000

theorem State.resumable_eq_some_iff : s.resumable ph (s.crossingNow ph) = some h ↔ s.resumes ph h := by
  unfold State.resumable State.resumes
  constructor
  · intro found
    split at found
    · rename_i k suspended
      split at found
      · rename_i e entry
        split at found
        · cases found
          exact ⟨suspended, e, entry, by assumption⟩
        · cases found
      · cases found
    · cases found
  · rintro ⟨suspended, e, entry, ahead⟩
    simp only [suspended, entry, if_pos ahead]

theorem State.resumable_eq_none_iff : s.resumable ph (s.crossingNow ph) = none ↔ ∀ h, ¬ s.resumes ph h := by
  rw [Option.eq_none_iff_forall_ne_some]
  exact forall_congr' fun h => not_congr State.resumable_eq_some_iff

/-- The entry has confirmation work of class 5 on the phase. -/
def State.confirms (s : State) (ph : Phase) (e : Entry) : Prop :=
  e ∈ s.calendar ∧ e.confirming = true ∧ e.confirmLive = true ∧ e.hasConfirmWork ph = true

theorem State.confirms_of_toConfirm (found : s.toConfirm ph = some e) : s.confirms ph e := by
  have work := List.find?_some found
  simp only [Bool.and_eq_true] at work
  exact ⟨List.mem_of_find?_eq_some found, work.1.1, work.1.2, work.2⟩

theorem State.toConfirm_eq_none (none : s.toConfirm ph = none) : ∀ e, ¬ s.confirms ph e := by
  rintro e ⟨mem, confirming, live, work⟩
  exact List.find?_eq_none.mp none e mem (by simp [confirming, live, work])

theorem oldestQueued_isSome_iff (q : List PingRec) :
    (oldestQueued q).isSome = true ↔ ¬ ∀ r ∈ q, r.state ≠ .queued := by
  simp [oldestQueued, List.find?_isSome]

/-! ### The choice (R61) -/

/-- No part could start or resume. -/
def State.NoPart (s : State) (ph : Phase) : Prop :=
  (∀ k e, ¬ inClass s ph (s.crossingNow ph) k e) ∧ ∀ h, ¬ s.resumes ph h

/-- What a choice of the arbiter says of the classes. -/
def State.ChosenByClass (s : State) (ph : Phase) : Option Choice → Prop
  | some (.part h) =>
      ∃ k e, e.handle = h ∧ inClass s ph (s.crossingNow ph) k e ∧
        (∀ j < k, ∀ x, ¬ inClass s ph (s.crossingNow ph) j x) ∧ ((∃ g, s.resumes ph g) → k = 1) ∧
        ∀ x, inClass s ph (s.crossingNow ph) k x → (e.parts.get ph).ls ≤ (x.parts.get ph).ls
  | some (.resume h) => s.resumes ph h ∧ ∀ x, ¬ inClass s ph (s.crossingNow ph) 1 x
  | some (.confirm h) => s.NoPart ph ∧ ∃ e, e.handle = h ∧ s.confirms ph e
  | some .ping => s.NoPart ph ∧ (∀ e, ¬ s.confirms ph e) ∧ ¬ ∀ r ∈ s.pingQueue ph, r.state ≠ .queued
  | some .registration =>
      s.NoPart ph ∧ (∀ e, ¬ s.confirms ph e) ∧ (∀ r ∈ s.pingQueue ph, r.state ≠ .queued) ∧ (s.disc ph).registration ≠ []
  | some .probe =>
      s.NoPart ph ∧ (∀ e, ¬ s.confirms ph e) ∧ (∀ r ∈ s.pingQueue ph, r.state ≠ .queued) ∧
        (s.disc ph).registration = [] ∧ (s.disc ph).state = .probing ∧ (s.disc ph).stack ≠ []
  | none =>
      s.NoPart ph ∧ (∀ e, ¬ s.confirms ph e) ∧ (∀ r ∈ s.pingQueue ph, r.state ≠ .queued) ∧
        (s.disc ph).registration = [] ∧ ((s.disc ph).state = .probing → (s.disc ph).stack = [])

/-- A part of a class is chosen where the classes below have none, and the suspended part none or the class is the
first. -/
theorem State.chosen_part_byClass {c : EntryClass} {due : Bool}
    (best : earliestFirst ph (s.candidates ph c due (s.crossingNow ph)) = some e)
    (below : ∀ j < classNumber c due, ∀ x, ¬ inClass s ph (s.crossingNow ph) j x)
    (first : (∃ g, s.resumes ph g) → classNumber c due = 1) : s.ChosenByClass ph (some (.part e.handle)) :=
  have ⟨mem, least⟩ := earliest_candidate best
  ⟨_, e, rfl, mem, below, first, least⟩

theorem State.discoveryWork_byClass (part : s.NoPart ph) (confirm : ∀ e, ¬ s.confirms ph e)
    (ping : ∀ r ∈ s.pingQueue ph, r.state ≠ .queued) : s.ChosenByClass ph (s.discoveryWork ph) := by
  unfold State.discoveryWork
  dsimp only
  split
  · rename_i listed
    exact ⟨part, confirm, ping, by simpa using listed⟩
  · rename_i empty
    have empty : (s.disc ph).registration = [] := by simpa using empty
    split
    · rename_i probes
      have probes : (s.disc ph).state = .probing ∧ (s.disc ph).stack ≠ [] := by simpa using probes
      exact ⟨part, confirm, ping, empty, probes.1, probes.2⟩
    · rename_i rests
      exact ⟨part, confirm, ping, empty, by simpa using rests⟩

theorem State.choose_byClass (s : State) (ph : Phase) : s.ChosenByClass ph (s.choose ph) := by
  have zero (x : Entry) : ¬ inClass s ph (s.crossingNow ph) 0 x := fun h => by
    have := inClass_number h
    omega
  unfold State.choose
  dsimp only
  cases urgentDue : earliestFirst ph (s.candidates ph .urgent true (s.crossingNow ph)) with
  | some e =>
      refine State.chosen_part_byClass urgentDue (fun j below x => ?_) fun _ => rfl
      obtain rfl : j = 0 := by
        simp only [classNumber] at below
        omega
      exact zero x
  | none =>
  have one := (no_candidates_iff ..).mp urgentDue
  cases resumable : s.resumable ph (s.crossingNow ph) with
  | some h => exact ⟨State.resumable_eq_some_iff.mp resumable, one⟩
  | none =>
  have noResume := State.resumable_eq_none_iff.mp resumable
  have none_resumes {k : Nat} : (∃ g, s.resumes ph g) → k = 1 := fun ⟨g, hg⟩ => absurd hg (noResume g)
  cases routineDue : earliestFirst ph (s.candidates ph .routine true (s.crossingNow ph)) with
  | some e =>
      refine State.chosen_part_byClass routineDue (fun j below x => ?_) none_resumes
      obtain rfl | rfl : j = 0 ∨ j = 1 := by
        simp only [classNumber] at below
        omega
      · exact zero x
      · exact one x
  | none =>
  have two := (no_candidates_iff ..).mp routineDue
  cases urgentEarly : earliestFirst ph (s.candidates ph .urgent false (s.crossingNow ph)) with
  | some e =>
      refine State.chosen_part_byClass urgentEarly (fun j below x => ?_) none_resumes
      obtain rfl | rfl | rfl : j = 0 ∨ j = 1 ∨ j = 2 := by
        simp only [classNumber] at below
        omega
      · exact zero x
      · exact one x
      · exact two x
  | none =>
  have three := (no_candidates_iff ..).mp urgentEarly
  cases routineEarly : earliestFirst ph (s.candidates ph .routine false (s.crossingNow ph)) with
  | some e =>
      refine State.chosen_part_byClass routineEarly (fun j below x => ?_) none_resumes
      obtain rfl | rfl | rfl | rfl : j = 0 ∨ j = 1 ∨ j = 2 ∨ j = 3 := by
        simp only [classNumber] at below
        omega
      · exact zero x
      · exact one x
      · exact two x
      · exact three x
  | none =>
  have four := (no_candidates_iff ..).mp routineEarly
  have noPart : s.NoPart ph := by
    refine ⟨fun k x member => ?_, noResume⟩
    obtain rfl | rfl | rfl | rfl := inClass_number member
    · exact one x member
    · exact two x member
    · exact three x member
    · exact four x member
  cases toConfirm : s.toConfirm ph with
  | some e => exact ⟨noPart, e, rfl, State.confirms_of_toConfirm toConfirm⟩
  | none =>
  have noConfirm := State.toConfirm_eq_none toConfirm
  by_cases queued : (oldestQueued (s.pingQueue ph)).isSome = true
  · simp only [queued, if_true]
    exact ⟨noPart, noConfirm, (oldestQueued_isSome_iff _).mp queued⟩
  · simp only [if_neg queued]
    exact s.discoveryWork_byClass noPart noConfirm (by
      have none := (oldestQueued_isSome_iff (s.pingQueue ph)).not.mp queued
      exact Classical.not_not.mp none)

/-- Settles O46. -/
theorem arbiterChoosesByClass : Obligations.ArbiterChoosesByClass := by
  intro s ph now cls resumes confirms noPart noPing
  have chosen {c : Option Choice} (h : s.choose ph = c) : s.ChosenByClass ph c := h ▸ s.choose_byClass ph
  exact ⟨fun h => chosen, fun h => chosen, fun h => chosen, chosen, chosen, chosen, chosen⟩

end Sys2Proof.Machine
end

section
/-! PROOFS. What an event leaves of an entry as it settles the others; the end of a gap and of an outbound span (R48, R56,
R67, R71). -/

namespace Sys2Proof.Machine

variable {s t u : State} {ph : Phase} {e : Entry} {h k : Nat}

/-! ### An entry while it stays (R26) -/

/-- The entry with a handle, if it stays in the calendar, comes by the relation from the entry that had the handle. -/
def Traces (Q : Entry → Entry → Prop) (h : Nat) (s t : State) : Prop :=
  (s.entry? h = none → t.entry? h = none) ∧
    ∀ e, s.entry? h = some e → t.entry? h = none ∨ ∃ x, t.entry? h = some x ∧ Q e x

section
variable {Q : Entry → Entry → Prop}

theorem Traces.of_same (refl : ∀ e, Q e e) (same : t.calendar = s.calendar) : Traces Q h s t := by
  unfold Traces
  rw [State.entry?_of_same same]
  exact ⟨id, fun e found => .inr ⟨e, found, refl e⟩⟩

theorem Traces.trans (trans : ∀ {e x y}, Q e x → Q x y → Q e y) (a : Traces Q h s t) (b : Traces Q h t u) :
    Traces Q h s u := by
  refine ⟨fun none => b.1 (a.1 none), fun e found => ?_⟩
  obtain none | ⟨x, found', first⟩ := a.2 e found
  · exact .inl (b.1 none)
  · obtain none | ⟨y, found'', second⟩ := b.2 x found'
    · exact .inl none
    · exact .inr ⟨y, found'', trans first second⟩

theorem Traces.modEntry (refl : ∀ e, Q e e) (s : State) (h k : Nat) {f : Entry → Entry} (kept : ∀ e, (f e).handle = e.handle)
    (change : k = h → ∀ e, s.entry? h = some e → Q e (f e)) : Traces Q h s (s.modEntry k f) := by
  unfold Traces
  by_cases same : h = k
  · subst same
    rw [State.entry?_modEntry h kept]
    refine ⟨fun none => by rw [none]; rfl, fun e found => .inr ⟨f e, ?_, change rfl e found⟩⟩
    rw [found, Option.map_some, if_pos (by simp [State.entry?_handle found])]
  · rw [State.entry?_modEntry_ne kept same]
    exact ⟨id, fun e found => .inr ⟨e, found, refl e⟩⟩

theorem Traces.remove (refl : ∀ e, Q e e) (calendar : t.calendar = s.calendar.filter (fun e => e.handle != k)) :
    Traces Q h s t := by
  unfold Traces
  by_cases same : h = k
  · subst same
    have none : t.entry? h = none := by
      rw [State.entry?_eq_none_iff, calendar]
      exact fun e he => by simpa using (List.mem_filter.mp he).2
    exact ⟨fun _ => none, fun _ _ => .inl none⟩
  · have kept : t.entry? h = s.entry? h := by
      unfold State.entry?
      rw [calendar, List.find?_filter]
      refine List.find?_congr fun e _ => ?_
      by_cases he : e.handle = h <;> simp [he, same]
    rw [kept]
    exact ⟨id, fun e found => .inr ⟨e, found, refl e⟩⟩

theorem Traces.offerHeld (refl : ∀ e, Q e e) (s : State) (p : Port) (o : HeldOwner) : Traces Q h s (s.offerHeld p o) := by
  obtain same | ⟨k, -, gone⟩ := s.offerHeld_calendar p o
  · exact .of_same refl same
  · exact .remove refl gone

theorem Traces.joinRetirement (refl : ∀ e, Q e e) (trans : ∀ {e x y}, Q e x → Q x y → Q e y) (s : State) (k : Nat) :
    Traces Q h s (s.joinRetirement k) := by
  unfold State.joinRetirement
  split
  · rename_i e _
    have joined : Traces Q h s { s with retirement := s.retirement.set e.origin (s.retirement.get e.origin ++ [k]) } :=
      .of_same refl rfl
    exact joined.trans trans (.offerHeld refl _ _ _)
  · exact .of_same refl rfl

theorem Traces.retireSince (refl : ∀ e, Q e e) (trans : ∀ {e x y}, Q e x → Q x y → Q e y) (s before : State) :
    Traces Q h s (s.retireSince before) :=
  foldl_frame (Traces Q h) (fun _ => .of_same refl rfl) (.trans trans) _ (.joinRetirement refl trans) _ s

theorem Traces.on (a : Traces Q h s t) (same : u.calendar = t.calendar) : Traces Q h s u := by
  unfold Traces at a ⊢
  rwa [State.entry?_of_same same]

/-- A relation over the notes on an entry and over its retirement traces each entry through the calendar's operations. -/
theorem traces_calNotes (h : Nat) (refl : ∀ e, Q e e) (trans : ∀ {e x y}, Q e x → Q x y → Q e y)
    (noted : ∀ e f, Entry.Noted f → e.Progresses (f e) → Q e (f e))
    (retired : ∀ e, e.allFinished = true → e.outcome = none → Q e e.retired) : CalNotes (Traces Q h) where
  refl _ := .of_same refl rfl
  trans := Traces.trans trans
  offer s p k c := .of_same refl (s.offer_within p _ .calendar (by decide))
  join s k := .joinRetirement refl trans s k
  note s k f is progress := .modEntry refl s h k (fun e => Entry.fixed_handle (is.fixed e))
    fun same e found => noted e f is (progress e (same ▸ found))
  decide s k e found finished := .modEntry refl s h k (fun e => by split <;> rfl) fun same x found' => by
    subst same
    cases found.symm.trans found'
    split
    · exact refl e
    · next undecided => exact retired e finished (by simpa using undecided)

end

/-- The entry with a handle, if it stays in the calendar, keeps its parts and what it was submitted with. -/
abbrev PartsStay (h : Nat) : State → State → Prop := Traces (fun e x => x.fixed = e.fixed ∧ x.parts = e.parts) h

theorem partsStay_calNotes (h : Nat) : CalNotes (PartsStay h) :=
  traces_calNotes h (fun _ => ⟨rfl, rfl⟩) (fun a b => ⟨b.1.trans a.1, b.2.trans a.2⟩)
    (fun e _ noted _ => ⟨noted.fixed e, by rw [noted e]⟩) (fun _ _ _ => ⟨rfl, rfl⟩)

/-! ### Frames (R65, R142, R194) -/

theorem State.transmit_eq_sends (s : State) (ph : Phase) (w : Work) : s.transmit ph w = sends s ph w := rfl

theorem State.nextFlood_eq (s : State) (e : Entry) (ph : Phase) :
    s.nextFlood e ph = floodFrom s e ph (e.sequence.getD 0) (s.crossingNow ph) := rfl

theorem State.sendRepeat_eq (found : s.entry? h = some e) (ph : Phase) :
    s.sendRepeat h ph = sends s ph (.flood (floodFrom s e ph (e.sequence.getD 0) (s.crossingNow ph))) := by
  unfold State.sendRepeat
  rw [found]
  rfl

/-! ### A part stopped with its repeats sent (R16, R71) -/

/-- A part of which nothing is in flight, stopped: it is FINISHED, and the channel gives it up. -/
theorem State.stopPart_of_idle (found : s.entry? h = some e) (sending : (e.parts.get ph).state = .sending)
    (idle : (s.chan ph).work = none) :
    s.stopPart h ph = (s.finishPart h ph (e.parts.get ph).startedFinish).modChan ph (·.giveUp h) := by
  have none : s.floodOf h ph = false := by
    unfold State.floodOf
    rw [idle]
  unfold State.stopPart
  rw [found]
  simp only [sending, none, Bool.false_eq_true, if_false]

theorem State.finishPart_chan (s : State) (h : Nat) (ph q : Phase) (f : Finish) :
    (s.finishPart h ph f).chan q = s.chan q :=
  congrArg (·.get q) (s.finishPart_within h ph f .channels (by decide))

theorem State.finishPart_entry (found : s.entry? h = some e) (ph : Phase) (f : Finish) :
    ∃ needed, (s.finishPart h ph f).entry? h = some (e.modPart ph (·.finished f needed)) := by
  obtain ⟨needed, calendar⟩ := s.finishPart_calendar h ph f
  refine ⟨needed, (State.entry?_of_same calendar).trans (State.entry?_modEntry_self ?_ found)⟩
  exact fun _ => rfl

theorem CalFrame.chan_eq (frame : CalFrame s t) (q : Phase) : t.chan q = s.chan q :=
  congrArg (·.get q) (frame.within .channels (by decide))

/-! ### The ends of gaps and outbound spans -/

theorem execRepeatGapEnd_at (gap : (s.chan ph).gapLeft = some 0) (open_ : (s.chan ph).openPart = some h) :
    exec (.repeatGapEnd ph) s = .next ((s.endGap h ph).retireSince s) := by
  change Host.Outcome.next _ = _
  rw [gap, open_]
  rfl

/-- A gap that ends before the cut-off ends in the next repeat. -/
theorem gapEnd_sends (gap : (s.chan ph).gapLeft = some 0) (open_ : (s.chan ph).openPart = some h)
    (found : s.entry? h = some e) (ahead : s.crossingNow ph < e.cutOff * 1000) :
    exec (.repeatGapEnd ph) s =
      .next (sends s ph (.flood (floodFrom s e ph (e.sequence.getD 0) (s.crossingNow ph)))) := by
  rw [execRepeatGapEnd_at gap open_, State.endGap, found]
  dsimp only
  rw [if_neg (Nat.not_le.mpr ahead), State.retireSince_of_same (s.sendRepeat_calendar h ph), State.sendRepeat_eq found]

/-- A part of which nothing is in flight, stopped at its cut-off: the channel gives it up, and it is FINISHED with its
repeats sent. -/
theorem State.stopPart_ended (before : State) (idle : (s.chan ph).work = none) (found : s.entry? h = some e)
    (sending : (e.parts.get ph).state = .sending) :
    let c := (s.chan ph).giveUp h
    let t := (((s.stopPart h ph).settleEntry h).markQuiet ph).retireSince before
    t.chan ph = { c with quiet := c.state = .idle || c.state = .halted } ∧
      (t.entry? h = none ∨ ∃ x, t.entry? h = some x ∧ (x.parts.get ph).state = .finished ∧
        (x.parts.get ph).sent = (e.parts.get ph).sent) := by
  dsimp only
  constructor
  · rw [(State.retireSince_cal _ before).chan_eq, State.markQuiet, State.chan_modChan_self,
      (State.settleEntry_cal _ h).chan_eq, State.stopPart_of_idle found sending idle, State.chan_modChan_self,
      State.finishPart_chan]
  · obtain ⟨needed, finished⟩ := State.finishPart_entry found ph (e.parts.get ph).startedFinish
    have rest : PartsStay h (s.stopPart h ph) ((((s.stopPart h ph).settleEntry h).markQuiet ph).retireSince before) := by
      refine (partsStay_calNotes h).trans ((partsStay_calNotes h).settleEntry _ h)
        ((partsStay_calNotes h).trans ?_ ((partsStay_calNotes h).retireSince _ before))
      exact .of_same (fun _ => ⟨rfl, rfl⟩) rfl
    rw [← State.entry?_of_same (t := s.stopPart h ph) (by rw [State.stopPart_of_idle found sending idle]; rfl)] at finished
    obtain none | ⟨x, found', -, parts⟩ := rest.2 _ finished
    · exact .inl none
    · refine .inr ⟨x, found', ?_⟩
      rw [parts, Entry.parts_modPart, if_pos rfl]
      exact ⟨rfl, rfl⟩

/-- A gap that ends at or after the cut-off ends the part, and leaves the channel IDLE to its next crossing. -/
theorem gapEnd_stops (gap : (s.chan ph).gapLeft = some 0) (open_ : (s.chan ph).openPart = some h)
    (idle : (s.chan ph).work = none) (found : s.entry? h = some e) (sending : (e.parts.get ph).state = .sending)
    (past : e.cutOff * 1000 ≤ s.crossingNow ph) (apart : (s.chan ph).suspendedPart ≠ some h) :
    ∃ t, exec (.repeatGapEnd ph) s = .next t ∧
      t.chan ph = { s.chan ph with state := .idle, openPart := none, gapLeft := none, quiet := true } ∧
      (t.entry? h = none ∨ ∃ x, t.entry? h = some x ∧ (x.parts.get ph).state = .finished ∧
        (x.parts.get ph).sent = (e.parts.get ph).sent) := by
  obtain ⟨chan, entry⟩ := State.stopPart_ended s idle found sending
  have ends : s.endGap h ph = ((s.stopPart h ph).settleEntry h).markQuiet ph := by
    rw [State.endGap, found]
    exact if_pos past
  refine ⟨_, execRepeatGapEnd_at gap open_, ?_, ends ▸ entry⟩
  rw [ends, chan]
  simp [Channel.giveUp, apart, open_, gap]

theorem Work.spanEnded_iff (w : Work) :
    w.spanEnded = true ↔ (∃ x, w = .exchange x ∧ x.outSpan ≤ x.slots) ∨ ∃ r, w = .probe r ∧ r.outSpan ≤ r.slots := by
  cases w <;> simp [Work.spanEnded]

/-- Settles O48. -/
theorem gapsAndOutboundSpansEnd : Obligations.GapsAndOutboundSpansEnd := by
  refine ⟨fun ph s left => ?_, ?_, ?_⟩
  · change Host.Outcome.next _ = _
    split
    · exact absurd (by assumption) left
    · rfl
  · intro ph s h e c p gap open_ idle found sending
    exact ⟨gapEnd_sends gap open_ found, gapEnd_stops gap open_ idle found sending⟩
  · intro ph s w work ended
    have run : exec (.outboundSpanEnd ph) s =
        .next (if (s.chan ph).state = .sending && w.spanEnded then s.modChan ph (fun c => { c with state := .listening })
          else s) := by
      change Host.Outcome.next _ = _
      rw [work]
    have test : ((s.chan ph).state = .sending && w.spanEnded) = true ↔ ended := by
      rw [Bool.and_eq_true, Work.spanEnded_iff, decide_eq_true_iff]
    exact ⟨fun done => run.trans (congrArg _ (if_pos (test.mpr done))),
      fun runs => run.trans (congrArg _ (if_neg fun done => runs (test.mp done)))⟩

end Sys2Proof.Machine
end

section
/-! PROOFS. Zero crossings judged by their interval (R156, R157). -/

namespace Sys2Proof.Machine

variable {s t : State} {ph : Phase}

/-! ### A crossing handed to a channel that starts no work (R156) -/

/-- The channel as it counts a crossing at which it starts no work. -/
def Channel.passed (c : Channel) (bufferBad : Bool) : Channel :=
  { c with
    crossings := c.crossings + 1, work := c.work.map Work.endSlot, gapLeft := c.gapLeft.map (· - 1), bufferBad
    quiet := c.state = .idle ∨ c.state = .halted }

theorem State.atCrossing_of_quiet (still : s.line ≠ .running ∨ (s.chan ph).state ≠ .idle) : s.atCrossing ph = s := by
  unfold State.atCrossing
  dsimp only
  rw [if_pos (by simpa using still)]

theorem State.markQuiet_count (s : State) (ph : Phase) (bufferBad : Bool) :
    (s.modChan ph (fun c => c.countCrossing bufferBad)).markQuiet ph = s.modChan ph (·.passed bufferBad) := by
  have same (c : Channel) :
      { c.countCrossing bufferBad with
        quiet := (c.countCrossing bufferBad).state = .idle || (c.countCrossing bufferBad).state = .halted } =
      c.passed bufferBad := by
    have either : decide (c.state = .idle ∨ c.state = .halted) = (decide (c.state = .idle) || decide (c.state = .halted)) :=
      Bool.decide_or _ _
    unfold Channel.passed
    rw [either]
    rfl
  simp only [State.markQuiet, State.modChan, State.chan, Tri.get_set_self, Tri.set_set, same]

theorem State.handCrossing_of_still (s : State) (noise : Int) (bufferBad : Bool)
    (still : s.line ≠ .running ∨ (s.chan ph).state ≠ .idle) :
    s.handCrossing ph noise bufferBad = (s.sampleSlot ph noise).modChan ph (·.passed bufferBad) := by
  have sampled := s.sampleSlot_within ph noise
  have chan := State.chan_of_within sampled (by decide) ph
  have line : (s.sampleSlot ph noise).line = s.line := sampled .line (by decide)
  unfold State.handCrossing
  dsimp only
  rw [State.atCrossing_of_quiet, State.markQuiet_count]
  rw [State.chan_modChan_self, chan]
  exact line ▸ still

theorem State.handCrossing_phaseRec (s : State) (ph q : Phase) (noise : Int) (bufferBad : Bool) :
    (s.handCrossing ph noise bufferBad).phaseRec q = s.phaseRec q :=
  congrArg (·.get q) ((s.handCrossing_work ph noise bufferBad).within .mains (by decide))

/-- A channel that is not IDLE on a RUNNING line keeps its state over a crossing. -/
theorem State.handCrossing_state (s : State) (noise : Int) (bufferBad : Bool)
    (still : s.line ≠ .running ∨ (s.chan ph).state ≠ .idle) :
    ((s.handCrossing ph noise bufferBad).chan ph) = (s.chan ph).passed bufferBad := by
  rw [State.handCrossing_of_still s noise bufferBad still, State.chan_modChan_self,
    State.chan_of_within (s.sampleSlot_within ph noise) (by decide)]

/-! ### The judgement of a crossing (R156, R157) -/

/-- What a crossing comes to, the event's outcomes apart. -/
theorem execZeroCrossing_eq (ph : Phase) (micros : Nat) (noise : Int) (bufferBad : Bool) (s : State) :
    exec (.zeroCrossing ph micros noise bufferBad) s =
      .next ((s.reportCrossing ph (s.elapsed * 1000 + micros) noise bufferBad).retireSince s) := rfl

/-- A crossing that changes the phase's record alone. -/
theorem execZeroCrossing_record {micros : Nat} {noise : Int} {bufferBad : Bool} {r : PhaseRec}
    (reported : s.reportCrossing ph (s.elapsed * 1000 + micros) noise bufferBad = s.setPhaseRec ph r) :
    exec (.zeroCrossing ph micros noise bufferBad) s = .next { s with mains := s.mains.set ph r } := by
  rw [execZeroCrossing_eq, reported, State.retireSince_of_same (by rfl)]
  rfl

theorem State.reportCrossing_of_accepted {last : Crossing} {instant : Nat} {noise : Int} {bufferBad : Bool}
    (found : (s.phaseRec ph).lastCrossing = some last) (low : 7000 ≤ instant - last.instant)
    (present : (s.phaseRec ph).present = true → instant - last.instant ≤ 40000) :
    s.reportCrossing ph instant noise bufferBad =
      s.acceptCrossing ph ⟨instant, s.clock.millis⟩ (instant - last.instant) noise bufferBad := by
  have late : ((s.phaseRec ph).present && decide (Config.lossMicros < instant - last.instant)) = false := by
    cases here : (s.phaseRec ph).present
    · rfl
    · exact decide_eq_false (Nat.not_lt.mpr (present here))
  unfold State.reportCrossing
  rw [found]
  dsimp only
  rw [if_neg (by simp only [Config.crossingLow]; omega), if_neg (by rw [late]; exact Bool.false_ne_true)]
  rfl

/-- Settles O42. -/
theorem zeroCrossingsAreJudgedByTheirInterval : Obligations.ZeroCrossingsAreJudgedByTheirInterval := by
  intro ph micros noise bufferBad s c instant r stamp record
  refine ⟨fun first => ?_, ?_⟩
  · refine execZeroCrossing_record (r := { r with lastCrossing := some stamp }) ?_
    unfold State.reportCrossing
    rw [show (s.phaseRec ph).lastCrossing = none from first]
    rfl
  intro last found d history
  have accepted (low : 7000 ≤ d) (present : r.present = true → d ≤ 40000) :
      s.reportCrossing ph instant noise bufferBad = s.acceptCrossing ph stamp d noise bufferBad :=
    State.reportCrossing_of_accepted found low present
  refine ⟨fun short => ?_, fun absent low high more => ?_, fun absent low high eighth => ?_, fun absent long => ?_,
    fun present low high => ?_⟩
  · have same : s.reportCrossing ph instant noise bufferBad = s := by
      unfold State.reportCrossing
      rw [show (s.phaseRec ph).lastCrossing = some last from found]
      exact if_pos short
    rw [execZeroCrossing_eq, same, State.retireSince_of_same rfl]
  · have absent' (h : r.present = true) : d ≤ 40000 := absurd h (by rw [absent]; decide)
    refine execZeroCrossing_record ((accepted low absent').trans ?_)
    unfold State.acceptCrossing
    dsimp only
    rw [if_neg (by rw [show (s.phaseRec ph).present = false from absent]; decide), if_pos (by exact high),
      if_neg (by exact more)]
    rfl
  · have absent' (h : r.present = true) : d ≤ 40000 := absurd h (by rw [absent]; decide)
    have present : { r with lastCrossing := some stamp, history, run := r.run + 1, present := true } =
        (⟨true, some stamp, 8, history⟩ : PhaseRec) := by rw [eighth]
    have declared : s.reportCrossing ph instant noise bufferBad =
        ((s.setPhaseRec ph ⟨true, some stamp, 8, history⟩).returnPhase ph).handCrossing ph noise bufferBad := by
      rw [accepted low absent', ← present]
      unfold State.acceptCrossing
      dsimp only
      rw [if_neg (by rw [show (s.phaseRec ph).present = false from absent]; decide), if_pos (by exact high),
        if_pos (by exact eighth)]
      rfl
    have counted (q : Phase) := State.handCrossing_phaseRec ((s.setPhaseRec ph ⟨true, some stamp, 8, history⟩).returnPhase ph)
      ph q noise bufferBad
    have back : ((s.setPhaseRec ph ⟨true, some stamp, 8, history⟩).returnPhase ph).chan ph =
        if (s.chan ph).state = .halted then s.chan ph else { s.chan ph with state := .idle } := by
      rw [State.returnPhase, State.chan_modChan_self]
      rfl
    refine ⟨_, (execZeroCrossing_eq ph micros noise bufferBad s), ?_⟩
    rw [show s.elapsed * 1000 + micros = instant from rfl, declared, (State.retireSince_cal _ s).chan_eq]
    refine ⟨?_, fun halted => ?_, fun apart stopped => ?_⟩
    · refine (congrArg (·.get ph) ((State.retireSince_cal _ s).within .mains (by decide))).trans ((counted ph).trans ?_)
      exact Tri.get_set_self ..
    · rw [State.handCrossing_state _ noise bufferBad (.inr (by rw [back, if_pos halted, halted]; decide)), back,
        if_pos halted]
      exact halted
    · rw [State.handCrossing_state _ noise bufferBad (.inl (by exact stopped)), back, if_neg apart]
      rfl
  · have absent' (h : r.present = true) : d ≤ 40000 := absurd h (by rw [absent]; decide)
    refine execZeroCrossing_record ((accepted (by omega) absent').trans ?_)
    unfold State.acceptCrossing
    dsimp only
    rw [if_neg (by rw [show (s.phaseRec ph).present = false from absent]; decide), if_neg (by exact Nat.not_le.mpr long)]
  · have taken : s.reportCrossing ph instant noise bufferBad =
        (s.setPhaseRec ph
          { r with lastCrossing := some stamp, history := if d ≤ 12000 then history else r.history }).handCrossing
          ph noise bufferBad := by
      rw [accepted low fun _ => high]
      unfold State.acceptCrossing
      dsimp only
      rw [if_pos (by exact present)]
      by_cases short : d ≤ 12000
      · rw [if_pos (by exact short), if_pos short]
        rfl
      · rw [if_neg (by exact short), if_neg short]
    refine ⟨_, (execZeroCrossing_eq ph micros noise bufferBad s), ?_⟩
    rw [show s.elapsed * 1000 + micros = instant from rfl, taken]
    refine ⟨?_, fun still => ?_⟩
    · refine (congrArg (·.get ph) ((State.retireSince_cal _ s).within .mains (by decide))).trans
        ((State.handCrossing_phaseRec ..).trans ?_)
      exact Tri.get_set_self ..
    · have sampled := State.sampleSlot_within (s.setPhaseRec ph
          { r with lastCrossing := some stamp, history := if d ≤ 12000 then history else r.history }) ph noise
      rw [State.handCrossing_of_still _ noise bufferBad (by exact still)]
      generalize (s.setPhaseRec ph
          { r with lastCrossing := some stamp, history := if d ≤ 12000 then history else r.history }).sampleSlot
          ph noise = u at sampled
      have calendar : (u.modChan ph (·.passed bufferBad)).calendar = s.calendar := sampled .calendar (by decide)
      rw [State.retireSince_of_same calendar]
      refine ⟨?_, ?_⟩
      · rw [State.chan_modChan_self, State.chan_of_within sampled (by decide)]
        rfl
      · have within : Within [.mains, .channels, .ports, .surveys] s (u.modChan ph (·.passed bufferBad)) := by
          intro b hb
          have same := sampled b
          cases b <;> first | exact absurd (by decide) hb | exact same (by decide)
        exact within.restore (by intro b hb; fin_cases hb <;> rfl)
          (by intro b hb; cases b <;> first | rfl | exact absurd (by decide) hb)

end Sys2Proof.Machine
end

section
/-! PROOFS. The line survey (R189 to R191). -/

namespace Sys2Proof.Machine

variable {s t : State} {ph : Phase} {p : Port}

/-! ### The notice of a survey (R172, R191) -/

/-- A survey's notice where the survey holds none for the port before it: queued, or held behind the others. -/
theorem State.offerSurvey_eq (s : State) (ph : Phase) (p : Port) (i : Item) (none : ∀ y ∈ (s.survey ph).held, y.1 ≠ p)
    (room : (s.port p).held = [] ∧ (s.port p).outq.length < 16 ∧ noticeCount (s.port p).outq < 15) :
    s.offerSurvey ph p i = s.pushItem p i := by
  have found : ((s.survey ph).held ++ [(p, i)]).find? (fun x => x.1 == p) = some (p, i) := by
    rw [List.find?_append, List.find?_eq_none.mpr (by simpa using none), List.find?_cons_of_pos (by simp)]
    rfl
  have erased : ((s.survey ph).held ++ [(p, i)]).eraseP (fun x => x.1 == p) = (s.survey ph).held := by
    rw [List.eraseP_append_right _ (by simpa using none), List.eraseP_cons_of_pos (by simp), List.append_nil]
  have survey : (s.modSurvey ph (fun v => { v with held := v.held ++ [(p, i)] })).survey ph =
      { s.survey ph with held := (s.survey ph).held ++ [(p, i)] } := Tri.get_set_self ..
  have item : (s.modSurvey ph (fun v => { v with held := v.held ++ [(p, i)] })).heldItem p (.survey ph) = some i := by
    simp only [State.heldItem, survey, found, Option.map_some]
  unfold State.offerSurvey State.offerHeld
  refine (if_pos ((noticeRoom_and_iff _).mpr room)).trans ?_
  rw [State.queueHeld, item]
  have same : s.surveys.set ph (s.survey ph) = s.surveys := Tri.set_get _ _
  simp only [State.completeHeld, State.modSurvey, State.pushItem, State.modPort, State.survey, Tri.get_set_self,
    Tri.set_set]
  unfold State.survey at erased same
  rw [erased]
  change ({ s.pushItem p i with surveys := s.surveys.set ph (s.surveys.get ph) } : State) = _
  rw [same]
  rfl

theorem State.offerSurvey_of_no_room (s : State) (ph : Phase) (p : Port) (i : Item)
    (full : ¬ ((s.port p).held = [] ∧ (s.port p).outq.length < 16 ∧ noticeCount (s.port p).outq < 15)) :
    s.offerSurvey ph p i =
      { s.modPort p (fun x => { x with held := x.held ++ [.survey ph] }) with
        surveys := s.surveys.set ph { s.survey ph with held := (s.survey ph).held ++ [(p, i)] } } :=
  State.offerHeld_of_no_room (s := s.modSurvey ph (fun v => { v with held := v.held ++ [(p, i)] })) (.survey ph) full

/-! ### START SURVEY (R189) -/

theorem exec_startSurvey (tag channel : Byte) (slots : Word16) (takes : s.takes p (.startSurvey p tag channel slots)) :
    exec (.startSurvey p tag channel slots) s =
      .next (match phaseOfChannel channel with
        | none => s.answered p 0x22 tag .badParameter []
        | some ph =>
            if !(s.survey ph).held.isEmpty then s.answered p 0x22 tag .busy []
            else
              ((s.answered p 0x22 tag .ok (be 2 (max 1 slots.toNat))).abandonSurvey ph).modSurvey ph
                (·.begin p tag (max 1 slots.toNat))) :=
  exec_of_takes takes rfl

theorem State.modSurvey_begin (s : State) (empty : (s.survey ph).held = []) (tag : Byte) (target : Nat) :
    s.modSurvey ph (·.begin p tag target) =
      { s with
        surveys := s.surveys.set ph
          { state := .running, starter := some p, tag, target, sampled := 0, bins := List.replicate 16 0,
            highest := none, held := [] } } := by
  unfold State.modSurvey Survey.begin
  dsimp only
  rw [empty]

theorem startSurvey_begins (tag channel : Byte) (slots : Word16) (s : State) (takes : s.takes p (.startSurvey p tag channel slots)) :
    let c : Instr := .startSurvey p tag channel slots
    let target := max 1 slots.toNat
    (channel.toNat = 0 ∨ 3 < channel.toNat → exec c s = .next (s.answered p 0x22 tag .badParameter [])) ∧
    ∀ ph, channelByte ph = channel →
      let v := s.survey ph
      let begun : Survey :=
        { state := .running, starter := some p, tag, target, sampled := 0, bins := List.replicate 16 0, highest := none,
          held := [] }
      let t := s.answered p 0x22 tag .ok (be 2 target)
      (v.held ≠ [] → exec c s = .next (s.answered p 0x22 tag .busy [])) ∧
      (v.held = [] → v.state ≠ .running → exec c s = .next { t with surveys := s.surveys.set ph begun }) ∧
      ∀ q, v.held = [] → v.state = .running → v.starter = some q →
        let notice : Item := .notice .surveyAbandoned ([v.tag, channel] ++ be 2 v.sampled)
        exec c s =
          .next (if (t.port q).held = [] ∧ (t.port q).outq.length < 16 ∧ noticeCount (t.port q).outq < 15 then
            { t.pushItem q notice with surveys := s.surveys.set ph begun }
          else
            { t.modPort q (fun x => { x with held := x.held ++ [.survey ph] }) with
              surveys := s.surveys.set ph { begun with held := [(q, notice)] } }) := by
  intro c target
  have run := exec_startSurvey tag channel slots takes
  refine ⟨fun outside => ?_, ?_⟩
  · rw [(phaseOfChannel_eq_none_iff channel).mpr outside] at run
    exact run
  · intro ph named v begun t
    rw [← named, phaseOfChannel_channelByte] at run
    rw [named] at run
    dsimp only at run
    have begins (empty : v.held = []) :
        exec c s = .next ((t.abandonSurvey ph).modSurvey ph (·.begin p tag target)) := by
      refine run.trans (congrArg _ (if_neg ?_))
      simp [show (s.survey ph).held = [] from empty]
    refine ⟨fun busy => run.trans (congrArg _ (if_pos ?_)), fun empty rests => (begins empty).trans (congrArg _ ?_), ?_⟩
    · simpa using busy
    · have kept : t.abandonSurvey ph = t := by
        unfold State.abandonSurvey
        dsimp only
        split
        · rename_i runs _
          exact absurd runs rests
        · rfl
      rw [kept]
      exact t.modSurvey_begin empty tag target
    · intro q empty runs starter notice
      refine (begins empty).trans (congrArg _ ?_)
      have abandoned : t.abandonSurvey ph = t.offerSurvey ph q notice := by
        unfold State.abandonSurvey
        dsimp only
        rw [show (t.survey ph).state = .running from runs, show (t.survey ph).starter = some q from starter]
        dsimp only
        rw [surveyAbandonedNotice, named]
        rfl
      rw [abandoned]
      split
      · rename_i room
        rw [t.offerSurvey_eq ph q notice (by rw [show (t.survey ph).held = [] from empty]; simp) room]
        exact (t.pushItem q notice).modSurvey_begin empty tag target
      · rename_i full
        rw [t.offerSurvey_of_no_room ph q notice full]
        unfold State.modSurvey State.survey Survey.begin
        simp only [Tri.get_set_self, Tri.set_set]
        rw [show (t.surveys.get ph).held = [] from empty]
        rfl

/-! ### What follows a sample leaves the surveys (R60, R190) -/

theorem State.sendRepeat_surveys (s : State) (h : Nat) (ph : Phase) : (s.sendRepeat h ph).surveys = s.surveys := by
  unfold State.sendRepeat
  split <;> rfl

theorem State.startPart_surveys (s : State) (h : Nat) (ph : Phase) : (s.startPart h ph).surveys = s.surveys := by
  unfold State.startPart
  split
  · rename_i e _
    refine (State.sendRepeat_surveys _ _ _).trans ?_
    change (if e.sequence.isNone then s.beginSending e else s).surveys = s.surveys
    split
    · exact State.offer_within _ _ _ .surveys (by decide)
    · rfl
  · rfl

theorem State.advanceOrigin_surveys (s : State) (ph : Phase) : (s.advanceOrigin ph).surveys = s.surveys :=
  s.advanceOrigin_within ph .surveys (by decide)

theorem Starts.surveys {c : Choice} (starts : Starts s ph c t) : t.surveys = s.surveys := by
  cases starts with
  | part h => exact s.startPart_surveys h ph
  | resume h => exact State.sendRepeat_surveys _ h ph
  | _ => rfl

theorem GoesOn.surveys {c : Choice} (goes : GoesOn s ph c t) : t.surveys = s.surveys := by
  cases goes with
  | notReached => exact (State.settleConfirm_cal _ _).within .surveys (by decide)
  | unconfirmed => exact (State.settleConfirm_cal _ _).within .surveys (by decide)
  | notSent => exact s.completeQueued_within ph _ .surveys (by decide)
  | origin => exact State.advanceOrigin_surveys _ ph
  | _ => rfl

theorem State.arbitrate_surveys (rounds : Nat) (ph : Phase) (s : State) :
    (State.arbitrate rounds ph s).surveys = s.surveys := by
  induction rounds generalizing s with
  | zero => rfl
  | succ rounds ih =>
      unfold State.arbitrate
      split
      · rfl
      · split
        · rename_i t served
          exact (Starts.of_serve served).surveys
        · rename_i t served
          exact (ih t).trans (GoesOn.of_serve served).surveys

theorem State.resumeOpen_surveys (s : State) (h : Nat) (ph : Phase) : (s.resumeOpen h ph).surveys = s.surveys := by
  unfold State.resumeOpen
  split
  · split_ifs
    · exact ((State.settleEntry_cal _ h).within .surveys (by decide)).trans
        ((s.stopPart_chan h ph).within .surveys (by decide))
    · exact State.arbitrate_surveys _ ph _
    · exact s.sendRepeat_surveys h ph
  · rfl

theorem State.atCrossing_surveys (s : State) (ph : Phase) : (s.atCrossing ph).surveys = s.surveys := by
  unfold State.atCrossing
  dsimp only
  split
  · rfl
  · split
    · split
      · exact s.resumeOpen_surveys _ ph
      · rfl
    · exact State.arbitrate_surveys _ ph s

/-! ### Sampling (R190, R191) -/

/-- A slot's sample, of a noise level as it is measured. -/
theorem Survey.sample_eq (v : Survey) (noise : Int) :
    v.sample (holdWithin 0 255 noise.toNat) =
      { v with
        bins := v.bins.set (min 255 noise.toNat / 16)
          (if v.bins.getD (min 255 noise.toNat / 16) 0 < 65535 then v.bins.getD (min 255 noise.toNat / 16) 0 + 1
            else v.bins.getD (min 255 noise.toNat / 16) 0)
        sampled := v.sampled + 1
        highest := some (match v.highest with
          | some b => max b (min 255 noise.toNat / 16)
          | none => min 255 noise.toNat / 16) } := by
  have held : holdWithin 0 255 noise.toNat = min 255 noise.toNat := by
    unfold holdWithin
    split_ifs <;> omega
  rw [held]
  rfl

/-- At a crossing of a PRESENT phase in its interval the slot that ends is sampled first, and what follows leaves the
surveys and lets the queues grow. -/
theorem zeroCrossing_samples {micros : Nat} {noise : Int} {bufferBad : Bool} {last : Crossing}
    (present : (s.phaseRec ph).present = true) (found : (s.phaseRec ph).lastCrossing = some last)
    (low : 7000 ≤ s.elapsed * 1000 + micros - last.instant) (high : s.elapsed * 1000 + micros - last.instant ≤ 40000) :
    ∃ r t, exec (.zeroCrossing ph micros noise bufferBad) s = .next t ∧
      t.surveys = ((s.setPhaseRec ph r).sampleSlot ph noise).surveys ∧
      Grows (fun _ => True) ((s.setPhaseRec ph r).sampleSlot ph noise) t := by
  obtain ⟨r, taken⟩ : ∃ r, s.reportCrossing ph (s.elapsed * 1000 + micros) noise bufferBad =
      (s.setPhaseRec ph r).handCrossing ph noise bufferBad := by
    rw [State.reportCrossing_of_accepted found low fun _ => high]
    unfold State.acceptCrossing
    dsimp only
    rw [if_pos (by exact present)]
    exact ⟨_, rfl⟩
  refine ⟨r, _, execZeroCrossing_eq ph micros noise bufferBad s, ?_, ?_⟩
  · rw [taken]
    exact ((State.retireSince_within _ s) .surveys (by decide)).trans (State.atCrossing_surveys _ ph)
  · rw [taken]
    have counted : Grows (fun _ => True) ((s.setPhaseRec ph r).sampleSlot ph noise)
        (((s.setPhaseRec ph r).sampleSlot ph noise).modChan ph (fun c => c.countCrossing bufferBad)) :=
      grows_workKeeps.count _ _ _
    exact ((counted.trans (grows_workKeeps.atCrossing _ ph)).trans (grows_workKeeps.markQuiet _ ph)).trans
      (grows_workKeeps.retireSince _ s)

/-- The slot that ends is sampled. -/
def State.samples (s : State) (ph : Phase) : Prop :=
  (s.survey ph).state = .running ∧ (s.chan ph).quiet = true ∧ ((s.chan ph).state = .idle ∨ (s.chan ph).state = .halted)

theorem State.samples_iff (s : State) (ph : Phase) :
    ((s.survey ph).state = .running && (s.chan ph).quiet && ((s.chan ph).state = .idle || (s.chan ph).state = .halted))
      = true ↔ s.samples ph := by
  simp [State.samples, and_assoc]

theorem State.sampleSlot_of_still (noise : Int) (still : ¬ s.samples ph) : s.sampleSlot ph noise = s :=
  if_neg fun h => still ((s.samples_iff ph).mp h)

theorem State.sampleSlot_of_more (noise : Int) (samples : s.samples ph)
    (more : (s.survey ph).sampled + 1 ≠ (s.survey ph).target) :
    s.sampleSlot ph noise = s.modSurvey ph (fun v => v.sample (holdWithin 0 255 noise.toNat)) :=
  (if_pos ((s.samples_iff ph).mpr samples)).trans (if_neg more)

theorem State.sampleSlot_of_last (noise : Int) {q : Port} (samples : s.samples ph)
    (last : (s.survey ph).sampled + 1 = (s.survey ph).target) (starter : (s.survey ph).starter = some q) :
    s.sampleSlot ph noise =
      (s.modSurvey ph (fun v => { v.sample (holdWithin 0 255 noise.toNat) with state := .complete })).offerSurvey ph q
        (surveyDoneNotice ph ((s.survey ph).sample (holdWithin 0 255 noise.toNat))) := by
  refine (if_pos ((s.samples_iff ph).mpr samples)).trans ((if_pos last).trans ?_)
  dsimp only
  split
  · rename_i p started
    obtain rfl : q = p := Option.some.inj (starter.symm.trans started)
    rfl
  · rename_i none
    cases starter.symm.trans none

theorem State.offerSurvey_survey_ne (s : State) {k : Phase} (apart : k ≠ ph) (p : Port) (i : Item) :
    (s.offerSurvey ph p i).survey k = s.survey k := by
  have held : (s.modSurvey ph (fun v => { v with held := v.held ++ [(p, i)] })).survey k = s.survey k :=
    Tri.get_set_ne _ _ apart
  unfold State.offerSurvey
  obtain h | h | ⟨i, -, h⟩ := (s.modSurvey ph (fun v => { v with held := v.held ++ [(p, i)] })).offerHeld_cases p (.survey ph) <;>
    rw [h]
  · exact held
  · exact held
  · exact (Tri.get_set_ne _ _ apart).trans held

theorem State.sampleSlot_survey_ne (s : State) {k : Phase} (apart : k ≠ ph) (noise : Int) :
    (s.sampleSlot ph noise).survey k = s.survey k := by
  unfold State.sampleSlot
  dsimp only
  split
  · split
    · split
      · exact (State.offerSurvey_survey_ne _ apart _ _).trans (Tri.get_set_ne _ _ apart)
      · exact Tri.get_set_ne _ _ apart
    · exact Tri.get_set_ne _ _ apart
  · rfl

/-- A survey is sampled at the crossings of its phase. -/
theorem zeroCrossing_surveys (ph : Phase) (micros : Nat) (noise : Int) (bufferBad : Bool) (s : State) (last : Crossing) :
    let d := s.elapsed * 1000 + micros - last.instant
    (s.phaseRec ph).present = true → (s.phaseRec ph).lastCrossing = some last → 7000 ≤ d → d ≤ 40000 →
    let v := s.survey ph
    let w := v.sample (holdWithin 0 255 noise.toNat)
    ∃ t, exec (.zeroCrossing ph micros noise bufferBad) s = .next t ∧ (∀ k ≠ ph, t.survey k = s.survey k) ∧
      (¬ s.samples ph → t.survey ph = v) ∧ (s.samples ph → v.sampled + 1 ≠ v.target → t.survey ph = w) ∧
      ∀ q, s.samples ph → v.sampled + 1 = v.target → v.starter = some q →
        let r := s.port q
        let room : Prop := r.held = [] ∧ r.outq.length < 16 ∧ noticeCount r.outq < 15
        (room → (∀ y ∈ v.held, y.1 ≠ q) →
          t.survey ph = { w with state := .complete } ∧
            ∃ more, (t.port q).outq = r.outq ++ surveyDoneNotice ph w :: more) ∧
          (¬ room →
            t.survey ph = { w with state := .complete, held := v.held ++ [(q, surveyDoneNotice ph w)] } ∧
              ∃ more, (t.port q).held = r.held ++ .survey ph :: more) := by
  intro d present found low high v w
  obtain ⟨r, t, run, surveys, grows⟩ := zeroCrossing_samples (micros := micros) (noise := noise) (bufferBad := bufferBad)
    present found low high
  have at_ (k : Phase) : t.survey k = ((s.setPhaseRec ph r).sampleSlot ph noise).survey k := congrArg (·.get k) surveys
  refine ⟨t, run, fun k apart => ?_, fun still => ?_, fun samples more => ?_, ?_⟩
  · exact (at_ k).trans (State.sampleSlot_survey_ne _ apart noise)
  · rw [at_, State.sampleSlot_of_still noise (by exact still)]
    rfl
  · rw [at_, State.sampleSlot_of_more noise (by exact samples) (by exact more)]
    exact Tri.get_set_self ..
  intro q samples atTarget starter port room
  have complete := State.sampleSlot_of_last (s := s.setPhaseRec ph r) noise samples atTarget starter
  have survey : ((s.setPhaseRec ph r).modSurvey ph
      (fun v => { v.sample (holdWithin 0 255 noise.toNat) with state := .complete })).survey ph =
      { w with state := .complete } := Tri.get_set_self ..
  refine ⟨fun fits none => ?_, fun full => ?_⟩
  · rw [State.offerSurvey_eq _ ph q _ (by rw [survey]; exact none) (by exact fits)] at complete
    rw [complete] at grows at_
    obtain ⟨more, outq, -, -⟩ := (grows q).outq
    refine ⟨(at_ ph).trans survey, more, ?_⟩
    rw [outq, State.pushItem, State.port_modPort_self]
    exact List.append_assoc ..
  · rw [State.offerSurvey_of_no_room _ ph q _ (by exact full), survey] at complete
    rw [complete] at grows at_
    obtain ⟨more, held, -⟩ := (grows q).held
    refine ⟨(at_ ph).trans (Tri.get_set_self ..), more, ?_⟩
    have joined : (State.port
        ((s.setPhaseRec ph r).modSurvey ph
          (fun v => { v.sample (holdWithin 0 255 noise.toNat) with state := .complete }) |>.modPort q
            (fun x => { x with held := x.held ++ [.survey ph] })) q).held = port.held ++ [.survey ph] := by
      rw [State.port_modPort_self]
      rfl
    rw [held]
    exact (congrArg (· ++ more) joined).trans (List.append_assoc ..)

/-- Settles O59. -/
theorem surveysStartSampleAndComplete : Obligations.SurveysStartSampleAndComplete := by
  refine ⟨fun p tag channel slots s takes => startSurvey_begins tag channel slots s takes, ?_⟩
  intro ph micros noise bufferBad s last d present found low high v x samples bin count highest w
  have sample : v.sample (holdWithin 0 255 noise.toNat) = w := v.sample_eq noise
  obtain ⟨t, run, others, still, more, complete⟩ :=
    zeroCrossing_surveys ph micros noise bufferBad s last present found low high
  rw [show (s.survey ph).sample (holdWithin 0 255 noise.toNat) = w from sample] at more complete
  exact ⟨t, run, others, still, more, complete⟩

end Sys2Proof.Machine
end

section
/-! PROOFS. The end of a flood whose part also stands in the channel's suspended place (R67). -/

namespace Sys2Proof.Machine

/-- A phase part of two repeats in a state, `sent` of them sent. -/
def twoRepeats (state : PartState) (sent : Nat) : Part :=
  { state, finish := none, depth := 0, mode := .robust, planned := 2, sent, ls := 900000, es := 800000, start := none,
    finishNeeded := false }

/-- A RUNNING line whose channel L1 is at the end of the last repeat of a part, which it holds as its open part and as its
suspended part both. No run reaches such a channel; the statement is about every state. -/
def heldTwice : State :=
  { State.bare with
    elapsed := 1000000, clock := ⟨true, 1000000⟩, line := .running
    identity := { State.bare.identity with code := 0x1234 }
    mains := ⟨⟨true, some ⟨1000000000, 1000000⟩, 8, List.replicate 8 10000⟩, PhaseRec.fresh, PhaseRec.fresh⟩
    channels := ⟨{ Channel.fresh with
      state := .sending, openPart := some 4, suspendedPart := some 4
      work := some (.flood ⟨some 4, 1, 18, 18, []⟩) }, Channel.fresh, Channel.fresh⟩
    calendar := [
      { handle := 4, origin := .A, tag := 9, group := 1, action := .tariff 2, activation := 2000, expiry := none,
        cls := .urgent, confirm := false, sequence := none, lateAdmission := false, timeStepped := false,
        cancelled := false, cutShort := false, parts := ⟨twoRepeats .sending 1, twoRepeats .waiting 0, twoRepeats .waiting 0⟩,
        confirmation := none, outcome := none, record := none, cutOffReached := false, confirmStopped := false }] }

/-- The states of the parts on L1 in the calendar after a command, with their handles. -/
def partsAfter : Host.Outcome State Fault Refusal → List (Nat × PartState)
  | .next t => t.calendar.map (fun e => (e.handle, e.parts.l1.state))
  | _ => []

/-- Refutes O47: the part finishes, and the channel, free, at once resumes it as its suspended part, so that after the
event it is SENDING and not FINISHED. -/
theorem not_floodEndFollowsItsTests : ¬ Obligations.FloodEndFollowsItsTests := by
  intro h
  obtain ⟨e, stands⟩ : ∃ e, heldTwice.entry? 4 = some e := ⟨_, rfl⟩
  have resumed : partsAfter (exec (.floodEnd .L1) heldTwice) = [(4, .sending)] := by decide +kernel
  have ends := (h .L1 heldTwice ⟨some 4, 1, 18, 18, []⟩ rfl).2.2 4 e (by decide) rfl stands rfl (by decide)
  cases stands
  obtain ⟨t, ran, finished, -⟩ := ends rfl
  rw [ran] at resumed
  have one : ∃ x, t.calendar = [x] ∧ x.handle = 4 ∧ x.parts.l1.state = .sending := by
    have shape : t.calendar.map (fun e => (e.handle, e.parts.l1.state)) = [(4, .sending)] := resumed
    obtain ⟨x, calendar, x_is⟩ := List.map_eq_singleton_iff.mp shape
    exact ⟨x, calendar, congrArg Prod.fst x_is, congrArg Prod.snd x_is⟩
  obtain ⟨x, calendar, handle, sending⟩ := one
  have found : t.entry? 4 = some x := by
    rw [State.entry?, calendar]
    simp [handle]
  obtain gone | ⟨y, y_stands, part⟩ := (finished (.inl rfl)).1
  · rw [found] at gone
    cases gone
  · rw [found] at y_stands
    cases y_stands
    rw [show x.parts.get .L1 = x.parts.l1 from rfl] at part
    rw [part] at sending
    cases sending

end Sys2Proof.Machine
end

section
/-! PROOFS. How an outcome is decided and recorded (R23, R24), and how the entries whose outcomes an event decides join
their retirement queues (R25, R26). -/

namespace Sys2Proof.Machine

/-! ### The table and the record (R23, R24) -/

theorem Entry.noneNeeded_iff (e : Entry) : e.noneNeeded = true ↔ ∀ p ∈ e.parts.toList, p.finish = some .notNeeded := by
  simp [Entry.noneNeeded]

theorem Entry.neededMissed_iff (e : Entry) :
    e.neededMissed = true ↔ ∀ p ∈ e.parts.toList, p.finishNeeded = true → p.finish = some .missed := by
  simp only [Entry.neededMissed, List.all_eq_true, Bool.or_eq_true, Bool.not_eq_true', decide_eq_true_eq]
  exact forall₂_congr fun p _ => by cases p.finishNeeded <;> simp

theorem Entry.partsComplete_iff (e : Entry) : e.partsComplete = true ↔
    ∀ p ∈ e.parts.toList, p.finish = some .notNeeded ∨ (p.finish = some .onTime ∧ p.sent = p.planned) := by
  simp [Entry.partsComplete]

theorem Entry.confirmedAll_iff (e : Entry) : e.confirmedAll = true ↔
    (e.confirm = true → ∀ c, e.confirmation = some c → ∀ r ∈ c.records.toList, r.unconfirmed = 0 ∧ r.notReached = 0) := by
  unfold Entry.confirmedAll
  cases h : e.confirmation with
  | none => simp
  | some c =>
    cases e.confirm
    · simp
    · simp [Confirmation.sum, Tri.toList]
      omega

/-- The outcome the model decides is the one R23's table gives, and no other. -/
theorem outcomeByTable_iff (e : Entry) (o : EntryOutcome) : outcomeByTable e o ↔ o = e.decided := by
  unfold outcomeByTable Entry.decided
  simp only [← Entry.noneNeeded_iff, ← Entry.neededMissed_iff, ← Entry.partsComplete_iff, ← Entry.confirmedAll_iff]
  cases e.cancelled <;> cases e.noneNeeded <;> cases e.neededMissed <;> cases e.partsComplete <;> cases e.confirmedAll <;>
    cases o <;> simp

theorem partOutcome_eq (p : Part) : outcomePartBytes p = partOutcome p := by
  unfold outcomePartBytes partOutcome
  cases p.start <;> rfl

theorem optionalByte_eq (q : Option Byte) : optionalByte q = (match q with | some q => [1, q] | none => [0, 0]) := by
  cases q <;> rfl

theorem confirmationBytes_eq (c : Confirmation) :
    confirmationBytes c =
      (let total (f : PhaseProgress → Nat) : List Byte := be 2 (f c.records.l1 + f c.records.l2 + f c.records.l3)
       total (·.expected) ++ total (·.confirmed) ++ total (·.superseded) ++ total (·.notAttempted) ++
         total (·.notReached) ++ total (·.unconfirmed) ++ byteOf c.unconfirmedList.length ::
         c.unconfirmedList.flatMap (be 2)) := rfl

theorem Entry.flagBits_eq (e : Entry) :
    e.flagBits = byteOf ((if e.lateAdmission then 1 else 0) + (if e.timeStepped then 2 else 0) +
      (if e.cutShort then 4 else 0) + (if e.confirmation.isSome then 8 else 0)) := by
  unfold Entry.flagBits
  cases e.lateAdmission <;> cases e.timeStepped <;> cases e.cutShort <;> cases e.confirmation.isSome <;> rfl

theorem outcomeRecord_eq (e : Entry) (o : EntryOutcome) : e.outcomeBytes o = outcomeRecord e o := by
  have parts : e.parts.toList.flatMap outcomePartBytes =
      partOutcome e.parts.l1 ++ partOutcome e.parts.l2 ++ partOutcome e.parts.l3 := by
    simp [Tri.toList, partOutcome_eq]
  unfold Entry.outcomeBytes outcomeRecord
  rw [parts, optionalByte_eq, Entry.flagBits_eq, ← List.append_assoc, ← List.append_assoc]
  cases e.confirmation <;> rfl

/-- The entry with its outcome decided holds R23's outcome and R24's record. -/
theorem Entry.retired_eq (e : Entry) :
    e.retired = { e with outcome := some e.decided, record := some (outcomeRecord e e.decided) } := by
  rw [Entry.retired, outcomeRecord_eq]

/-! ### Joining the retirement queue (R25, R26, R172) -/

theorem State.entry?_retireEntry_self (s : State) (p : Port) (h : Nat) : (s.retireEntry p h).entry? h = none := by
  rw [State.entry?_eq_none_iff]
  intro e he
  simpa using (List.mem_filter.mp he).2

theorem State.entry?_retireEntry_ne (s : State) (p : Port) {h k : Nat} (apart : k ≠ h) :
    (s.retireEntry p h).entry? k = s.entry? k := by
  unfold State.entry? State.retireEntry
  rw [List.find?_filter]
  congr 1
  funext e
  by_cases same : e.handle = k <;> simp [same, apart]

theorem State.port_retireEntry (s : State) (p q : Port) (h : Nat) : (s.retireEntry p h).port q = s.port q := rfl

/-- An entry whose outcome has been decided offers OUTCOME: it is queued and the entry gone, or held behind its origin's
other notices. -/
theorem State.joinRetirement_eq {w : State} {e : Entry} (found : w.entry? e.handle = some e.retired) :
    w.joinRetirement e.handle =
      if (w.port e.origin).held = [] ∧ (w.port e.origin).outq.length < 16 ∧ noticeCount (w.port e.origin).outq < 15 then
        (State.pushItem { w with retirement := w.retirement.set e.origin (w.retirement.get e.origin ++ [e.handle]) }
          e.origin (.notice .outcome (outcomeRecord e e.decided))).retireEntry e.origin e.handle
      else
        State.modPort { w with retirement := w.retirement.set e.origin (w.retirement.get e.origin ++ [e.handle]) }
          e.origin (fun r => { r with held := r.held ++ [.outcome e.handle] }) := by
  rw [State.joinRetirement, found]
  have item : State.heldItem { w with retirement := w.retirement.set e.origin (w.retirement.get e.origin ++ [e.handle]) }
      e.origin (.outcome e.handle) = some (.notice .outcome (outcomeRecord e e.decided)) := by
    have found : State.entry? { w with retirement := w.retirement.set e.origin (w.retirement.get e.origin ++ [e.handle]) }
        e.handle = some e.retired := found
    rw [State.heldItem, found, Entry.retired_eq]
    rfl
  change State.offerHeld { w with retirement := w.retirement.set e.origin (w.retirement.get e.origin ++ [e.handle]) }
    e.origin (.outcome e.handle) = _
  by_cases free : (w.port e.origin).held = [] ∧ (w.port e.origin).outq.length < 16 ∧ noticeCount (w.port e.origin).outq < 15
  · rw [if_pos free, State.offerHeld, if_pos (by exact (noticeRoom_and_iff _).mpr free), State.queueHeld, item]
    rfl
  · rw [if_neg free, State.offerHeld, if_neg (by exact fun room => free ((noticeRoom_and_iff _).mp room))]

theorem retires_joinRetirement {u w : State} {e : Entry} (found : w.entry? e.handle = some e.retired)
    (ports : w.ports = u.ports) (retirement : w.retirement = u.retirement) :
    retires u (w.joinRetirement e.handle) e := by
  have port : ∀ q, w.port q = u.port q := fun q => congrArg (·.get q) ports
  refine ⟨e.decided, (outcomeByTable_iff e _).mpr rfl, ?_⟩
  rw [State.joinRetirement_eq found, port]
  split
  · exact ⟨State.entry?_retireEntry_self _ _ _, by
      rw [State.port_retireEntry, State.pushItem, State.port_modPort_self]
      exact congrArg (fun r => PortRec.outq r ++ _) (port _)⟩
  · refine ⟨?_, ?_, ?_⟩
    · rw [← Entry.retired_eq]
      exact found
    · exact (Duo.get_set_self _ _ _).trans (by rw [retirement])
    · rw [State.port_modPort_self]
      exact congrArg (fun r => PortRec.held r ++ _) (port _)

/-! ### The entries whose outcomes an event decides -/

theorem Entry.decidedSince_iff {s : State} {e : Entry} : e.decidedSince s = true ↔
    e.outcome.isSome = true ∧ ∀ x ∈ s.calendar, x.handle = e.handle → x.outcome = none := by
  simp [Entry.decidedSince]

/-- An event whose outcomes all stood before it lets no entry retire. -/
theorem State.retireSince_of_old {s t : State}
    (old : ∀ e ∈ t.calendar, e.outcome.isSome = true → ∃ x ∈ s.calendar, x.handle = e.handle ∧ x.outcome.isSome = true) :
    t.retireSince s = t := by
  refine State.retireSince_of_none fun e he => ?_
  by_contra decided
  obtain ⟨has, fresh⟩ := Entry.decidedSince_iff.mp (Bool.not_eq_false _ ▸ decided)
  obtain ⟨x, hx, handle, outcome⟩ := old e he has
  rw [fresh x hx handle] at outcome
  cases outcome

/-- An event that decides the outcome of one entry lets that one retire. -/
theorem State.retireSince_of_one {s t : State} {e : Entry} {front back : List Entry} (placed : t.calendar = front ++ e :: back)
    (apart : ∀ x ∈ front ++ back, x.handle ≠ e.handle) (decided : e.outcome.isSome = true)
    (fresh : ∀ x ∈ s.calendar, x.handle = e.handle → x.outcome = none)
    (old : ∀ x ∈ front ++ back, x.outcome.isSome = true → ∃ y ∈ s.calendar, y.handle = x.handle ∧ y.outcome.isSome = true) :
    t.retireSince s = t.joinRetirement e.handle := by
  have stays : ∀ x ∈ front ++ back, x.decidedSince s = false := fun x hx => by
    by_contra decided
    obtain ⟨has, fresh⟩ := Entry.decidedSince_iff.mp (Bool.not_eq_false _ ▸ decided)
    obtain ⟨y, hy, handle, outcome⟩ := old x hx has
    rw [fresh y hy handle] at outcome
    cases outcome
  have only : t.calendar.filter (Entry.decidedSince s) = [e] := by
    have none_ : ∀ l : List Entry, (∀ x ∈ l, x ∈ front ++ back) → l.filter (Entry.decidedSince s) = [] := fun l sub =>
      List.filter_eq_nil_iff.mpr fun x hx => by simp [stays x (sub x hx)]
    rw [placed, List.filter_append, none_ front (fun _ => List.mem_append_left _),
      List.filter_cons_of_pos (Entry.decidedSince_iff.mpr ⟨decided, fresh⟩), none_ back (fun _ => List.mem_append_right _)]
    rfl
  rw [State.retireSince, only]
  rfl

/-- The place of an entry in a calendar that holds each handle once. -/
theorem placed_of_nodup {l : List Entry} {e : Entry} (nodup : (l.map (·.handle)).Nodup) (he : e ∈ l) :
    ∃ front back, l = front ++ e :: back ∧ ∀ x ∈ front ++ back, x.handle ≠ e.handle := by
  obtain ⟨front, back, placed⟩ := List.append_of_mem he
  refine ⟨front, back, placed, fun x hx same => ?_⟩
  rw [placed, List.map_append, List.map_cons, List.nodup_middle, List.nodup_cons] at nodup
  refine nodup.1 (same ▸ ?_)
  rw [← List.map_append]
  exact List.mem_map_of_mem hx

/-- What the retirement of another entry leaves of an entry: its place, and what it has queued or holds. -/
structure Apart (h : Nat) (s t : State) : Prop where
  entry : t.entry? h = s.entry? h
  outq : ∀ p, ∀ i ∈ (s.port p).outq, i ∈ (t.port p).outq
  retirement : ∀ p, h ∈ s.retirement.get p → h ∈ t.retirement.get p
  held : ∀ p, ∀ o ∈ (s.port p).held, o ∈ (t.port p).held

variable {s t u : State}

theorem Apart.refl (h : Nat) (s : State) : Apart h s s := ⟨rfl, fun _ _ => id, fun _ => id, fun _ _ => id⟩

theorem Apart.trans {h : Nat} (a : Apart h s t) (b : Apart h t u) : Apart h s u :=
  ⟨b.entry.trans a.entry, fun p i => b.outq p i ∘ a.outq p i, fun p => b.retirement p ∘ a.retirement p,
    fun p o => b.held p o ∘ a.held p o⟩

theorem Apart.modPort (h : Nat) (s : State) (p : Port) (f : PortRec → PortRec)
    (outq : ∀ i ∈ (s.port p).outq, i ∈ (f (s.port p)).outq) (held : ∀ o ∈ (s.port p).held, o ∈ (f (s.port p)).held) :
    Apart h s (s.modPort p f) := by
  refine ⟨rfl, fun q i hi => ?_, fun _ => id, fun q o ho => ?_⟩ <;>
  · by_cases same : q = p
    · subst same
      rw [State.port_modPort_self]
      first | exact outq i hi | exact held o ho
    · rw [State.port_modPort_ne s f same]
      assumption

theorem Apart.offerHeld {h k : Nat} (apart : k ≠ h) (w : State) (p : Port) : Apart h w (w.offerHeld p (.outcome k)) := by
  unfold State.offerHeld
  split
  · unfold State.queueHeld
    split
    · next i _ =>
        have pushed : Apart h w (w.pushItem p i) :=
          Apart.modPort h w p (fun r => { r with outq := r.outq ++ [i] }) (fun i hi => List.mem_append_left _ hi) (fun _ => id)
        refine pushed.trans ⟨State.entry?_retireEntry_ne _ _ apart.symm, fun _ _ => id, fun q hq => ?_, fun _ _ => id⟩
        by_cases same : q = p
        · subst same
          exact (Duo.get_set_self (w.pushItem q i).retirement _ _) ▸ List.mem_filter.mpr ⟨hq, by simpa using apart.symm⟩
        · exact (Duo.get_set_ne (w.pushItem p i).retirement _ same) ▸ hq
    · exact .refl h w
  · exact Apart.modPort h w p (fun r => { r with held := r.held ++ [.outcome k] }) (fun _ => id)
      (fun o ho => List.mem_append_left _ ho)

theorem Apart.joinRetirement {h k : Nat} (apart : k ≠ h) (s : State) : Apart h s (s.joinRetirement k) := by
  unfold State.joinRetirement
  cases s.entry? k with
  | none => exact .refl h s
  | some x =>
    refine Apart.trans (t := { s with retirement := s.retirement.set x.origin (s.retirement.get x.origin ++ [k]) })
      ⟨rfl, fun _ _ => id, fun p hp => ?_, fun _ _ => id⟩ ?_
    · by_cases same : p = x.origin
      · subst same
        exact (Duo.get_set_self s.retirement _ _) ▸ List.mem_append_left _ hp
      · exact (Duo.get_set_ne s.retirement _ same) ▸ hp
    · exact Apart.offerHeld apart _ _

theorem Apart.hasRetired {e : Entry} (a : Apart e.handle s t) (h : hasRetired s e) : hasRetired t e := by
  obtain ⟨o, table, ⟨gone, sent⟩ | ⟨stays, joined, held⟩⟩ := h
  · exact ⟨o, table, .inl ⟨a.entry.trans gone, a.outq _ _ sent⟩⟩
  · exact ⟨o, table, .inr ⟨a.entry.trans stays, a.retirement _ joined, a.held _ _ held⟩⟩

theorem hasRetired_joinRetirement {e : Entry} (found : s.entry? e.handle = some e.retired) :
    hasRetired (s.joinRetirement e.handle) e := by
  refine ⟨e.decided, (outcomeByTable_iff e _).mpr rfl, ?_⟩
  rw [State.joinRetirement_eq found]
  split
  · refine .inl ⟨State.entry?_retireEntry_self _ _ _, ?_⟩
    rw [State.port_retireEntry, State.pushItem, State.port_modPort_self]
    exact List.mem_append_right _ (List.mem_singleton.mpr rfl)
  · refine .inr ⟨by rw [← Entry.retired_eq]; exact found, ?_, ?_⟩
    · exact (Duo.get_set_self s.retirement _ _) ▸ List.mem_append_right _ (List.mem_singleton.mpr rfl)
    · rw [State.port_modPort_self]
      exact List.mem_append_right _ (List.mem_singleton.mpr rfl)

theorem hasRetired_join_again {e : Entry} (h : hasRetired s e) : hasRetired (s.joinRetirement e.handle) e := by
  obtain ⟨o, table, ⟨gone, sent⟩ | ⟨stays, -⟩⟩ := h
  · rw [State.joinRetirement, gone]
    exact ⟨o, table, .inl ⟨gone, sent⟩⟩
  · rw [(outcomeByTable_iff e o).mp table, ← Entry.retired_eq] at stays
    exact hasRetired_joinRetirement stays

theorem hasRetired_foldl {e : Entry} (hs : List Nat) (s : State)
    (h : hasRetired s e ∨ (s.entry? e.handle = some e.retired ∧ e.handle ∈ hs)) :
    hasRetired (hs.foldl State.joinRetirement s) e := by
  induction hs generalizing s with
  | nil =>
    obtain h | ⟨-, none_⟩ := h
    · exact h
    · cases none_
  | cons k hs ih =>
    apply ih
    by_cases same : k = e.handle
    · subst same
      obtain h | ⟨found, -⟩ := h
      · exact .inl (hasRetired_join_again h)
      · exact .inl (hasRetired_joinRetirement found)
    · have a := Apart.joinRetirement (h := e.handle) same s
      obtain h | ⟨found, mem⟩ := h
      · exact .inl (a.hasRetired h)
      · exact .inr ⟨a.entry.trans found, (List.mem_cons.mp mem).resolve_left (Ne.symm same)⟩

/-- An entry whose outcome the event decided has retired at its end. -/
theorem hasRetired_retireSince {e : Entry} (found : t.entry? e.handle = some e.retired)
    (fresh : ∀ x ∈ s.calendar, x.handle = e.handle → x.outcome = none) : hasRetired (t.retireSince s) e := by
  refine hasRetired_foldl _ t (.inr ⟨found, List.mem_map.mpr ⟨e.retired, List.mem_filter.mpr ⟨State.entry?_mem found, ?_⟩, rfl⟩⟩)
  exact Entry.decidedSince_iff.mpr ⟨rfl, fresh⟩

/-- An entry whose outcome the event did not decide is as before its end. -/
theorem State.entry?_retireSince {h : Nat} (stays : ∀ e ∈ t.calendar, e.handle = h → e.decidedSince s = false) :
    (t.retireSince s).entry? h = t.entry? h := by
  have apart : ∀ k ∈ (t.calendar.filter (Entry.decidedSince s)).map (·.handle), k ≠ h := by
    rintro k hk rfl
    obtain ⟨e, he, rfl⟩ := List.mem_map.mp hk
    obtain ⟨mem, decided⟩ := List.mem_filter.mp he
    rw [stays e mem rfl] at decided
    cases decided
  have folds : ∀ (hs : List Nat) (w : State), (∀ k ∈ hs, k ≠ h) → (hs.foldl State.joinRetirement w).entry? h = w.entry? h := by
    intro hs
    induction hs with
    | nil => exact fun _ _ => rfl
    | cons k hs ih =>
      intro w apart
      rw [List.foldl_cons, ih _ (fun k hk => apart k (List.mem_cons_of_mem _ hk))]
      exact (Apart.joinRetirement (apart k List.mem_cons_self) w).entry
  exact folds _ t apart

end Sys2Proof.Machine
end

section
/-! PROOFS. The ends of a part and of an entry, told of the entry itself (R6 to R9, R23), and the reaching of an earliest
and of a latest start (R15, R74). -/

namespace Sys2Proof.Machine

variable {s t u : State} {ph : Phase} {e : Entry} {h : Nat}

/-! ### The one entry with a handle (R2) -/

theorem State.modEntry_congr (nodup : (s.calendar.map (·.handle)).Nodup) (found : s.entry? h = some e) {f g : Entry → Entry}
    (same : f e = g e) : s.modEntry h f = s.modEntry h g := by
  unfold State.modEntry
  congr 1
  refine List.map_congr_left fun x hx => ?_
  split
  · next here =>
      have handle : x.handle = h := by simpa using here
      have stands := handle ▸ State.entry?_of_mem nodup hx
      rw [found] at stands
      cases stands
      exact same
  · rfl

theorem State.modPart_congr (nodup : (s.calendar.map (·.handle)).Nodup) (found : s.entry? h = some e) {f g : Part → Part}
    (same : f (e.parts.get ph) = g (e.parts.get ph)) : s.modPart h ph f = s.modPart h ph g :=
  State.modEntry_congr nodup found (by unfold Entry.modPart; rw [same])

theorem State.entry?_modPart (found : s.entry? h = some e) (ph : Phase) (f : Part → Part) :
    (s.modPart h ph f).entry? h = some (e.modPart ph f) :=
  State.entry?_modEntry_self (f := fun e => e.modPart ph f) (fun _ => rfl) found

theorem State.mem_modEntry_ne {f : Entry → Entry} (kept : ∀ e, (f e).handle = e.handle) {x : Entry}
    (hx : x ∈ (s.modEntry h f).calendar) (apart : x.handle ≠ h) : x ∈ s.calendar := by
  obtain ⟨e, he, rfl⟩ := List.mem_map.mp hx
  split
  · next here =>
      rw [if_pos here, kept] at apart
      exact absurd (by simpa using here) apart
  · exact he

theorem State.handles_modEntry {f : Entry → Entry} (kept : ∀ e, (f e).handle = e.handle) :
    (s.modEntry h f).calendar.map (·.handle) = s.calendar.map (·.handle) := by
  rw [State.modEntry, List.map_map]
  refine List.map_congr_left fun e _ => ?_
  rw [Function.comp_apply]
  split
  · exact kept e
  · rfl

/-! ### What follows a finished part (R9) -/

theorem State.settleEntry_of_open (found : s.entry? h = some e) (open_ : e.allFinished = false) : s.settleEntry h = s := by
  rw [State.settleEntry, found]
  simp [open_]

theorem State.settleEntry_of_settled (found : s.entry? h = some e) (settled : e.outcome.isSome = true ∨ e.confirmation.isSome = true) :
    s.settleEntry h = s := by
  rw [State.settleEntry, found]
  obtain some_ | some_ := settled <;> simp [some_]

theorem State.settleEntry_of_ended (found : s.entry? h = some e) (finished : e.allFinished = true) (undecided : e.outcome = none)
    (unconfirmed : e.confirmation = none) :
    s.settleEntry h = if !e.cancelled && e.confirm && e.anySent then s.enterConfirming h else s.decideOutcome h := by
  rw [State.settleEntry, found]
  simp [finished, undecided, unconfirmed]

theorem State.entry?_decideOutcome (found : s.entry? h = some e) (undecided : e.outcome = none) :
    (s.decideOutcome h).entry? h = some e.retired := by
  have kept (x : Entry) : (if x.outcome.isSome then x else x.retired).handle = x.handle := by split <;> rfl
  rw [State.decideOutcome, State.entry?_modEntry_self kept found, undecided]
  rfl

theorem State.modEntry_placed {front back : List Entry} (placed : s.calendar = front ++ e :: back)
    (apart : ∀ x ∈ front ++ back, x.handle ≠ e.handle) (f : Entry → Entry) :
    s.modEntry e.handle f = { s with calendar := front ++ f e :: back } := by
  have stay : ∀ l : List Entry, (∀ x ∈ l, x ∈ front ++ back) → l.map (fun x => if x.handle == e.handle then f x else x) = l :=
    fun l sub => (List.map_congr_left fun x hx => if_neg (by simpa using apart x (sub x hx))).trans (List.map_id _)
  rw [State.modEntry, placed, List.map_append, List.map_cons, stay front fun _ => List.mem_append_left _,
    stay back fun _ => List.mem_append_right _, if_pos (beq_self_eq_true _)]

/-- An entry whose outcome the event decides, and no other's, has retired at its end. -/
theorem retires_placed {w : State} {front back : List Entry} (placed : w.calendar = front ++ e :: back)
    (apart : ∀ x ∈ front ++ back, x.handle ≠ e.handle) (undecided : e.outcome = none)
    (others : ∀ x ∈ front ++ back, x ∈ s.calendar) (fresh : ∀ x ∈ s.calendar, x.handle = e.handle → x.outcome = none)
    (ports : w.ports = u.ports) (retirement : w.retirement = u.retirement) :
    (w.decideOutcome e.handle).retireSince s = (w.decideOutcome e.handle).joinRetirement e.handle ∧
      retires u ((w.decideOutcome e.handle).retireSince s) e := by
  have calendar : (w.decideOutcome e.handle).calendar = front ++ e.retired :: back := by
    rw [State.decideOutcome, State.modEntry_placed placed apart, undecided]
    rfl
  have joins := State.retireSince_of_one (s := s) calendar apart rfl fresh fun x hx has => ⟨x, others x hx, rfl, has⟩
  have decided : (w.decideOutcome e.handle).entry? e.handle = some e.retired := by
    rw [State.entry?, calendar, List.find?_append, List.find?_eq_none.mpr
      (fun x hx => by simpa using apart x (List.mem_append_left _ hx))]
    exact List.find?_cons_of_pos (p := fun x : Entry => x.handle == e.handle) (beq_self_eq_true e.handle)
  exact ⟨joins, (congrArg (retires u · e) joins).mpr (retires_joinRetirement decided ports retirement)⟩

theorem retires_decided {w : State} (nodup : (w.calendar.map (·.handle)).Nodup) (found : w.entry? e.handle = some e)
    (undecided : e.outcome = none) (others : ∀ x ∈ w.calendar, x.handle ≠ e.handle → x ∈ s.calendar)
    (fresh : ∀ x ∈ s.calendar, x.handle = e.handle → x.outcome = none)
    (ports : w.ports = u.ports) (retirement : w.retirement = u.retirement) :
    retires u ((w.decideOutcome e.handle).retireSince s) e := by
  obtain ⟨front, back, placed, apart⟩ := placed_of_nodup nodup (State.entry?_mem found)
  refine (retires_placed placed apart undecided (fun x hx => others x ?_ (apart x hx)) fresh ports retirement).2
  rw [placed]
  obtain hx | hx := List.mem_append.mp hx <;> simp [hx]

/-! ### A part that finishes before it has started (R6, R15) -/

/-- A part finishes, and PART FINISHED is offered where the entry is not cancelled (R7). -/
theorem State.finishPart_eq (nodup : (s.calendar.map (·.handle)).Nodup) (found : s.entry? h = some e) (ph : Phase) (f : Finish) :
    s.finishPart h ph f =
      if e.cancelled then s.modPart h ph (fun _ => (e.parts.get ph).finished f (s.needed e.group ph))
      else (s.modPart h ph (fun _ => (e.parts.get ph).finished f (s.needed e.group ph))).offer e.origin
        (partFinishedNotice e ph f (e.parts.get ph).sent) := by
  rw [State.finishPart, found]
  dsimp only
  rw [State.modPart_congr (g := fun _ => (e.parts.get ph).finished f (s.needed e.group ph)) nodup found rfl]

/-- A part's finishing decides no outcome. -/
theorem State.finishPart_old (s : State) (h : Nat) (ph : Phase) (f : Finish) :
    ∀ x ∈ (s.finishPart h ph f).calendar, x.outcome.isSome = true →
      ∃ y ∈ s.calendar, y.handle = x.handle ∧ y.outcome.isSome = true := by
  intro x hx has
  obtain ⟨needed, calendar⟩ := s.finishPart_calendar h ph f
  rw [calendar] at hx
  obtain ⟨y, hy, rfl⟩ := List.mem_map.mp hx
  refine ⟨y, hy, ?_, ?_⟩
  · split <;> rfl
  · split at has <;> exact has

/-! ### What one entry's settling leaves of the others -/

theorem Edits.calendar_eq (edits : Edits h s t) :
    ∃ f : Entry → Entry, (∀ e, (f e).handle = e.handle) ∧ t.calendar = (s.modEntry h f).calendar := edits

theorem Edits.entry?_ne (edits : Edits h s t) {k : Nat} (apart : k ≠ h) : t.entry? k = s.entry? k := by
  obtain ⟨f, kept, calendar⟩ := edits.calendar_eq
  rw [State.entry?_of_same calendar, State.entry?_modEntry_ne kept apart]

theorem Edits.mem_ne (edits : Edits h s t) {x : Entry} (hx : x ∈ t.calendar) (apart : x.handle ≠ h) : x ∈ s.calendar := by
  obtain ⟨f, kept, calendar⟩ := edits.calendar_eq
  exact State.mem_modEntry_ne kept (calendar ▸ hx) apart

theorem Edits.handles (edits : Edits h s t) : t.calendar.map (·.handle) = s.calendar.map (·.handle) := by
  obtain ⟨f, kept, calendar⟩ := edits.calendar_eq
  rw [calendar, State.handles_modEntry kept]

theorem Edits.decideOutcome (s : State) (h : Nat) : Edits h s (s.decideOutcome h) :=
  .modEntry s h fun e => by split <;> rfl

theorem Edits.settleConfirm (s : State) (h : Nat) : Edits h s (s.settleConfirm h) := by
  unfold State.settleConfirm
  split
  · split_ifs
    · exact .of_same rfl
    · exact .decideOutcome s h
    · exact (Edits.modEntry s h (f := s.countAllNotReached) fun _ => rfl).trans (.decideOutcome _ h)
    · exact .of_same rfl
    · exact .decideOutcome s h
  · exact .of_same rfl

theorem Edits.judgeCutShort (s : State) (h : Nat) : Edits h s (s.judgeCutShort h) := by
  unfold State.judgeCutShort
  split
  · split_ifs
    · exact (Edits.modEntry s h (f := fun e => { e with cutShort := true, confirmStopped := true }) fun _ => rfl).trans
        (.settleConfirm _ h)
    · exact .of_same rfl
  · exact .of_same rfl

theorem Edits.foldl {α : Type} (f : State → α → State) (edits : ∀ s a, Edits h s (f s a)) (l : List α) (s : State) :
    Edits h s (l.foldl f s) :=
  foldl_frame (Edits h) (fun _ => .of_same rfl) .trans f edits l s

theorem Edits.settleEntry (s : State) (h : Nat) : Edits h s (s.settleEntry h) := by
  unfold State.settleEntry
  split
  · split_ifs
    · exact .of_same rfl
    · have begun := Edits.modEntry s h (f := s.withProgress) fun _ => rfl
      have halted := Edits.foldl (h := h) (fun s ph => s.modEntry h (s.endPhase ph)) (fun s ph => .modEntry s h fun _ => rfl)
      exact ((begun.trans (halted _ _)).trans (.judgeCutShort _ h)).trans (.settleConfirm _ h)
    · exact .decideOutcome s h
  · exact .of_same rfl

/-- A frame by which only the ports, the calendar and the retirement queues differ, as an equality. -/
theorem CalFrame.restore (frame : CalFrame s t) :
    { t with ports := s.ports, calendar := s.calendar, retirement := s.retirement } = s := by rw [frame]

/-! ### ES_REACHED (R15) -/

/-- The part that ES_REACHED finishes. -/
theorem esReached_finishes (found : s.entry? h = some e) (waits : (e.parts.get ph).state = .waiting)
    (due : (e.parts.get ph).es ≤ s.clock.millis) (unneeded : (s.figures e.group ph).members = 0) :
    exec (.esReached h ph) s = .next (((s.finishPart h ph .notNeeded).settleEntry h).retireSince s) := by
  have is_due : s.esDue h ph = true := by
    rw [State.esDue, found]
    exact (Bool.and_eq_true _ _).mpr ⟨decide_eq_true waits, decide_eq_true due⟩
  have read : s.rereadPart h ph = s.finishPart h ph .notNeeded := by
    rw [State.rereadPart, found]
    dsimp only
    rw [waits]
    dsimp only
    rw [if_pos (show (e.parts.get ph).es ≤ s.now from due), if_neg (by simp [State.needed, unneeded])]
  change Host.Outcome.next _ = _
  rw [if_pos is_due, read]

theorem esReached_waits (found : s.entry? h = some e) (early : s.clock.millis < (e.parts.get ph).es) :
    exec (.esReached h ph) s = .next s := by
  have not_due : ¬ s.esDue h ph = true := by
    rw [State.esDue, found]
    rw [Bool.and_eq_true, not_and]
    exact fun _ reached => absurd (of_decide_eq_true reached) (Nat.not_le.mpr early)
  change Host.Outcome.next _ = _
  rw [if_neg not_due]

theorem esReached_ready (found : s.entry? h = some e) (waits : (e.parts.get ph).state = .waiting)
    (due : (e.parts.get ph).es ≤ s.clock.millis) (needed : 0 < (s.figures e.group ph).members) :
    exec (.esReached h ph) s = .next (s.modPart h ph (fun x => { x with state := .ready })) := by
  have is_due : s.esDue h ph = true := by
    rw [State.esDue, found]
    exact (Bool.and_eq_true _ _).mpr ⟨decide_eq_true waits, decide_eq_true due⟩
  have read : s.rereadPart h ph = s.modPart h ph (fun x => { x with state := .ready }) := by
    rw [State.rereadPart, found]
    dsimp only
    rw [waits]
    dsimp only
    rw [if_pos (show (e.parts.get ph).es ≤ s.now from due), if_pos (show s.needed e.group ph = true from decide_eq_true needed)]
  have open_ : (e.modPart ph (fun x => { x with state := .ready })).allFinished = false := by
    rw [← Bool.not_eq_true, Entry.allFinished_iff]
    intro finished
    have here := finished ph
    rw [Entry.parts_modPart, if_pos rfl] at here
    cases here
  change Host.Outcome.next _ = _
  rw [if_pos is_due, read, State.settleEntry_of_open (State.entry?_modPart found ph _) open_]
  congr 1
  refine State.retireSince_of_old fun x hx has => ?_
  obtain ⟨y, hy, rfl⟩ := List.mem_map.mp hx
  refine ⟨y, hy, ?_, ?_⟩
  · split <;> rfl
  · split at has <;> exact has

/-- An entry while it stays keeps its parts, and keeps its confirmation progress (R9). -/
abbrev ProgressStays (h : Nat) : State → State → Prop :=
  Traces (fun e x => x.parts = e.parts ∧ (e.confirmation.isSome = true → x.confirmation.isSome = true)) h

theorem progressStays_calNotes (h : Nat) : CalNotes (ProgressStays h) :=
  traces_calNotes h (fun _ => ⟨rfl, id⟩) (fun a b => ⟨b.1.trans a.1, b.2 ∘ a.2⟩)
    (fun e f noted progress => ⟨by rw [noted e], fun some_ => by
      obtain same | ⟨-, -, here⟩ := progress
      · rw [same, some_]
      · exact here⟩)
    (fun _ _ _ => ⟨rfl, id⟩)

/-- An entry that enters CONFIRMING is CONFIRMING or has retired at the end of the event (R9). -/
theorem State.enterConfirming_stays (found : s.entry? h = some e) (undecided : e.outcome = none) :
    ((s.enterConfirming h).retireSince u).entry? h = none ∨
      ∃ x, ((s.enterConfirming h).retireSince u).entry? h = some x ∧ x.parts = e.parts ∧ x.confirmation.isSome = true := by
  have notes := progressStays_calNotes h
  have open_ : s.Undecided h := fun x hx => Option.some.inj (found.symm.trans hx) ▸ undecided
  have rest : ProgressStays h (s.modEntry h s.withProgress) ((s.enterConfirming h).retireSince u) :=
    notes.trans (notes.confirmingBegun _ h (open_.modEntry fun _ => ⟨rfl, rfl⟩)) (notes.retireSince _ u)
  obtain none_ | ⟨x, found', parts, some_⟩ := rest.2 _ (State.entry?_modEntry_self (fun _ => rfl) found)
  · exact .inl none_
  · exact .inr ⟨x, found', parts, some_ rfl⟩

theorem Entry.anySent_modPart_finished (e : Entry) (ph : Phase) (f : Finish) (needed : Bool) :
    (e.modPart ph (·.finished f needed)).anySent = true ↔ ∃ q, 0 < (e.parts.get q).sent := by
  rw [Entry.anySent_iff]
  refine exists_congr fun q => ?_
  rw [Entry.parts_modPart]
  split
  · next same =>
      subst same
      exact Iff.rfl
  · exact Iff.rfl

/-- The last part of an entry finishes before it has started. -/
theorem esReached_last (found : s.entry? h = some e) (nodup : (s.calendar.map (·.handle)).Nodup)
    (last : ∀ q ≠ ph, (e.parts.get q).state = .finished) (undecided : e.outcome = none) (unconfirmed : e.confirmation = none)
    (f : Finish) :
    let t := ((s.finishPart h ph f).settleEntry h).retireSince s
    let ended := e.modPart ph (·.finished f (s.needed e.group ph))
    { t with ports := s.ports, calendar := s.calendar, retirement := s.retirement } = s ∧
      (e.confirm = true → e.cancelled = false → (∃ q, 0 < (e.parts.get q).sent) →
        t.entry? h = none ∨ ∃ x, t.entry? h = some x ∧ x.parts = ended.parts ∧ x.confirmation.isSome = true) ∧
      (e.confirm = false ∨ e.cancelled = true ∨ (∀ q, (e.parts.get q).sent = 0) → retires (s.finishPart h ph f) t ended) := by
  intro t ended
  have handle := State.entry?_handle found
  have found' : (s.finishPart h ph f).entry? h = some ended := by
    have same : (s.finishPart h ph f).calendar = (s.modPart h ph (·.finished f (s.needed e.group ph))).calendar := by
      rw [State.finishPart, found]
      dsimp only
      split
      · rfl
      · exact State.offer_within _ _ _ .calendar (by decide)
    rw [State.entry?_of_same same]
    exact State.entry?_modPart found ph _
  have finished : ended.allFinished = true := (Entry.allFinished_iff _).mpr fun q => by
    rw [Entry.parts_modPart]
    split
    · rfl
    · next apart => exact last q apart
  have settled := State.settleEntry_of_ended found' finished undecided unconfirmed
  have sent := Entry.anySent_modPart_finished e ph f (s.needed e.group ph)
  have edits := Edits.finishPart s h ph f
  refine ⟨CalFrame.restore ?_, fun confirm live some_ => ?_, fun decides => ?_⟩
  · exact ((s.finishPart_cal h ph f).trans (State.settleEntry_cal _ h)).trans (State.retireSince_cal _ s)
  · have confirms : (!ended.cancelled && ended.confirm && ended.anySent) = true := by
      rw [sent.mpr some_, show ended.cancelled = false from live, show ended.confirm = true from confirm]
      rfl
    have t_eq : t = ((s.finishPart h ph f).enterConfirming h).retireSince s :=
      congrArg (State.retireSince · s) (settled.trans (if_pos confirms))
    rw [t_eq]
    exact State.enterConfirming_stays found' undecided
  · have decides : ¬ (!ended.cancelled && ended.confirm && ended.anySent) = true := by
      rw [Bool.and_eq_true, Bool.and_eq_true, sent]
      rintro ⟨⟨live, confirm⟩, q, some_⟩
      obtain no | cancelled | unsent := decides
      · rw [show ended.confirm = e.confirm from rfl, no] at confirm
        cases confirm
      · rw [show ended.cancelled = e.cancelled from rfl, cancelled] at live
        cases live
      · rw [unsent q] at some_
        cases some_
    have t_eq : t = ((s.finishPart h ph f).decideOutcome ended.handle).retireSince s := by
      rw [show ended.handle = h from handle]
      exact congrArg (State.retireSince · s) (settled.trans (if_neg decides))
    rw [t_eq]
    refine retires_decided (edits.handles.symm ▸ nodup) ?_ undecided (fun x hx apart => edits.mem_ne hx ?_) (fun x hx same => ?_)
      rfl rfl
    · rw [show ended.handle = h from handle]
      exact found'
    · rwa [show ended.handle = h from handle] at apart
    · have stands := State.entry?_of_mem nodup hx
      rw [same, show ended.handle = h from handle, found] at stands
      cases stands
      exact undecided

/-! ### LS_REACHED (R74) -/

theorem State.countNotReached_eq (s : State) (g : Nat) (ph : Phase) (r : PhaseProgress) :
    s.countNotReached g ph r = endedEarly s g ph r := by
  have ahead : s.membersAhead g ph r.cursor =
      (s.roster.filter (fun x => r.cursor ≤ x.1 ∧ x.2.phase = ph ∧ (g = 0 ∨ g ∈ x.2.groups))).length := by
    unfold State.membersAhead
    congr 1
    refine List.filter_congr fun x _ => ?_
    rw [Bool.eq_iff_iff]
    simp [UnitRec.member, and_assoc]
  have current : (if r.current.isSome then 1 else 0) = if r.current = none then 0 else 1 := by cases r.current <;> rfl
  rw [State.countNotReached, ahead, current]
  rfl

/-- What a CONFIRMING entry comes to (R22, R74, R87). -/
def State.settleTo (s : State) (x : Entry) : Entry :=
  if s.anyExchangeOf x.handle then x
  else if x.cancelled then x.retired
  else if x.confirmStopped then (s.countAllNotReached x).retired
  else if phases.any x.hasConfirmWork then x
  else x.retired

theorem State.settleConfirm_entry (found : s.entry? h = some e) (confirming : e.confirming = true) :
    (s.settleConfirm h).entry? h = some (s.settleTo e) := by
  have handle := State.entry?_handle found
  have undecided : e.outcome = none := ((Entry.confirming_iff e).mp confirming).1
  have decided := State.entry?_decideOutcome found undecided
  have counted := State.entry?_decideOutcome (State.entry?_modEntry_self (f := s.countAllNotReached) (fun _ => rfl) found) undecided
  rw [State.settleConfirm, found, State.settleTo, handle]
  dsimp only
  rw [confirming, Bool.not_true, Bool.false_or]
  split_ifs
  · exact found
  · exact decided
  · exact counted
  · exact found
  · exact decided

theorem State.settleConfirm_of_not (found : s.entry? h = some e) (not : e.confirming = false) : s.settleConfirm h = s := by
  rw [State.settleConfirm, found]
  simp [not]

theorem CalFrame.settleTo (frame : CalFrame s t) (x : Entry) : t.settleTo x = s.settleTo x := by rw [frame]; rfl

/-- What R74 makes of an entry of the group of a part that is due. -/
def State.cutTo (s : State) (x : Entry) : Entry :=
  if x.confirming && x.confirmLive then s.settleTo { x with cutShort := true, confirmStopped := true } else x

theorem CalFrame.cutTo (frame : CalFrame s t) (x : Entry) : t.cutTo x = s.cutTo x := by
  rw [State.cutTo, frame.settleTo]
  rfl

/-- An entry that R74 reaches, if it goes on confirming, is cut short. -/
theorem State.judgeCutShort_entry (found : s.entry? h = some e) (due : e.confirming = true → s.dueAgainst e = true) :
    (s.judgeCutShort h).entry? h = some (s.cutTo e) := by
  rw [State.judgeCutShort, found, State.cutTo]
  dsimp only
  by_cases reached : (e.confirming && e.confirmLive) = true
  · obtain ⟨confirming, live⟩ := (Bool.and_eq_true _ _).mp reached
    rw [if_pos reached, if_pos (by rw [State.toCutShort, reached, due confirming]; rfl)]
    exact State.settleConfirm_entry (State.entry?_modEntry_self (fun _ => rfl) found) confirming
  · rw [if_neg reached, if_neg (by rw [State.toCutShort, Bool.and_eq_true]; exact fun all => reached all.1)]
    exact found

/-- A READY part that is due stands against the other entries of its group (R74). -/
theorem State.dueAgainst_of_ready {x : Entry} (found : s.entry? h = some e) (apart : x.handle ≠ h) (group : x.group = e.group)
    (ready : (e.parts.get ph).state = .ready) (due : (e.parts.get ph).ls ≤ s.now) : s.dueAgainst x = true := by
  refine List.any_eq_true.mpr ⟨e, State.entry?_mem found, ?_⟩
  have part : e.parts.toList.any (fun p => p.state = .ready && p.ls ≤ s.now) = true := by
    refine List.any_eq_true.mpr ⟨e.parts.get ph, by cases ph <;> simp [Tri.toList, Tri.get], ?_⟩
    simp [ready, due]
  rw [part, State.entry?_handle found, group]
  simpa using apart.symm

theorem Entry.not_confirming_of_ready (ready : (e.parts.get ph).state = .ready) : e.confirming = false := by
  rw [← Bool.not_eq_true, Entry.confirming_iff]
  rintro ⟨-, finished, -⟩
  have here := (Entry.allFinished_iff e).mp finished ph
  rw [ready] at here
  cases here

theorem State.judgeCutShort_of_not (found : s.entry? h = some e) (not : e.confirming = false) : s.judgeCutShort h = s := by
  rw [State.judgeCutShort, found]
  dsimp only
  rw [State.toCutShort, not]
  rfl

theorem State.judgeAll_entry_ne {hs : List Nat} {k : Nat} (absent : k ∉ hs) :
    (hs.foldl State.judgeCutShort s).entry? k = s.entry? k := by
  induction hs generalizing s with
  | nil => rfl
  | cons j hs ih =>
    rw [List.mem_cons, not_or] at absent
    rw [List.foldl_cons, ih absent.2, (Edits.judgeCutShort s j).entry?_ne absent.1]

/-- The entries of a list are judged one after the other, each as it stood, while a part of its group that is due stands. -/
theorem State.judgeAll_entry (found : s.entry? h = some e) (ready : (e.parts.get ph).state = .ready)
    (due : (e.parts.get ph).ls ≤ s.now) {hs : List Nat} (nodup : hs.Nodup) {k : Nat} {x : Entry} (stands : s.entry? k = some x)
    (group : x.group = e.group) :
    (hs.foldl State.judgeCutShort s).entry? k = some (if k ∈ hs then s.cutTo x else x) := by
  have handle := State.entry?_handle stands
  have open_ := Entry.not_confirming_of_ready ready
  induction hs generalizing s with
  | nil => exact stands
  | cons j hs ih =>
    obtain ⟨absent, nodup⟩ := List.nodup_cons.mp nodup
    rw [List.foldl_cons]
    by_cases same : k = j
    · subst same
      rw [State.judgeAll_entry_ne absent, if_pos List.mem_cons_self]
      refine State.judgeCutShort_entry stands fun confirming => State.dueAgainst_of_ready found ?_ group ready due
      intro same
      rw [← handle, same, found] at stands
      cases stands
      rw [open_] at confirming
      cases confirming
    · have frame : CalFrame s (s.judgeCutShort j) := State.judgeCutShort_cal s j
      have now : (s.judgeCutShort j).now = s.now := by rw [frame]; rfl
      have found' : (s.judgeCutShort j).entry? h = some e := by
        by_cases own : h = j
        · rw [← own, State.judgeCutShort_of_not found open_, found]
        · rw [(Edits.judgeCutShort s j).entry?_ne own, found]
      have stays : (s.judgeCutShort j).entry? k = some x := by rw [(Edits.judgeCutShort s j).entry?_ne same, stands]
      rw [ih found' (now ▸ due) nodup stays, frame.cutTo]
      simp [same]

theorem State.handles_judgeAll (hs : List Nat) :
    (hs.foldl State.judgeCutShort s).calendar.map (·.handle) = s.calendar.map (·.handle) := by
  induction hs generalizing s with
  | nil => rfl
  | cons j hs ih => rw [List.foldl_cons, ih, (Edits.judgeCutShort s j).handles]

/-- What LS_REACHED makes of each entry (R74). -/
theorem State.cutShortGroup_entry (nodup : (s.calendar.map (·.handle)).Nodup) (found : s.entry? h = some e)
    (ready : (e.parts.get ph).state = .ready) (due : (e.parts.get ph).ls ≤ s.now) {x : Entry} (hx : x ∈ s.calendar) :
    (s.cutShortGroup e.group).entry? x.handle = some (if x.group = e.group then s.cutTo x else x) := by
  have stands := State.entry?_of_mem nodup hx
  have mem : x.handle ∈ (s.calendar.filter (fun x => x.group == e.group)).map (·.handle) ↔ x.group = e.group := by
    constructor
    · intro listed
      obtain ⟨y, hy, same⟩ := List.mem_map.mp listed
      obtain ⟨hy, group⟩ := List.mem_filter.mp hy
      have stands' := State.entry?_of_mem nodup hy
      rw [same, stands] at stands'
      cases stands'
      simpa using group
    · exact fun group => List.mem_map_of_mem (List.mem_filter.mpr ⟨hx, by simpa using group⟩)
  by_cases group : x.group = e.group
  · rw [State.cutShortGroup, State.judgeAll_entry found ready due (nodup.sublist (List.filter_sublist.map _)) stands group,
      if_pos (mem.mpr group), if_pos group]
  · rw [State.cutShortGroup, State.judgeAll_entry_ne (mt mem.mp group), stands, if_neg group]

theorem State.lsDue_iff (found : s.entry? h = some e) (ready : (e.parts.get ph).state = .ready) : s.lsDue h ph = true ↔
    (e.parts.get ph).ls ≤ s.now ∧ ∃ x ∈ s.calendar, x.handle ≠ h ∧ x.group = e.group ∧ x.confirming = true ∧
      x.confirmLive = true := by
  rw [State.lsDue, found]
  simp [ready, and_assoc]

theorem Entry.confirmLive_iff (e : Entry) : e.confirmLive = true ↔ e.cancelled = false ∧ e.confirmStopped = false := by
  simp [Entry.confirmLive]

/-- LS_REACHED, once the clock has reached it, cuts the group's confirmations short, if there is one to cut short. -/
theorem lsReached_cuts (nodup : (s.calendar.map (·.handle)).Nodup) (found : s.entry? h = some e)
    (ready : (e.parts.get ph).state = .ready) (due : (e.parts.get ph).ls ≤ s.clock.millis) :
    ∃ w, exec (.lsReached h ph) s = .next (w.retireSince s) ∧ CalFrame s w ∧ (w.calendar.map (·.handle)).Nodup ∧
      ∀ x ∈ s.calendar, w.entry? x.handle = some (if x.group = e.group then s.cutTo x else x) := by
  by_cases cuts : s.lsDue h ph = true
  · refine ⟨s.cutShortGroup e.group, ?_, State.cutShortGroup_cal s _, (State.handles_judgeAll _).symm ▸ nodup,
      fun x hx => State.cutShortGroup_entry nodup found ready due hx⟩
    change Host.Outcome.next _ = _
    rw [found]
    dsimp only
    rw [if_pos cuts]
  · refine ⟨s, ?_, .refl s, nodup, fun x hx => ?_⟩
    · change Host.Outcome.next _ = _
      rw [found]
      dsimp only
      rw [if_neg cuts, State.retireSince_of_same rfl]
    · rw [State.entry?_of_mem nodup hx]
      split
      · next group =>
          rw [State.cutTo, if_neg]
          rw [Bool.and_eq_true]
          rintro ⟨confirming, live⟩
          refine cuts ((State.lsDue_iff found ready).mpr ⟨due, x, hx, ?_, group, confirming, live⟩)
          intro same
          have stands := State.entry?_of_mem nodup hx
          rw [same, found] at stands
          cases stands
          rw [Entry.not_confirming_of_ready ready] at confirming
          cases confirming
      · rfl

/-- At the end of the event the entries that R74 has decided have retired, and the others stand as it left them. -/
theorem State.retireSince_entry {w : State} (nodup : (s.calendar.map (·.handle)).Nodup) (handles : (w.calendar.map (·.handle)).Nodup)
    {x y : Entry} (hx : x ∈ s.calendar) (found : w.entry? x.handle = some y) (same : y.outcome.isSome = true → x.outcome.isSome = true) :
    (w.retireSince s).entry? x.handle = some y := by
  rw [State.entry?_retireSince, found]
  intro z hz handle
  have stands := State.entry?_of_mem handles hz
  rw [handle, found] at stands
  cases stands
  by_contra decided
  obtain ⟨has, fresh⟩ := Entry.decidedSince_iff.mp (Bool.not_eq_false _ ▸ decided)
  have none_ := fresh x hx handle.symm
  rw [none_] at same
  cases same has

theorem State.anyExchangeOf_iff (s : State) (h : Nat) : s.anyExchangeOf h = true ↔ ∃ k, s.exchangeOf h k = true := by
  constructor
  · intro some_
    obtain ⟨k, -, here⟩ := List.any_eq_true.mp some_
    exact ⟨k, here⟩
  · rintro ⟨k, here⟩
    exact List.any_eq_true.mpr ⟨k, by cases k <;> simp [phases], here⟩

/-- R74 on the entries of LS_REACHED, told as the statement tells it. -/
theorem lsReached_entries (nodup : (s.calendar.map (·.handle)).Nodup) (found : s.entry? h = some e)
    (ready : (e.parts.get ph).state = .ready) (due : (e.parts.get ph).ls ≤ s.clock.millis) :
    ∃ t, exec (.lsReached h ph) s = .next t ∧
      { t with ports := s.ports, calendar := s.calendar, retirement := s.retirement } = s ∧
      ∀ x ∈ s.calendar,
        let reached : Prop :=
          x.handle ≠ h ∧ x.group = e.group ∧ x.confirming = true ∧ x.cancelled = false ∧ x.confirmStopped = false
        let cut : Entry := { x with cutShort := true, confirmStopped := true }
        (¬ reached → t.entry? x.handle = some x) ∧
        (reached → (∃ k, s.exchangeOf x.handle k = true) → t.entry? x.handle = some cut) ∧
        ∀ p, reached → (∀ k, s.exchangeOf x.handle k = false) → x.confirmation = some p →
          hasRetired t
            { cut with
              confirmation := some
                { p with
                  records := ⟨endedEarly s x.group .L1 p.records.l1, endedEarly s x.group .L2 p.records.l2,
                    endedEarly s x.group .L3 p.records.l3⟩ } } := by
  obtain ⟨w, run, frame, handles, entries⟩ := lsReached_cuts nodup found ready due
  refine ⟨_, run, (frame.trans (State.retireSince_cal _ s)).restore, fun x hx => ?_⟩
  intro reached cut
  have stands := entries x hx
  have other : x.confirming = true → x.handle ≠ h := by
    intro confirming same
    have stands := State.entry?_of_mem nodup hx
    rw [same, found] at stands
    cases stands
    rw [Entry.not_confirming_of_ready ready] at confirming
    cases confirming
  have goes : reached → (x.confirming && x.confirmLive) = true := fun ⟨_, _, confirming, live⟩ =>
    (Bool.and_eq_true _ _).mpr ⟨confirming, (Entry.confirmLive_iff x).mpr live⟩
  refine ⟨fun stays => ?_, fun is busy => ?_, fun p is free progress => ?_⟩
  · have same : (if x.group = e.group then s.cutTo x else x) = x := by
      split
      · next group =>
          rw [State.cutTo, if_neg]
          rw [Bool.and_eq_true, Entry.confirmLive_iff]
          exact fun ⟨confirming, live⟩ => stays ⟨other confirming, group, confirming, live⟩
      · rfl
    rw [same] at stands
    exact State.retireSince_entry nodup handles hx stands id
  · rw [if_pos is.2.1, State.cutTo, if_pos (goes is), State.settleTo, if_pos ((State.anyExchangeOf_iff s _).mpr busy)] at stands
    exact State.retireSince_entry nodup handles hx stands id
  · have idle : ¬ s.anyExchangeOf x.handle = true := by
      rw [State.anyExchangeOf_iff]
      rintro ⟨k, here⟩
      rw [free k] at here
      cases here
    have counted : s.countAllNotReached cut =
        { cut with
          confirmation := some
            { p with
              records := ⟨endedEarly s x.group .L1 p.records.l1, endedEarly s x.group .L2 p.records.l2,
                endedEarly s x.group .L3 p.records.l3⟩ } } := by
      rw [State.countAllNotReached]
      simp only [State.countNotReached_eq]
      rw [show cut.confirmation = some p from progress]
      rfl
    rw [if_pos is.2.1, State.cutTo, if_pos (goes is), State.settleTo, if_neg (by exact idle),
      if_neg (by rw [show Entry.cancelled _ = x.cancelled from rfl, is.2.2.2.1]; decide), if_pos rfl, counted] at stands
    refine hasRetired_retireSince stands fun y hy same => ?_
    have stands := State.entry?_of_mem nodup hy
    rw [same, State.entry?_of_mem nodup hx] at stands
    cases stands
    exact ((Entry.confirming_iff x).mp is.2.2.1).1

theorem lsReached_waits (found : s.entry? h = some e) (ready : (e.parts.get ph).state = .ready)
    (early : s.clock.millis < (e.parts.get ph).ls) : exec (.lsReached h ph) s = .next s := by
  change Host.Outcome.next _ = _
  rw [found]
  dsimp only
  rw [if_neg]
  rw [State.lsDue_iff found ready]
  exact fun ⟨due, _⟩ => absurd due (Nat.not_le.mpr early)

/-- Settles O45. -/
theorem earliestAndLatestStartsAreReached : Obligations.EarliestAndLatestStartsAreReached := by
  constructor
  · intro h ph s e found waits
    intro c last finished notNeeded u noted
    have handle := State.entry?_handle found
    have noted_eq : notNeeded → (s.calendar.map (·.handle)).Nodup → s.finishPart h ph .notNeeded = noted := by
      rintro ⟨-, unneeded⟩ nodup
      rw [State.finishPart_eq nodup found]
      have part : (e.parts.get ph).finished .notNeeded (s.needed e.group ph) = finished := by
        rw [Part.finished, State.needed, unneeded]
        rfl
      rw [part]
      rw [partFinishedNotice, handle]
    refine ⟨esReached_waits found, esReached_ready found waits, ?_, ?_⟩
    · intro is open_ nodup
      rw [← noted_eq is nodup, esReached_finishes found waits is.1 is.2]
      have found' := State.finishPart_entry found ph .notNeeded
      obtain ⟨needed, found'⟩ := found'
      have waiting : (e.modPart ph (·.finished .notNeeded needed)).allFinished = false := by
        rw [← Bool.not_eq_true, Entry.allFinished_iff]
        refine fun ends => open_ fun q apart => ?_
        have here := ends q
        rwa [Entry.parts_modPart, if_neg apart] at here
      rw [State.settleEntry_of_open found' waiting, State.retireSince_of_old (State.finishPart_old s h ph .notNeeded)]
    · intro is last nodup undecided unconfirmed
      refine ⟨_, esReached_finishes found waits is.1 is.2, ?_⟩
      have part : (e.parts.get ph).finished .notNeeded (s.needed e.group ph) = finished := by
        rw [Part.finished, State.needed, is.2]
        rfl
      have ends := esReached_last found nodup last undecided unconfirmed .notNeeded
      rw [noted_eq is nodup] at ends ⊢
      rw [Entry.modPart, part] at ends
      exact ends
  · exact fun h ph s e found ready =>
      ⟨lsReached_waits found ready, fun due nodup => lsReached_entries nodup found ready due⟩

end Sys2Proof.Machine
end

section
/-! PROOFS. CANCEL (R19 to R22). -/

namespace Sys2Proof.Machine

variable {s t u : State} {ph : Phase} {e : Entry} {h : Nat} {p : Port}

/-! ### One part (R20, R21) -/

/-- A part gives its channel up where it is suspended, or SENDING without a flood in flight (R21, R71). -/
def State.givesUp (s : State) (e : Entry) (ph : Phase) : Prop :=
  (e.parts.get ph).state = .sending ∧ s.floodOf e.handle ph = false ∨ (e.parts.get ph).state = .suspended

theorem Part.startedFinish_eq (p : Part) :
    p.startedFinish = (if p.sent = 0 then .missed else if p.start.any (· ≤ p.ls) then .onTime
      else if p.start.isSome then .late else .missed) := by
  unfold Part.startedFinish
  cases p.start <;> simp

/-- A part of a cancelled entry finishes without a notice (R7). -/
theorem State.finishPart_cancelled (found : s.entry? h = some e) (cancelled : e.cancelled = true) (ph : Phase) (f : Finish) :
    s.finishPart h ph f = s.modPart h ph (·.finished f (s.needed e.group ph)) := by
  rw [State.finishPart, found]
  dsimp only
  rw [if_pos cancelled]
  rfl

/-- What the stopping of a cancelled entry's part leaves of the state, and makes of the entry and its channel. -/
structure StopsPart (s t : State) (e : Entry) (ph : Phase) : Prop where
  entry : t.entry? e.handle = some { e with parts := e.parts.set ph (partCancelled s e ph) }
  gives : s.givesUp e ph → t.chan ph = (s.chan ph).giveUp e.handle
  keeps : ¬ s.givesUp e ph → t.chan ph = s.chan ph
  others : ∀ k ≠ ph, t.chan k = s.chan k
  ports : t.ports = s.ports
  retirement : t.retirement = s.retirement

theorem State.stopPart_cancelled (found : s.entry? e.handle = some e) (cancelled : e.cancelled = true) (ph : Phase) :
    StopsPart s (s.stopPart e.handle ph) e ph := by
  have finish (f : Finish) (part : partCancelled s e ph = (e.parts.get ph).finished f (s.needed e.group ph))
      (stays : ¬ s.givesUp e ph) : StopsPart s (s.finishPart e.handle ph f) e ph := by
    rw [State.finishPart_cancelled found cancelled]
    exact ⟨part ▸ State.entry?_modPart found ph _, fun gives => absurd gives stays, fun _ => rfl, fun _ _ => rfl, rfl, rfl⟩
  have start (part : partCancelled s e ph = (e.parts.get ph).finished (e.parts.get ph).startedFinish (s.needed e.group ph))
      (gives : s.givesUp e ph) :
      StopsPart s ((s.finishPart e.handle ph (e.parts.get ph).startedFinish).modChan ph (·.giveUp e.handle)) e ph := by
    rw [State.finishPart_cancelled found cancelled]
    exact ⟨part ▸ State.entry?_modPart found ph _, fun _ => State.chan_modChan_self _ _ _, fun stays => absurd gives stays,
      fun k apart => State.chan_modChan_ne _ _ apart, rfl, rfl⟩
  have stay (part : partCancelled s e ph = e.parts.get ph) (stays : ¬ s.givesUp e ph) : StopsPart s s e ph :=
    ⟨by rw [part, Tri.set_get]; exact found, fun gives => absurd gives stays, fun _ => rfl, fun _ _ => rfl, rfl, rfl⟩
  rw [State.stopPart, found]
  dsimp only
  unfold State.givesUp partCancelled at *
  cases state : (e.parts.get ph).state with
  | waiting | ready =>
    simp only [state] at finish ⊢
    refine finish _ ?_ (by simp)
    by_cases needed : 0 < (s.figures e.group ph).members <;> simp [Part.finished, State.unstartedFinish, State.needed, needed]
  | sending =>
    simp only [state] at start stay ⊢
    by_cases flood : s.floodOf e.handle ph = true
    · simp only [flood] at stay ⊢
      exact stay (if_pos trivial) (by simp)
    · rw [Bool.not_eq_true] at flood
      simp only [flood] at start ⊢
      exact start (by rw [Part.startedFinish_eq]; rfl) (by simp)
  | suspended =>
    simp only [state] at start ⊢
    exact start (by rw [Part.startedFinish_eq]; rfl) (by simp)
  | finished =>
    simp only [state] at stay ⊢
    exact stay (by simp) (by simp)

/-! ### The three parts -/

/-- What stops a part depends on the part, the figures and the channel's work alone. -/
theorem StopsPart.next (a : StopsPart s t e ph) (frame : ChanFrame s t) {k : Phase} (apart : k ≠ ph) {x : Entry}
    (handle : x.handle = e.handle) (group : x.group = e.group) (part : x.parts.get k = e.parts.get k) :
    (t.givesUp x k ↔ s.givesUp e k) ∧ partCancelled t x k = partCancelled s e k := by
  have flood : t.floodOf e.handle k = s.floodOf e.handle k := by
    unfold State.floodOf
    rw [a.others k apart]
  have figures : t.figures e.group k = s.figures e.group k := by rw [frame]; rfl
  constructor
  · rw [State.givesUp, State.givesUp, part, handle, flood]
  · rw [partCancelled, partCancelled, part, handle, group, flood, figures]

/-- An entry with other parts. -/
def Entry.withParts (e : Entry) (parts : Tri Part) : Entry := { e with parts }

/-- What stopping a cancelled entry's parts on these phases makes of the entry and of the channels (R20, R21, R71). -/
structure StopsParts (s t : State) (e : Entry) (phs : List Phase) : Prop where
  entry : ∃ parts : Tri Part, t.entry? e.handle = some (e.withParts parts) ∧
    ∀ k, parts.get k = if k ∈ phs then partCancelled s e k else e.parts.get k
  gives : ∀ k ∈ phs, s.givesUp e k → t.chan k = (s.chan k).giveUp e.handle
  keeps : ∀ k, k ∉ phs ∨ ¬ s.givesUp e k → t.chan k = s.chan k
  ports : t.ports = s.ports
  retirement : t.retirement = s.retirement

theorem State.stopList_cancelled {phs : List Phase} (nodup : phs.Nodup) (found : s.entry? e.handle = some e)
    (cancelled : e.cancelled = true) : StopsParts s (phs.foldl (fun s ph => s.stopPart e.handle ph) s) e phs := by
  induction phs generalizing s e with
  | nil => exact ⟨⟨e.parts, found, fun _ => by simp⟩, nofun, fun _ _ => rfl, rfl, rfl⟩
  | cons ph phs ih =>
    obtain ⟨absent, nodup⟩ := List.nodup_cons.mp nodup
    have first := State.stopPart_cancelled found cancelled ph
    have next : ∀ k ∈ phs, k ≠ ph := fun k hk same => absent (same ▸ hk)
    have part : ∀ k ∈ phs, (e.parts.set ph (partCancelled s e ph)).get k = e.parts.get k :=
      fun k hk => Tri.get_set_ne _ _ (next k hk)
    have later : ∀ k ∈ phs, _ := fun k hk => first.next (s.stopPart_chan e.handle ph) (next k hk)
      (x := e.withParts (e.parts.set ph (partCancelled s e ph))) rfl rfl (part k hk)
    have rest := ih (s := s.stopPart e.handle ph) (e := e.withParts (e.parts.set ph (partCancelled s e ph))) nodup first.entry
      cancelled
    obtain ⟨parts, entry, each⟩ := rest.entry
    refine ⟨⟨parts, entry, fun k => ?_⟩, fun k hk gives => ?_, fun k keeps => ?_, rest.ports.trans first.ports,
      rest.retirement.trans first.retirement⟩
    · rw [each k]
      by_cases here : k = ph
      · subst here
        rw [if_neg absent, if_pos List.mem_cons_self]
        exact Tri.get_set_self _ _ _
      · by_cases hk : k ∈ phs
        · rw [if_pos hk, if_pos (List.mem_cons_of_mem _ hk), (later k hk).2]
        · rw [if_neg hk, if_neg (by simp [here, hk])]
          exact Tri.get_set_ne _ _ here
    · obtain rfl | hk := List.mem_cons.mp hk
      · exact (rest.keeps k (.inl absent)).trans (first.gives gives)
      · exact (rest.gives k hk ((later k hk).1.mpr gives)).trans (by rw [first.others k (next k hk)]; rfl)
    · by_cases here : k = ph
      · subst here
        exact (rest.keeps k (.inl absent)).trans
          (first.keeps (keeps.resolve_left (not_not_intro List.mem_cons_self)))
      · refine (rest.keeps k ?_).trans (first.others k here)
        by_cases hk : k ∈ phs
        · exact .inr fun gives => keeps.resolve_left (not_not_intro (List.mem_cons_of_mem _ hk)) ((later k hk).1.mp gives)
        · exact .inl hk

/-! ### The entry (R19, R20, R22) -/

/-- An entry as an accepted CANCEL leaves it: cancelled, with its parts as R20 and R21 make them. -/
def cancelledBy (s : State) (e : Entry) : Entry :=
  { e with cancelled := true, parts := ⟨partCancelled s e .L1, partCancelled s e .L2, partCancelled s e .L3⟩ }

/-- The state once an entry is cancelled and its parts are stopped. -/
def State.withdrawn (s : State) (h : Nat) : State :=
  (s.modEntry h (fun e => { e with cancelled := true })).stopParts h

/-- Something of the entry is in flight: an exchange where it is CONFIRMING, else a flood of a part (R20 to R22). -/
def State.inFlight (s : State) (e : Entry) : Prop :=
  if e.confirmation.isSome then ∃ ph, s.exchangeOf e.handle ph = true
  else ∃ ph, (e.parts.get ph).state = .sending ∧ s.floodOf e.handle ph = true

theorem Tri.ext_get {α : Type} {a b : Tri α} (same : ∀ k, a.get k = b.get k) : a = b := by
  cases a
  cases b
  congr
  exacts [same .L1, same .L2, same .L3]

theorem State.withdrawn_stops (found : s.entry? e.handle = some e) :
    let w := s.withdrawn e.handle
    w.entry? e.handle = some (cancelledBy s e) ∧
      (∀ ph, s.givesUp e ph → w.chan ph = (s.chan ph).giveUp e.handle) ∧
      (∀ ph, ¬ s.givesUp e ph → w.chan ph = s.chan ph) ∧ w.ports = s.ports ∧ w.retirement = s.retirement := by
  have found' : (s.modEntry e.handle (fun e => { e with cancelled := true })).entry? e.handle =
      some { e with cancelled := true } := State.entry?_modEntry_self (fun _ => rfl) found
  have stops := State.stopList_cancelled (phs := phases) (by decide) (e := { e with cancelled := true }) found' rfl
  have all (k : Phase) : k ∈ phases := by cases k <;> decide
  obtain ⟨parts, entry, each⟩ := stops.entry
  have parts_eq : parts = ⟨partCancelled s e .L1, partCancelled s e .L2, partCancelled s e .L3⟩ :=
    Tri.ext_get fun k => by
      rw [each k, if_pos (all k)]
      cases k <;> rfl
  subst parts_eq
  exact ⟨entry, fun ph gives => stops.gives ph (all ph) gives, fun ph stays => stops.keeps ph (.inr stays), stops.ports,
    stops.retirement⟩

theorem partCancelled_finished (s : State) (e : Entry) (ph : Phase) : (partCancelled s e ph).state = .finished ↔
    ¬ ((e.parts.get ph).state = .sending ∧ s.floodOf e.handle ph = true) := by
  unfold partCancelled
  cases state : (e.parts.get ph).state <;> cases s.floodOf e.handle ph <;> simp [state]

theorem partCancelled_of_finished (finished : (e.parts.get ph).state = .finished) : partCancelled s e ph = e.parts.get ph := by
  unfold partCancelled
  dsimp only
  rw [finished]

theorem cancelledBy_parts (s : State) (e : Entry) (ph : Phase) : (cancelledBy s e).parts.get ph = partCancelled s e ph := by
  cases ph <;> rfl

theorem cancelledBy_allFinished (s : State) (e : Entry) : (cancelledBy s e).allFinished = true ↔
    ∀ ph, ¬ ((e.parts.get ph).state = .sending ∧ s.floodOf e.handle ph = true) := by
  rw [Entry.allFinished_iff]
  exact forall_congr' fun ph => by rw [cancelledBy_parts, partCancelled_finished]

theorem Edits.withdrawn (s : State) (h : Nat) : Edits h s (s.withdrawn h) :=
  (Edits.modEntry s h (f := fun e => { e with cancelled := true }) fun _ => rfl).trans (.stopParts _ h)

/-- An accepted CANCEL leaves the entry with its parts stopped while something of it is in flight, and else decides its
outcome. -/
theorem State.cancelEntry_eq (nodup : (s.calendar.map (·.handle)).Nodup) (found : s.entry? e.handle = some e)
    (undecided : e.outcome = none) (ends : e.confirmation.isSome = true → e.allFinished = true) :
    (s.inFlight e → s.cancelEntry e.handle = s.withdrawn e.handle) ∧
      (¬ s.inFlight e → s.cancelEntry e.handle = ((s.withdrawn e.handle).decideOutcome e.handle).retireSince s) := by
  obtain ⟨entry, -, keeps, -⟩ := State.withdrawn_stops found
  have edits := Edits.withdrawn s e.handle
  have cancel : s.cancelEntry e.handle =
      (((s.withdrawn e.handle).settleEntry e.handle).settleConfirm e.handle).retireSince s := rfl
  have unmoved : (s.withdrawn e.handle).retireSince s = s.withdrawn e.handle :=
    State.retireSince_of_old fun x hx has => by
      by_cases same : x.handle = e.handle
      · have stands := State.entry?_of_mem (edits.handles.symm ▸ nodup) hx
        rw [same, entry] at stands
        cases stands
        rw [show (cancelledBy s e).outcome = e.outcome from rfl, undecided] at has
        cases has
      · exact ⟨x, edits.mem_ne hx same, rfl, has⟩
  rw [cancel]
  generalize s.withdrawn e.handle = w at entry keeps edits unmoved
  unfold State.inFlight
  by_cases some_ : e.confirmation.isSome = true
  · have finished : ∀ ph, (e.parts.get ph).state = .finished := (Entry.allFinished_iff e).mp (ends some_)
    have confirming : (cancelledBy s e).confirming = true := (Entry.confirming_iff _).mpr
      ⟨undecided, (cancelledBy_allFinished s e).mpr fun ph => by rw [finished ph]; simp, some_⟩
    have busy : w.anyExchangeOf e.handle = s.anyExchangeOf e.handle := by
      have chans : ∀ ph, w.chan ph = s.chan ph := fun ph => keeps ph fun gives => by
        rw [State.givesUp, finished ph] at gives
        simp at gives
      unfold State.anyExchangeOf State.exchangeOf
      simp only [chans]
    rw [if_pos some_, ← State.anyExchangeOf_iff, State.settleEntry_of_settled entry (.inr some_), State.settleConfirm, entry]
    dsimp only
    rw [confirming, Bool.not_true, Bool.false_or, busy]
    exact ⟨fun goes => by rw [if_pos goes, unmoved], fun rests => by rw [if_neg rests]; rfl⟩
  · have none_ : e.confirmation = none := by simpa using some_
    have unconfirming {x : State} {y : Entry} (stands : x.entry? e.handle = some y) (not : y.confirmation = none) :
        x.settleConfirm e.handle = x := State.settleConfirm_of_not stands (by
      rw [← Bool.not_eq_true, Entry.confirming_iff, not]
      simp)
    have flies : (cancelledBy s e).allFinished = false ↔
        ∃ ph, (e.parts.get ph).state = .sending ∧ s.floodOf e.handle ph = true := by
      rw [← Bool.not_eq_true, cancelledBy_allFinished]
      push Not
      rfl
    rw [if_neg some_, ← flies]
    refine ⟨fun goes => ?_, fun rests => ?_⟩
    · rw [State.settleEntry_of_open entry goes, unconfirming entry none_, unmoved]
    · rw [State.settleEntry_of_ended entry (by simpa using rests) undecided none_]
      rw [if_neg (by simp [cancelledBy]), unconfirming (State.entry?_decideOutcome entry undecided) none_]

theorem State.joinRetirement_calendar (s : State) (h : Nat) :
    (s.joinRetirement h).calendar = s.calendar ∨ (s.joinRetirement h).calendar = s.calendar.filter (fun e => e.handle != h) := by
  unfold State.joinRetirement
  split
  · rename_i e _
    obtain same | ⟨k, owner, gone⟩ := State.offerHeld_calendar
      { s with retirement := s.retirement.set e.origin (s.retirement.get e.origin ++ [h]) } e.origin (.outcome h)
    · exact .inl same
    · cases owner
      exact .inr gone
  · exact .inl rfl

/-- No other entry changes by a CANCEL, not even in a calendar that holds a handle twice. -/
theorem State.cancelEntry_others (s : State) (h : Nat) :
    (s.cancelEntry h).calendar.filter (fun x => x.handle ≠ h) = s.calendar.filter (fun x => x.handle ≠ h) := by
  have edits : Edits h s (((s.withdrawn h).settleEntry h).settleConfirm h) :=
    ((Edits.withdrawn s h).trans (.settleEntry _ h)).trans (.settleConfirm _ h)
  have cancel : s.cancelEntry h = (((s.withdrawn h).settleEntry h).settleConfirm h).retireSince s := rfl
  rw [cancel]
  generalize ((s.withdrawn h).settleEntry h).settleConfirm h = w at edits
  have joins : ∀ k ∈ (w.calendar.filter (Entry.decidedSince s)).map (·.handle), k = h := by
    intro k hk
    obtain ⟨x, hx, rfl⟩ := List.mem_map.mp hk
    obtain ⟨hx, decided⟩ := List.mem_filter.mp hx
    obtain ⟨has, fresh⟩ := Entry.decidedSince_iff.mp decided
    by_contra apart
    rw [fresh x (edits.mem_ne hx apart) rfl] at has
    cases has
  have before : w.calendar.filter (fun x => x.handle ≠ h) = s.calendar.filter (fun x => x.handle ≠ h) := by
    obtain ⟨f, kept, calendar⟩ := edits.calendar_eq
    rw [calendar, State.modEntry, List.filter_map]
    have stays : (fun x : Entry => decide (x.handle ≠ h)) ∘ (fun e => if e.handle == h then f e else e) =
        fun x => decide (x.handle ≠ h) := by
      funext x
      rw [Function.comp_apply]
      split
      · rw [kept]
      · rfl
    rw [stays]
    refine (List.map_congr_left fun x hx => ?_).trans (List.map_id _)
    rw [if_neg (by simpa using (List.mem_filter.mp hx).2), id]
  rw [State.retireSince, ← before]
  generalize (w.calendar.filter (Entry.decidedSince s)).map (·.handle) = hs at joins
  clear before edits cancel
  induction hs generalizing w with
  | nil => rfl
  | cons k hs ih =>
    rw [List.foldl_cons, ih _ (fun j hj => joins j (List.mem_cons_of_mem _ hj)), joins k List.mem_cons_self]
    obtain same | gone := w.joinRetirement_calendar h
    · rw [same]
    · rw [gone, List.filter_filter]
      congr 1
      funext x
      by_cases here : x.handle = h <;> simp [here]

/-- CANCEL where its port takes it. -/
theorem exec_cancel {tag : Byte} {handle : Word16} (takes : s.takes p (.cancel p tag handle)) :
    exec (.cancel p tag handle) s =
      .next (match s.cancelRefusal p handle.toNat with
        | some code => s.answered p 0x02 tag code []
        | none =>
            if ((s.entry? handle.toNat).map (·.cancelled)).getD false then s.answered p 0x02 tag .ok []
            else (s.answered p 0x02 tag .ok []).cancelEntry handle.toNat) :=
  (exec_of_takes takes rfl).trans rfl

/-- Settles O30. -/
theorem cancelWithdrawsTheEntry : Obligations.CancelWithdrawsTheEntry := by
  intro p tag handle s takes h c answer
  have run := exec_cancel takes
  have refuse {code : ReplyCode} (refusal : s.cancelRefusal p h = some code) : answer code := by
    rw [refusal] at run
    exact run
  refine ⟨fun none_ => refuse (by rw [State.cancelRefusal, none_]), fun e found => ?_⟩
  have refusal : s.cancelRefusal p h =
      if e.origin ≠ p then some .notOwner else if e.outcome.isSome then some .finished else none := by
    rw [State.cancelRefusal, found]
  refine ⟨fun other => refuse (refusal.trans (if_pos other)), fun own done => refuse ?_, fun own undecided cancelled => ?_,
    fun own undecided live => ?_⟩
  · rw [refusal, if_neg (not_not_intro own), if_pos done]
  · have accepted : s.cancelRefusal p h = none := by
      rw [refusal, if_neg (not_not_intro own), undecided]
      rfl
    rw [accepted, show s.entry? handle.toNat = some e from found] at run
    exact run.trans (congrArg _ (if_pos cancelled))
  · have accepted : s.cancelRefusal p h = none := by
      rw [refusal, if_neg (not_not_intro own), undecided]
      rfl
    rw [accepted, show s.entry? handle.toNat = some e from found] at run
    replace run := run.trans (congrArg _ (if_neg (by simp [live])))
    have handle_eq : h = e.handle := (State.entry?_handle found).symm
    rw [show handle.toNat = e.handle from handle_eq] at run
    rw [handle_eq] at found ⊢
    have frame := (s.answered p 0x02 tag .ok []).cancelEntry_chan e.handle
    have grows := ((grows_calKeeps (fun _ _ => rfl)).cancelEntry (s.answered p 0x02 tag .ok []) e.handle).replyThenNotices
    refine ⟨_, run, grows, State.cancelEntry_others _ _, ?_, ?_⟩
    · rw [frame]
      rfl
    · intro goesOn parts nodup ends
      have found' : (s.answered p 0x02 tag .ok []).entry? e.handle = some e := found
      obtain ⟨goes, rests⟩ := State.cancelEntry_eq (s := s.answered p 0x02 tag .ok []) nodup found' undecided ends
      obtain ⟨entry, gives, keeps, ports, retirement⟩ := State.withdrawn_stops found'
      have edits := Edits.withdrawn (s.answered p 0x02 tag .ok []) e.handle
      have entry_eq : cancelledBy (s.answered p 0x02 tag .ok []) e = { e with cancelled := true, parts } := by
        by_cases some_ : e.confirmation.isSome = true
        · have finished := (Entry.allFinished_iff e).mp (ends some_)
          have same : (cancelledBy (s.answered p 0x02 tag .ok []) e).parts = e.parts := Tri.ext_get fun k => by
            rw [cancelledBy_parts, partCancelled_of_finished (finished k)]
          have kept : parts = e.parts := if_pos some_
          rw [kept]
          exact congrArg (fun parts => { e with cancelled := true, parts }) same
        · have stopped : parts = (cancelledBy s e).parts := if_neg some_
          rw [stopped]
          rfl
      have flies : goesOn ↔ (s.answered p 0x02 tag .ok []).inFlight e := Iff.rfl
      have chans : ∀ ph, ((s.answered p 0x02 tag .ok []).cancelEntry e.handle).chan ph =
          ((s.answered p 0x02 tag .ok []).withdrawn e.handle).chan ph := fun ph => by
        by_cases busy : (s.answered p 0x02 tag .ok []).inFlight e
        · rw [goes busy]
        · rw [rests busy, (State.retireSince_cal _ _).chan_eq]
          rfl
      refine ⟨fun ph => ?_, fun busy => ?_, fun idle => ?_⟩
      · have yields : (e.confirmation = none ∧ (e.parts.get ph).state = .sending ∧ s.floodOf e.handle ph = false ∨
            e.confirmation = none ∧ (e.parts.get ph).state = .suspended) ↔ (s.answered p 0x02 tag .ok []).givesUp e ph := by
          constructor
          · rintro (⟨-, sending⟩ | ⟨-, suspended⟩)
            · exact .inl sending
            · exact .inr suspended
          · intro gives
            have unconfirmed : e.confirmation = none := by
              by_contra some_
              have finished := (Entry.allFinished_iff e).mp (ends (Option.isSome_iff_ne_none.mpr some_)) ph
              rw [State.givesUp, finished] at gives
              simp at gives
            exact gives.imp (fun sending => ⟨unconfirmed, sending⟩) (fun suspended => ⟨unconfirmed, suspended⟩)
        rw [chans]
        split
        · next gives_ => exact gives ph (yields.mp gives_)
        · next stays => exact keeps ph (mt yields.mpr stays)
      · rw [goes (flies.mp busy), entry, entry_eq]
      · rw [rests (mt flies.mpr idle), ← entry_eq]
        refine retires_decided (e := cancelledBy (s.answered p 0x02 tag .ok []) e) (edits.handles.symm ▸ nodup) entry undecided
          (fun x hx apart => edits.mem_ne hx apart) (fun x hx same => ?_) ports retirement
        have stands := State.entry?_of_mem (s := s.answered p 0x02 tag .ok []) nodup hx
        rw [same, show (cancelledBy (s.answered p 0x02 tag .ok []) e).handle = e.handle from rfl, found'] at stands
        cases stands
        exact undecided

end Sys2Proof.Machine
end

section
/-! PROOFS. SUBMIT's admission (R1, R2, R4, R7, R9, R11). -/

namespace Sys2Proof.Machine

variable {s t u : State} {ph : Phase} {e x : Entry} {h : Nat} {p : Port} {front back : List Entry}

/-! ### Reading an admitted part (R11, R14) -/

/-- An admitted part with its state read against now: WAITING while its ES lies ahead, then READY or not needed. -/
def readPart (s : State) (group : Nat) (ph : Phase) (f : PlanFigures) : Part :=
  { state := if s.clock.millis < f.es then .waiting else if s.needed group ph then .ready else .finished
    finish := if s.clock.millis < f.es ∨ s.needed group ph = true then none else some .notNeeded
    depth := f.depth, mode := f.mode, planned := f.planned, sent := 0, ls := f.ls, es := f.es, start := none
    finishNeeded := false }

/-- A calendar with one more entry. -/
def State.placing (s : State) (front back : List Entry) (e : Entry) : State := { s with calendar := front ++ e :: back }

/-- PART FINISHED of a part that finished before it was sent, if this part has. -/
def State.noteRead (s : State) (e : Entry) (ph : Phase) (q : Part) : State :=
  if q.state = .finished then s.offer e.origin (partFinishedNotice e ph .notNeeded 0) else s

theorem State.placing_offer (s : State) (front back : List Entry) (e : Entry) (p : Port) (i : Item) :
    (s.offer p i).placing front back e = (s.placing front back e).offer p i := by
  unfold State.offer
  split
  · next room => exact (if_pos (by exact room)).symm
  · next full => exact (if_neg (by exact full)).symm

theorem State.placing_noteRead (s : State) (y : Entry) (ph : Phase) (q : Part) :
    (s.noteRead x ph q).placing front back y = (s.placing front back y).noteRead x ph q := by
  unfold State.noteRead
  split
  · exact State.placing_offer _ _ _ _ _ _
  · rfl

theorem State.entry?_placing (apart : ∀ y ∈ front ++ back, y.handle ≠ x.handle) :
    (s.placing front back x).entry? x.handle = some x := by
  rw [State.entry?, State.placing, List.find?_append, List.find?_eq_none.mpr
    (fun y hy => by simpa using apart y (List.mem_append_left _ hy))]
  exact List.find?_cons_of_pos (p := fun y : Entry => y.handle == x.handle) (beq_self_eq_true x.handle)

/-- One part of an entry just admitted is read. -/
theorem State.rereadPart_admitted (apart : ∀ y ∈ front ++ back, y.handle ≠ x.handle) (live : x.cancelled = false) {f : PlanFigures}
    (part : x.parts.get ph = Part.admitted f) :
    (s.placing front back x).rereadPart x.handle ph =
      (s.placing front back (x.withParts (x.parts.set ph (readPart s x.group ph f)))).noteRead x ph
        (readPart s x.group ph f) := by
  have found := State.entry?_placing (s := s) apart
  have put (g : Part → Part) : (s.placing front back x).modPart x.handle ph g =
      s.placing front back (x.withParts (x.parts.set ph (g (x.parts.get ph)))) :=
    State.modEntry_placed (s := s.placing front back x) rfl apart fun x => x.modPart ph g
  have needed : (s.placing front back x).needed x.group ph = s.needed x.group ph := rfl
  have state : (x.parts.get ph).state = .waiting := by rw [part]; rfl
  have es : (x.parts.get ph).es = f.es := by rw [part]; rfl
  rw [State.rereadPart, found]
  dsimp only
  rw [state]
  dsimp only
  rw [needed]
  by_cases ahead : s.clock.millis < f.es
  · have read : readPart s x.group ph f = x.parts.get ph := by
      rw [part, readPart, if_pos ahead, if_pos (.inl ahead)]
      rfl
    rw [if_neg (show ¬ (x.parts.get ph).es ≤ (s.placing front back x).now from es ▸ Nat.not_le.mpr ahead), read, Tri.set_get,
      State.noteRead, state, if_neg nofun]
    rfl
  · rw [if_pos (show (x.parts.get ph).es ≤ (s.placing front back x).now from es ▸ Nat.not_lt.mp ahead)]
    by_cases need : s.needed x.group ph = true
    · have read : readPart s x.group ph f = { x.parts.get ph with state := .ready } := by
        rw [part, readPart, if_neg ahead, if_pos need, if_pos (.inr need)]
        rfl
      rw [if_pos need, put, State.noteRead, read, if_neg nofun]
    · have read : readPart s x.group ph f = (x.parts.get ph).finished .notNeeded false := by
        rw [part, readPart, if_neg ahead, if_neg need, if_neg (by simp [ahead, need])]
        rfl
      have sent : (x.parts.get ph).sent = 0 := by rw [part]; rfl
      rw [if_neg need, State.finishPart, found]
      dsimp only
      rw [needed, Bool.eq_false_iff.mpr need, live, if_neg nofun, State.noteRead, read,
        if_pos (show ((x.parts.get ph).finished .notNeeded false).state = .finished from rfl), sent]
      exact congrArg (State.offer · _ _) (put _)

theorem readPart_noteRead (s : State) (y : Entry) (k : Phase) (q : Part) (g : Nat) (ph : Phase) (f : PlanFigures) :
    readPart (s.noteRead y k q) g ph f = readPart s g ph f := by
  unfold State.noteRead
  split
  · rw [readPart, State.needed, s.offer_ports]
    rfl
  · rfl

/-- The three parts of an entry just admitted are read, and what has finished is noted in the order of the phases. -/
theorem State.rereadParts_admitted (apart : ∀ y ∈ front ++ back, y.handle ≠ x.handle) (live : x.cancelled = false)
    {f : Phase → PlanFigures} (parts : ∀ ph, x.parts.get ph = Part.admitted (f ph)) :
    let read (ph : Phase) : Part := readPart s x.group ph (f ph)
    (s.placing front back x).rereadParts x.handle =
      (((s.placing front back (x.withParts ⟨read .L1, read .L2, read .L3⟩)).noteRead x .L1 (read .L1)).noteRead x .L2
        (read .L2)).noteRead x .L3 (read .L3) := by
  intro read
  have one := State.rereadPart_admitted (s := s) (ph := .L1) (f := f .L1) apart live (parts .L1)
  have two := State.rereadPart_admitted (s := s.noteRead x .L1 (read .L1)) (x := x.withParts (x.parts.set .L1 (read .L1)))
    (ph := .L2) (f := f .L2) apart live (parts .L2)
  rw [readPart_noteRead, State.placing_noteRead, State.placing_noteRead] at two
  have three := State.rereadPart_admitted (s := (s.noteRead x .L1 (read .L1)).noteRead x .L2 (read .L2))
    (x := x.withParts ((x.parts.set .L1 (read .L1)).set .L2 (read .L2))) (ph := .L3) (f := f .L3) apart live (parts .L3)
  rw [readPart_noteRead, readPart_noteRead, State.placing_noteRead, State.placing_noteRead, State.placing_noteRead,
    State.placing_noteRead] at three
  change (((s.placing front back x).rereadPart x.handle .L1).rereadPart x.handle .L2).rereadPart x.handle .L3 = _
  rw [one]
  refine (congrArg (State.rereadPart · x.handle .L3) two).trans ?_
  exact three

/-! ### The handle and the command (R2, R4) -/

theorem nextHandle_of_free {used : List Nat} {h : Nat} (free : handleAfter h ∉ used) (n : Nat) :
    nextHandle used n h = handleAfter h := by
  cases n with
  | zero => rfl
  | succ n => rw [nextHandle, if_neg (by simpa using free)]

theorem classByte_of_read {b : Byte} {c : EntryClass} (read : readClass b = some c) : classByte c = b := by
  unfold readClass at read
  split at read
  · next zero =>
      cases read
      exact (BitVec.eq_of_toNat_eq (y := 0#8) zero).symm
  · next one =>
      cases read
      exact (BitVec.eq_of_toNat_eq (y := 1#8) one).symm
  · cases read

theorem readSubmitArgs_eq {a : SubmitArgs} {now : Nat} {x : Action} {c : EntryClass} (read : readSubmitArgs a now = some (x, c)) :
    readAction a.action a.duration = some x ∧ classByte c = a.cls := by
  unfold readSubmitArgs at read
  split at read
  · next action cls =>
      split at read
      · cases read
      · cases read
        exact ⟨action, classByte_of_read cls⟩
  · cases read

/-! ### Admission (R11) -/

/-- The state an admitted entry joins: its command answered, its handle assigned. -/
def State.admitting (s : State) (p : Port) (tag : Byte) (e : Entry) : State :=
  State.reply { s with lastHandle := e.handle } p 0x01 tag .ok
    (be 2 e.handle ++ be 6 e.firstLs ++ [flagByte e.lateAdmission])

theorem State.joined_eq {tag : Byte} (inserted : insertEntry e s.calendar = front ++ e :: back) :
    s.joined p tag e = (s.admitting p tag e).placing front back e := by
  rw [State.joined, inserted]
  rfl

/-- An entry as admission leaves it, the parts' states read (R11). -/
def State.admittedParts (s : State) (e : Entry) : Entry :=
  let read (ph : Phase) : Part := readPart s e.group ph (s.plan e.group e.cls e.activation ph)
  e.withParts ⟨read .L1, read .L2, read .L3⟩

theorem State.admittedParts_get (s : State) (e : Entry) (ph : Phase) :
    (s.admittedParts e).parts.get ph = readPart s e.group ph (s.plan e.group e.cls e.activation ph) := by
  cases ph <;> rfl

/-- The state once the parts of an admitted entry are read, and the finished ones are noted (R7, R11). -/
def State.admittedNoted (s : State) (p : Port) (tag : Byte) (front back : List Entry) (e : Entry) : State :=
  let v := s.admittedParts e
  ((((s.admitting p tag e).placing front back v).noteRead v .L1 v.parts.l1).noteRead v .L2 v.parts.l2).noteRead v .L3 v.parts.l3

theorem State.admitted_noted {tag : Byte} {a : SubmitArgs} {x : Action} {c : EntryClass} {e : Entry}
    (admitted : e = s.admittedEntry p tag a x c) (inserted : insertEntry e s.calendar = front ++ e :: back)
    (apart : ∀ y ∈ front ++ back, y.handle ≠ e.handle) :
    (s.joined p tag e).rereadParts e.handle = s.admittedNoted p tag front back e := by
  have parts (ph : Phase) : e.parts.get ph = Part.admitted (s.plan e.group e.cls e.activation ph) := by
    subst admitted
    cases ph <;> rfl
  rw [State.joined_eq inserted, State.rereadParts_admitted (s := s.admitting p tag e) apart (by rw [admitted]; rfl) parts]
  rfl

theorem State.noteRead_frame (s : State) (e : Entry) (ph : Phase) (q : Part) : PortsFrame s (s.noteRead e ph q) := by
  unfold State.noteRead
  split
  · exact s.offer_ports _ _
  · exact .refl s

theorem State.admittedNoted_frame (s : State) (p : Port) (tag : Byte) (front back : List Entry) (e : Entry) :
    PortsFrame ((s.admitting p tag e).placing front back (s.admittedParts e)) (s.admittedNoted p tag front back e) :=
  ((State.noteRead_frame _ _ _ _).trans (State.noteRead_frame _ _ _ _)).trans (State.noteRead_frame _ _ _ _)

theorem State.admittedNoted_calendar (s : State) (p : Port) (tag : Byte) (front back : List Entry) (e : Entry) :
    (s.admittedNoted p tag front back e).calendar = front ++ s.admittedParts e :: back := by
  rw [State.admittedNoted_frame]
  rfl

/-- What follows the reading of an admitted entry's parts: nothing while one is open, and else its outcome, COMPLETE (R9,
R23). -/
theorem State.admitted_settles {tag : Byte} {a : SubmitArgs} {x : Action} {c : EntryClass} {e : Entry}
    (admitted : e = s.admittedEntry p tag a x c) (calendar : s.calendar = front ++ back)
    (inserted : insertEntry e s.calendar = front ++ e :: back) (fresh : ∀ y ∈ s.calendar, y.handle ≠ e.handle) :
    let t := s.admitted p tag a x c
    let v := s.admittedParts e
    let noted := s.admittedNoted p tag front back e
    (v.allFinished = false → t = noted) ∧
      (v.allFinished = true → retires noted t v ∧ v.decided = .complete ∧
        (t.calendar = s.calendar ∨ ∃ y, y.handle = v.handle ∧ t.calendar = front ++ y :: back) ∧ CalFrame noted t) := by
  intro t v noted
  have apart : ∀ y ∈ front ++ back, y.handle ≠ e.handle := fun y hy => fresh y (calendar ▸ hy)
  have placed : noted.calendar = front ++ v :: back := s.admittedNoted_calendar p tag front back e
  have found : noted.entry? e.handle = some v :=
    (State.entry?_of_same (t := noted) (s := s.placing front back v) placed).trans (State.entry?_placing (x := v) apart)
  have settled : t = (noted.settleEntry e.handle).retireSince s := by
    have admits : t = (((s.joined p tag e).rereadParts e.handle).settleEntry e.handle).retireSince s := by
      rw [admitted]
      exact State.admitted_eq s p tag a x c
    rw [admits, State.admitted_noted admitted inserted apart]
  have undecided : v.outcome = none := by
    rw [show v = s.admittedParts e from rfl, admitted]
    rfl
  have live : v.cancelled = false := by
    rw [show v = s.admittedParts e from rfl, admitted]
    rfl
  have unconfirmed : v.confirmation = none := by
    rw [show v = s.admittedParts e from rfl, admitted]
    rfl
  refine ⟨fun open_ => ?_, fun finished => ?_⟩
  · rw [settled, State.settleEntry_of_open found open_]
    refine State.retireSince_of_old fun y hy has => ?_
    rw [placed] at hy
    by_cases same : y = v
    · rw [same, undecided] at has
      cases has
    · refine ⟨y, ?_, rfl, has⟩
      rw [calendar]
      simpa [same] using hy
  · have unsent : ¬ (!v.cancelled && v.confirm && v.anySent) = true := by
      rw [Bool.and_eq_true, Entry.anySent_iff]
      rintro ⟨-, ph, some_⟩
      rw [State.admittedParts_get] at some_
      exact absurd some_ (Nat.lt_irrefl 0)
    rw [settled, State.settleEntry_of_ended found finished undecided unconfirmed, if_neg unsent]
    have joins := retires_placed (s := s) (u := noted) (e := v) placed apart undecided (fun y hy => calendar ▸ hy)
      (fun y hy same => absurd same (fresh y hy)) rfl rfl
    refine ⟨joins.2, ?_, ?_, (State.decideOutcome_cal noted e.handle).trans (State.retireSince_cal _ s)⟩
    · have none_ : v.noneNeeded = true := (Entry.noneNeeded_iff v).mpr fun q hq => by
        have each (ph : Phase) : (v.parts.get ph).finish = some .notNeeded := by
          have ended := (Entry.allFinished_iff v).mp finished ph
          rw [State.admittedParts_get] at ended ⊢
          unfold readPart at ended ⊢
          dsimp only at ended ⊢
          split_ifs at ended with ahead need
          rw [if_neg (by simp [ahead, need])]
        rw [Tri.toList, List.mem_cons, List.mem_cons, List.mem_singleton] at hq
        obtain rfl | rfl | rfl := hq
        exacts [each .L1, each .L2, each .L3]
      rw [Entry.decided, live, none_]
      rfl
    · have decided : (noted.decideOutcome v.handle).calendar = front ++ v.retired :: back := by
        rw [State.decideOutcome, State.modEntry_placed placed apart, undecided]
        rfl
      have left : (front ++ v.retired :: back).filter (fun y => y.handle != v.handle) = front ++ back := by
        rw [List.filter_append, List.filter_cons_of_neg (by simp [Entry.retired]), ← List.filter_append, List.filter_eq_self]
        exact fun y hy => bne_iff_ne.mpr (apart y hy)
      rw [show e.handle = v.handle from rfl, joins.1]
      obtain same | gone := (noted.decideOutcome v.handle).joinRetirement_calendar v.handle
      · exact .inr ⟨v.retired, rfl, same.trans decided⟩
      · exact .inl (by rw [gone, decided, left, calendar])

theorem State.lateParts_iff (s : State) (e : Entry) : s.lateParts e = true ↔
    ∃ ph, 0 < (s.figures e.group ph).members ∧ (e.parts.get ph).ls < s.clock.millis := by
  unfold State.lateParts State.needed State.now
  rw [List.any_eq_true]
  constructor
  · rintro ⟨ph, -, late⟩
    exact ⟨ph, by simpa using late⟩
  · rintro ⟨ph, late⟩
    exact ⟨ph, by cases ph <;> simp [phases], by simpa using late⟩

/-- SUBMIT where its port takes it and every test passes. -/
theorem exec_submit {tag : Byte} {a : SubmitArgs} {x : Action} {c : EntryClass} (takes : s.takes p (.submit p tag a))
    (passes : s.submitRefusal p a = none) (read : readSubmitArgs a s.clock.millis = some (x, c)) :
    exec (.submit p tag a) s = .next ((s.popFrame p).admitted p tag a x c) := by
  refine (exec_of_takes takes rfl).trans (congrArg _ ?_)
  rw [show (s.popFrame p).submitRefusal p a = none from passes, show readSubmitArgs a (s.popFrame p).now = some (x, c) from read]

/-- Settles O29. -/
theorem submitAdmits : Obligations.SubmitAdmits := by
  intro p tag a s takes set inRange permitted early fresh quota room
  have passes : s.submitRefusal p a = none := by
    classical
    rw [State.submitRefusal_eq]
    simp [set, inRange, permitted, early, fresh, Nat.not_le.mpr quota, Nat.not_le.mpr room]
  obtain ⟨⟨x, c⟩, read⟩ := Option.isSome_iff_exists.mp ((readSubmitArgs_isSome_iff a s.clock.millis).mpr inRange)
  obtain ⟨action, cls⟩ := readSubmitArgs_eq read
  obtain ⟨e, admitted⟩ : ∃ e, e = (s.popFrame p).admittedEntry p tag a x c := ⟨_, rfl⟩
  obtain ⟨before, after, calendar, inserted, sooner, later⟩ := insertEntry_split e (s.popFrame p).calendar
  have new : ∀ y ∈ (s.popFrame p).calendar, y.handle ≠ e.handle := fun y hy same => by
    refine State.assignHandle_fresh (s := s.popFrame p) room ?_
    rw [show (s.popFrame p).assignHandle = e.handle by rw [admitted]; rfl, ← same]
    exact List.mem_map_of_mem hy
  obtain ⟨goes, ends⟩ := State.admitted_settles (s := s.popFrame p) admitted calendar inserted new
  refine ⟨_, (s.popFrame p).admittedParts e, before, after, exec_submit takes passes read, ?_, calendar, ?_, ?_, ?_, ?_, ?_, ?_, ?_⟩
  · refine ⟨?_, ?_, new, ?_⟩
    · rw [admitted]
      exact (nextHandle_pos _ _ _).1
    · rw [admitted]
      exact (nextHandle_pos _ _ _).2
    · intro next free
      rw [admitted]
      refine nextHandle_of_free (fun taken => ?_) _
      obtain ⟨y, hy, same⟩ := List.mem_map.mp taken
      exact free y hy same
  · exact sooner
  · exact fun y hy => later y hy
  · rw [admitted]
    exact ⟨rfl, rfl, rfl, rfl, action, cls, rfl, rfl⟩
  · rw [admitted]
    exact ⟨rfl, rfl, rfl, rfl, rfl, rfl, rfl⟩
  · intro ph
    rw [State.admittedParts_get]
    rfl
  · have late : e.lateAdmission = (s.popFrame p).lateParts e := by
      subst admitted
      rfl
    have same : ((s.popFrame p).admittedParts e).lateAdmission = e.lateAdmission := rfl
    rw [same, late, State.lateParts_iff]
    refine exists_congr fun ph => and_congr_right fun _ => ?_
    have part : (((s.popFrame p).admittedParts e).parts.get ph).ls = (e.parts.get ph).ls := by
      rw [State.admittedParts_get, admitted]
      cases ph <;> rfl
    rw [part]
    rfl
  · intro replied note noted allFinished
    have noted_eq : noted = (s.popFrame p).admittedNoted p tag before after e := by
      subst admitted
      rfl
    have all : allFinished ↔ ((s.popFrame p).admittedParts e).allFinished = true := (Entry.allFinished_iff _).symm
    rw [noted_eq]
    refine ⟨fun open_ => goes (by rw [← Bool.not_eq_true, ← all]; exact open_), fun done => ?_⟩
    obtain ⟨retired, complete, place, frame⟩ := ends (all.mp done)
    refine ⟨retired, fun o table => ((outcomeByTable_iff _ o).mp table).trans complete, place, ?_⟩
    rw [frame, (s.popFrame p).admittedNoted_frame p tag before after e]
    rfl

end Sys2Proof.Machine
end

section
/-! PROOFS. The loss of a phase (R57, R158). -/

namespace Sys2Proof.Machine

variable {s t u : State} {ph : Phase} {e : Entry} {h : Nat}

/-! ### The ping in flight (R94) -/

theorem setInFlight_of_first {st : PingState} {front back : List PingRec} {z : PingRec}
    (none : ∀ x ∈ front, x.state ≠ .inFlight) (flying : z.state = .inFlight) :
    setInFlight st (front ++ z :: back) = front ++ { z with state := st } :: back := by
  induction front with
  | nil => exact if_pos flying
  | cons x rest ih =>
      rw [List.cons_append, setInFlight, if_neg (none x List.mem_cons_self),
        ih fun y hy => none y (List.mem_cons_of_mem _ hy)]
      rfl

theorem inFlightPing_of_first {front back : List PingRec} {z : PingRec} (none : ∀ x ∈ front, x.state ≠ .inFlight)
    (flying : z.state = .inFlight) : inFlightPing (front ++ z :: back) = some z := by
  unfold inFlightPing
  rw [List.find?_append, List.find?_eq_none.mpr (by simpa using none), List.find?_cons_of_pos (by simp [flying])]
  rfl

/-! ### The work that is abandoned (R57, R86, R94, R126, R127) -/

theorem State.modChan_lost (s : State) (ph : Phase) :
    s.modChan ph (fun c => { c with state := .offline, work := none, gapLeft := none, quiet := false }) =
      s.modChan ph Channel.lost := rfl

/-- What abandoning a channel's work can change. -/
theorem State.abandonWork_within (s : State) (ph : Phase) :
    Within [.ports, .calendar, .retirement, .channels, .pings, .discovery] s (s.abandonWork ph) := by
  have lost : Within [.ports, .calendar, .retirement, .channels, .pings, .discovery] s (s.modChan ph Channel.lost) :=
    (State.modChan_within s ph _).mono (by decide)
  refine lost.trans ?_
  unfold State.abandonWork
  rw [State.modChan_lost]
  dsimp only
  generalize s.modChan ph Channel.lost = a
  split
  · unfold State.abandonFlood
    split
    · split
      · split
        · exact Within.then (State.modChan_within a ph _)
            ((State.finishPart_cal _ _ _ _).trans (State.settleEntry_cal _ _)).within (by decide)
        · exact .refl _ a
      · exact .refl _ a
    · exact .refl _ a
  · unfold State.abandonExchange
    split
    · split
      · split
        · exact .refl _ a
        · exact (State.settleConfirm_cal _ _).within.mono (by decide)
      · exact .refl _ a
    · exact .refl _ a
    · exact (State.requeueInFlight_within a ph).mono (by decide)
    · exact (State.modDisc_within a ph _).mono (by decide)
  · exact (State.modDisc_within a ph _).mono (by decide)
  · exact .refl _ a

/-- The channel whose work is abandoned is OFFLINE, and its open part may have finished. -/
theorem State.abandonWork_chan (s : State) (ph : Phase) :
    ∃ openPart, (s.abandonWork ph).chan ph = { (s.chan ph).lost with openPart } := by
  have lost : (s.modChan ph Channel.lost).chan ph = { (s.chan ph).lost with openPart := (s.chan ph).openPart } :=
    State.chan_modChan_self _ _ _
  unfold State.abandonWork
  rw [State.modChan_lost]
  dsimp only
  generalize s.modChan ph Channel.lost = a at lost
  split
  · unfold State.abandonFlood
    split
    · split
      · split
        · refine ⟨none, ?_⟩
          rw [(State.settleEntry_cal _ _).chan_eq, (State.finishPart_cal _ _ _ _).chan_eq, State.chan_modChan_self, lost]
        · exact ⟨_, lost⟩
      · exact ⟨_, lost⟩
    · exact ⟨_, lost⟩
  · unfold State.abandonExchange
    split
    · split
      · split
        · exact ⟨_, lost⟩
        · exact ⟨_, by rw [(State.settleConfirm_cal _ _).chan_eq, lost]⟩
      · exact ⟨_, lost⟩
    · exact ⟨_, lost⟩
    · exact ⟨_, (State.chan_of_within (State.requeueInFlight_within a ph) (by decide) ph).trans lost⟩
    · exact ⟨_, lost⟩
  · exact ⟨_, lost⟩
  · exact ⟨_, lost⟩

theorem State.abandonWork_flood {f : Flood} (work : (s.chan ph).work = some (.flood f)) :
    s.abandonWork ph = (s.modChan ph Channel.lost).abandonFlood ph f := by
  rw [State.abandonWork, State.modChan_lost, work]

theorem State.abandonWork_exchange {x : Exchange} (work : (s.chan ph).work = some (.exchange x)) :
    s.abandonWork ph = (s.modChan ph Channel.lost).abandonExchange ph x := by
  rw [State.abandonWork, State.modChan_lost, work]

theorem State.abandonWork_probe {x : ProbeRun} (work : (s.chan ph).work = some (.probe x)) :
    s.abandonWork ph = (s.modChan ph Channel.lost).modDisc ph Discovery.abandonProbe := by
  rw [State.abandonWork, State.modChan_lost, work]

/-! ### The phase that is lost (R158) -/

/-- The record of a lost phase, and the channel's note of the loss. -/
def State.absent (s : State) (ph : Phase) : State :=
  (s.setPhaseRec ph PhaseRec.fresh).modChan ph (fun c => { c with absentSinceFlood := true, quiet := false })

theorem State.absent_chan (s : State) (ph : Phase) :
    (s.absent ph).chan ph = { s.chan ph with absentSinceFlood := true, quiet := false } := State.chan_modChan_self _ _ _

theorem State.absent_within (s : State) (ph : Phase) : Within [.mains, .channels] s (s.absent ph) := by
  intro b hb
  cases b <;> first | rfl | exact absurd (by decide) hb

theorem State.losePhase_eq (calm : (s.chan ph).haltPending = false) :
    s.losePhase ph =
      ((if (s.chan ph).state = .halted then s.absent ph else (s.absent ph).abandonWork ph).post (.phaseLoss ph)).checkDrained := by
  have chan := s.absent_chan ph
  obtain ⟨openPart, lost⟩ := (s.absent ph).abandonWork_chan ph
  have pending : (((s.absent ph).abandonWork ph).chan ph).haltPending = false := by
    rw [lost, chan]
    exact calm
  change State.checkDrained (State.post (if ((s.absent ph).chan ph).state = .halted then s.absent ph else
    if (((s.absent ph).abandonWork ph).chan ph).haltPending then ((s.absent ph).abandonWork ph).halt ph
      else (s.absent ph).abandonWork ph) (.phaseLoss ph)) = _
  rw [chan, pending]
  rfl

theorem State.lossDue_iff (s : State) (ph : Phase) : s.lossDue ph = true ↔ (s.phaseRec ph).present = true ∧
    ∃ c, (s.phaseRec ph).lastCrossing = some c ∧ c.instant + 40000 ≤ s.elapsed * 1000 := by
  unfold State.lossDue
  rw [Bool.and_eq_true]
  refine and_congr_right fun _ => ?_
  cases (s.phaseRec ph).lastCrossing with
  | none => simp
  | some c => exact decide_eq_true_iff.trans (by simp [Config.lossMicros])

/-- What the end of the event makes of the state in which the phase is lost and its work abandoned. -/
theorem phaseLoss_ends {b : State} (within : Within [.mains, .ports, .calendar, .retirement, .channels, .pings, .discovery] s b) :
    ∃ t, ((b.post (.phaseLoss ph)).checkDrained).retireSince s = t ∧
      t.faults.counters = s.faults.counters.set 5 (saturatingSucc 255 (s.faults.counters.getD 5 0)) ∧
      t.faults.generation = wrappingSucc 65535 s.faults.generation ∧ t.mains = b.mains ∧ t.channels = b.channels ∧
      t.pings = b.pings ∧ t.discovery = b.discovery ∧ (b.calendar = s.calendar → t.calendar = s.calendar) ∧
      { t with
        ports := s.ports, mains := s.mains, channels := s.channels, faults := s.faults, calendar := s.calendar,
        retirement := s.retirement, pings := s.pings, discovery := s.discovery, line := s.line } = s := by
  obtain ⟨t, is⟩ : ∃ t, ((b.post (.phaseLoss ph)).checkDrained).retireSince s = t := ⟨_, rfl⟩
  have drained : Within [.ports, .line] (b.post (.phaseLoss ph)) (b.post (.phaseLoss ph)).checkDrained := by
    intro k hk
    rw [State.checkDrained_frame]
    cases k <;> first | rfl | exact absurd (by decide) hk
  have posted := (b.post_fault (.phaseLoss ph)).within
  have retired := (((b.post (.phaseLoss ph)).checkDrained).retireSince_cal s).within
  rw [is] at retired
  have ended : Within [.ports, .faults, .line, .calendar, .retirement] b t :=
    (posted.then drained (ds := [.ports, .faults, .line]) (by decide)).then retired (by decide)
  have faults : t.faults = (b.post (.phaseLoss ph)).faults :=
    (retired .faults (by decide)).trans (drained .faults (by decide))
  have before : b.faults = s.faults := within .faults (by decide)
  have calendar : b.calendar = s.calendar → t.calendar = s.calendar := fun same => by
    have same' : (b.post (.phaseLoss ph)).checkDrained.calendar = s.calendar :=
      (drained .calendar (by decide)).trans ((posted .calendar (by decide)).trans same)
    rw [← is, State.retireSince_of_same same', same']
  have whole : Within [.mains, .ports, .calendar, .retirement, .channels, .pings, .discovery, .faults, .line] s t :=
    within.then ended (by decide)
  refine ⟨t, is, ?_, ?_, ended .mains (by decide), ended .channels (by decide), ended .pings (by decide), ended .discovery (by decide),
    calendar, ?_⟩
  · rw [faults, State.post_faults, before]
    rfl
  · rw [faults, State.post_faults, before]
  · exact whole.restore (by intro k hk; fin_cases hk <;> rfl)
      (by intro k hk; cases k <;> first | rfl | exact absurd (by decide) hk)

/-- Settles O43. -/
theorem phaseLossAbandonsTheWork : Obligations.PhaseLossAbandonsTheWork := by
  intro ph s r lost
  refine ⟨fun stays => congrArg _ (if_neg (mt (s.lossDue_iff ph).mp stays)), fun is calm => ?_⟩
  have run : exec (.phaseLoss ph) s = .next ((s.losePhase ph).retireSince s) :=
    congrArg _ (if_pos ((s.lossDue_iff ph).mpr is))
  rw [State.losePhase_eq calm] at run
  have absent := s.absent_within ph
  by_cases halted : (s.chan ph).state = .halted
  · rw [if_pos halted] at run
    obtain ⟨t, is, counters, generation, mains, channels, pings, discovery, -, frame⟩ :=
      phaseLoss_ends (ph := ph) (absent.mono (cs := [.mains, .ports, .calendar, .retirement, .channels, .pings, .discovery]) (by decide))
    rw [is] at run
    refine ⟨t, run, ?_, counters, generation, fun _ => ?_, fun not => absurd halted not, frame⟩
    · exact (congrArg (·.get ph) mains).trans (Tri.get_set_self _ _ _)
    · exact (congrArg (·.get ph) channels).trans (s.absent_chan ph)
  · rw [if_neg halted] at run
    have abandoned := (s.absent ph).abandonWork_within ph
    obtain ⟨t, is, counters, generation, mains, channels, pings, discovery, calendar, frame⟩ :=
      phaseLoss_ends (ph := ph) (absent.then abandoned
        (ds := [.mains, .ports, .calendar, .retirement, .channels, .pings, .discovery]) (by decide))
    rw [is] at run
    refine ⟨t, run, ?_, counters, generation, fun is => absurd is halted, fun _ => ⟨?_, ?_, ?_, ?_, ?_⟩, frame⟩
    · exact (congrArg (·.get ph) (mains.trans (abandoned .mains (by decide)))).trans (Tri.get_set_self _ _ _)
    · obtain ⟨openPart, lost⟩ := (s.absent ph).abandonWork_chan ph
      have chan := (congrArg (·.get ph) channels).trans (lost.trans (by rw [s.absent_chan]))
      rw [show t.chan ph = _ from chan]
      rfl
    · intro f h e work entry found reached live
      have stays : (s.absent ph).abandonWork ph = (s.absent ph).modChan ph Channel.lost := by
        refine (State.abandonWork_flood ((congrArg Channel.work (s.absent_chan ph)).trans work)).trans ?_
        rw [State.abandonFlood, entry]
        dsimp only
        rw [show ((s.absent ph).modChan ph Channel.lost).entry? h = some e from found]
        exact if_neg (by simp [reached, live])
      rw [stays] at calendar channels
      refine ⟨calendar rfl, ?_⟩
      rw [show t.chan ph = _ from (congrArg (·.get ph) channels).trans (State.chan_modChan_self _ _ _), s.absent_chan]
      rfl
    · intro x front z back work owner queue none_ flying kept
      have queue' : ((s.absent ph).modChan ph Channel.lost).pingQueue ph = front ++ z :: back := queue
      have stays : (s.absent ph).abandonWork ph =
          ((s.absent ph).modChan ph Channel.lost).modPings ph (setInFlight .queued) := by
        refine (State.abandonWork_exchange ((congrArg Channel.work (s.absent_chan ph)).trans work)).trans ?_
        rw [State.abandonExchange, owner]
        dsimp only
        rw [State.requeueInFlight, queue', inFlightPing_of_first none_ flying]
        exact if_neg (by simp [kept])
      rw [stays] at pings
      exact ((congrArg (·.get ph) pings).trans (State.pingQueue_modPings_self _ _ _)).trans
        (by rw [queue', setInFlight_of_first none_ flying])
    · intro x work owner
      have stays : (s.absent ph).abandonWork ph = ((s.absent ph).modChan ph Channel.lost).modDisc ph
          (fun d => { d with registration := (x.index, x.address) :: d.registration }) := by
        refine (State.abandonWork_exchange ((congrArg Channel.work (s.absent_chan ph)).trans work)).trans ?_
        rw [State.abandonExchange, owner]
      rw [stays] at discovery
      exact (congrArg (·.get ph) discovery).trans (State.disc_modDisc_self _ _ _)
    · intro x q work probe unstopped places
      have stays : (s.absent ph).abandonWork ph = ((s.absent ph).modChan ph Channel.lost).modDisc ph Discovery.abandonProbe :=
        State.abandonWork_probe ((congrArg Channel.work (s.absent_chan ph)).trans work)
      rw [stays] at discovery
      refine ((congrArg (·.get ph) discovery).trans (State.disc_modDisc_self _ _ _)).trans ?_
      change Discovery.abandonProbe (s.disc ph) = _
      unfold Discovery.abandonProbe
      rw [probe]
      dsimp only
      rw [unstopped, if_neg nofun]
      exact if_pos places

end Sys2Proof.Machine
end

section
/-! PROOFS. The review of the calendar at a clock step and at a second boundary (R16, R18, R113, R160 to R164). -/

namespace Sys2Proof.Machine

variable {s t u : State} {ph : Phase} {e x : Entry} {h : Nat}

/-! ### What a review makes of the parts of one entry (R14, R16) -/

/-- A part that a cut-off leaves as it is: with its flood in flight, or FINISHED (R16). -/
def Part.stopped (p : Part) : Prop := p.state = .sending ∨ p.state = .finished

theorem State.finishPart_stopped (found : s.entry? h = some e) (ph : Phase) (f : Finish) :
    ∃ p : Part, p.stopped ∧ (s.finishPart h ph f).entry? h = some { e with parts := e.parts.set ph p } := by
  obtain ⟨needed, after⟩ := State.finishPart_entry found ph f
  exact ⟨_, .inr rfl, after⟩

theorem State.stopPart_entry (found : s.entry? h = some e) (ph : Phase) :
    ∃ p : Part, p.stopped ∧ (s.stopPart h ph).entry? h = some { e with parts := e.parts.set ph p } := by
  have stays (done : (e.parts.get ph).stopped) :
      ∃ p : Part, p.stopped ∧ s.entry? h = some { e with parts := e.parts.set ph p } :=
    ⟨_, done, by rw [Tri.set_get, found]⟩
  have given (f : Finish) : ∃ p : Part, p.stopped ∧
      ((s.finishPart h ph f).modChan ph (·.giveUp h)).entry? h = some { e with parts := e.parts.set ph p } := by
    obtain ⟨p, done, after⟩ := State.finishPart_stopped found ph f
    exact ⟨p, done, (State.entry?_of_same rfl).trans after⟩
  unfold State.stopPart
  rw [found]
  dsimp only
  split
  · exact State.finishPart_stopped found ph _
  · exact State.finishPart_stopped found ph _
  · exact given _
  · rename_i sending
    split
    · exact stays (.inl sending)
    · exact given _
  · rename_i finished
    exact stays (.inr finished)

theorem State.stopParts_entry (found : s.entry? h = some e) :
    ∃ ps : Tri Part, (∀ ph, (ps.get ph).stopped) ∧ (s.stopParts h).entry? h = some { e with parts := ps } := by
  obtain ⟨p1, done1, found1⟩ := State.stopPart_entry found .L1
  obtain ⟨p2, done2, found2⟩ := State.stopPart_entry found1 .L2
  obtain ⟨p3, done3, found3⟩ := State.stopPart_entry found2 .L3
  exact ⟨⟨p1, p2, p3⟩, (Tri.forall_get _).mpr ⟨done1, done2, done3⟩, found3⟩

theorem State.rereadPart_entry (found : s.entry? h = some e) (ph : Phase) :
    ∃ p : Part, (s.rereadPart h ph).entry? h = some { e with parts := e.parts.set ph p } := by
  have stays : ∃ p : Part, s.entry? h = some { e with parts := e.parts.set ph p } := ⟨_, by rw [Tri.set_get, found]⟩
  have changed (f : Part → Part) : ∃ p : Part, (s.modPart h ph f).entry? h = some { e with parts := e.parts.set ph p } :=
    ⟨_, State.entry?_modPart found ph f⟩
  have finished (f : Finish) : ∃ p : Part, (s.finishPart h ph f).entry? h = some { e with parts := e.parts.set ph p } := by
    obtain ⟨p, -, after⟩ := State.finishPart_stopped found ph f
    exact ⟨p, after⟩
  unfold State.rereadPart
  rw [found]
  dsimp only
  split
  · split_ifs
    · exact changed _
    · exact finished _
    · exact stays
  · split_ifs
    · exact finished _
    · exact changed _
    · exact stays
  · exact stays

theorem State.rereadParts_entry (found : s.entry? h = some e) :
    ∃ ps : Tri Part, (s.rereadParts h).entry? h = some { e with parts := ps } := by
  obtain ⟨p1, found1⟩ := State.rereadPart_entry found .L1
  obtain ⟨p2, found2⟩ := State.rereadPart_entry found1 .L2
  obtain ⟨p3, found3⟩ := State.rereadPart_entry found2 .L3
  exact ⟨⟨p1, p2, p3⟩, found3⟩

/-- A review changes the parts of an entry alone, and notes the cut-off it reaches (R14, R16). -/
structure Entry.Reviewed (cutOff : Bool) (e x : Entry) : Prop where
  same : x = { e with parts := x.parts, cutOffReached := x.cutOffReached }
  reached : cutOff = true → x.cutOffReached = true ∧ ∀ ph, (x.parts.get ph).stopped

theorem State.reviewParts_entry (found : s.entry? h = some e) (recomputes cutOff : Bool) :
    ∃ x, (s.reviewParts recomputes cutOff h).entry? h = some x ∧ e.Reviewed cutOff x := by
  have replanned : ∃ ps : Tri Part,
      (if recomputes then s.modEntry h s.replanned else s).entry? h = some { e with parts := ps } := by
    split
    · exact ⟨_, State.entry?_modEntry_self (fun _ => rfl) found⟩
    · exact ⟨e.parts, found⟩
  obtain ⟨ps, found'⟩ := replanned
  unfold State.reviewParts
  dsimp only
  cases cutOff
  · rw [if_neg Bool.false_ne_true]
    obtain ⟨qs, found''⟩ := State.rereadParts_entry found'
    exact ⟨_, found'', rfl, nofun⟩
  · rw [if_pos rfl]
    have flagged := State.entry?_modEntry_self (f := fun e => { e with cutOffReached := true }) (fun _ => rfl) found'
    obtain ⟨qs, done, found''⟩ := State.stopParts_entry flagged
    exact ⟨_, found'', rfl, fun _ => ⟨rfl, done⟩⟩

/-! ### What then follows for the entry (R9, R23, R74) -/

/-- A change of an entry that leaves what it was admitted with, its parts, its sequence and its cut-off. -/
def Entry.Closed (e x : Entry) : Prop :=
  x = { e with
    cutShort := x.cutShort, confirmation := x.confirmation, outcome := x.outcome, record := x.record
    confirmStopped := x.confirmStopped }

theorem Entry.Closed.trans {e x y : Entry} (a : e.Closed x) (b : x.Closed y) : e.Closed y := by
  unfold Entry.Closed at a b ⊢
  rw [b, a]

theorem Entry.Closed.refl (e : Entry) : e.Closed e := rfl

/-- What follows for the entries, whatever handle is looked up. -/
abbrev Closes (h : Nat) : State → State → Prop := Traces Entry.Closed h

theorem Closes.after (a : Closes h s t) (b : Closes h t u) : Closes h s u := Traces.trans Entry.Closed.trans a b

section
variable (s : State) (h k : Nat)

theorem Closes.change {f : Entry → Entry} (closed : ∀ e, Entry.Closed e (f e)) : Closes h s (s.modEntry k f) :=
  .modEntry Entry.Closed.refl s h k (fun e => by rw [closed e]) fun _ e _ => closed e

theorem Closes.decideOutcome : Closes h s (s.decideOutcome k) := by
  refine .change s h k fun e => ?_
  split <;> rfl

theorem Closes.settleConfirm : Closes h s (s.settleConfirm k) := by
  unfold State.settleConfirm
  split
  · split_ifs
    · exact .of_same Entry.Closed.refl rfl
    · exact .decideOutcome s h k
    · exact (Closes.change s h k (f := s.countAllNotReached) fun _ => rfl).after (.decideOutcome _ h k)
    · exact .of_same Entry.Closed.refl rfl
    · exact .decideOutcome s h k
  · exact .of_same Entry.Closed.refl rfl

theorem Closes.judgeCutShort : Closes h s (s.judgeCutShort k) := by
  unfold State.judgeCutShort
  split
  · split
    · exact (Closes.change s h k (f := fun e => { e with cutShort := true, confirmStopped := true }) fun _ => rfl).after
        (.settleConfirm _ h k)
    · exact .of_same Entry.Closed.refl rfl
  · exact .of_same Entry.Closed.refl rfl

theorem Closes.foldl {α : Type} (f : State → α → State) (closes : ∀ s a, Closes h s (f s a)) (l : List α) :
    Closes h s (l.foldl f s) :=
  foldl_frame (Closes h) (fun _ => .of_same Entry.Closed.refl rfl) (fun a b => a.after b) f closes l s

theorem Closes.settleEntry : Closes h s (s.settleEntry k) := by
  unfold State.settleEntry
  split
  · split_ifs
    · exact .of_same Entry.Closed.refl rfl
    · have begun := Closes.change s h k (f := s.withProgress) fun _ => rfl
      have halted := Closes.foldl (s.modEntry k s.withProgress) h (fun s ph => s.modEntry k (s.endPhase ph))
        (fun s ph => .change s h k (f := s.endPhase ph) fun _ => rfl)
        (phases.filter fun ph => ((s.modEntry k s.withProgress).chan ph).state = .halted)
      exact (begun.after halted).after ((Closes.judgeCutShort _ h k).after (.settleConfirm _ h k))
    · exact .decideOutcome s h k
  · exact .of_same Entry.Closed.refl rfl

theorem Closes.reviewEntry : Closes h s (s.reviewEntry k) :=
  (Closes.settleEntry s h k).after (.judgeCutShort _ h k)

end

/-! ### The review of the calendar -/

theorem State.foldl_reviewParts_entry (recomputes : Bool) (cutOff : Entry → Bool) (es : List Entry)
    (nodup : (es.map (·.handle)).Nodup) (s : State) (he : e ∈ es) (found : s.entry? e.handle = some e) :
    ∃ x, (es.foldl (fun s e => s.reviewParts recomputes (cutOff e) e.handle) s).entry? e.handle = some x ∧
      e.Reviewed (cutOff e) x := by
  have others (es : List Entry) (s : State) {h : Nat} (apart : ∀ y ∈ es, y.handle ≠ h) :
      (es.foldl (fun s e => s.reviewParts recomputes (cutOff e) e.handle) s).entry? h = s.entry? h := by
    induction es generalizing s with
    | nil => rfl
    | cons y rest ih =>
        rw [List.foldl_cons, ih _ fun z hz => apart z (List.mem_cons_of_mem _ hz)]
        exact (Edits.reviewParts s _ _ _).entry?_ne (apart y List.mem_cons_self).symm
  obtain ⟨front, back, rfl⟩ := List.append_of_mem he
  rw [List.map_append, List.map_cons, List.nodup_append] at nodup
  obtain ⟨-, after, before⟩ := nodup
  rw [List.foldl_append, List.foldl_cons, others back]
  · refine State.reviewParts_entry ?_ _ _
    rw [others front _ fun y hy => before _ (List.mem_map_of_mem hy) _ List.mem_cons_self, found]
  · intro y hy same
    exact (List.nodup_cons.mp after).1 (same ▸ List.mem_map_of_mem hy)

/-- Every entry that is still in the calendar after a review of all was in it before, and its parts were reviewed. -/
theorem State.review_entry (nodup : (s.calendar.map (·.handle)).Nodup) (recomputes : Bool) (cutOff : Entry → Bool) {y : Entry}
    (hy : y ∈ (s.review recomputes (fun _ => true) cutOff).calendar) :
    ∃ e ∈ s.calendar, ∃ x, e.Reviewed (cutOff e) x ∧ x.Closed y := by
  obtain ⟨-, -, kept⟩ := plans_workKeeps.review s recomputes (fun _ => true) cutOff
  have handles := (plans_workKeeps.review s recomputes (fun _ => true) cutOff).2.nodup nodup
  obtain ⟨e, he, fixed, -⟩ := kept nodup y hy
  have found := State.entry?_of_mem nodup he
  have stands := State.entry?_of_mem handles hy
  have all : s.calendar.filter (fun _ => true) = s.calendar := List.filter_eq_self.mpr fun _ _ => rfl
  obtain ⟨x, found', reviewed⟩ := State.foldl_reviewParts_entry recomputes cutOff s.calendar nodup s he found
  have closes := Closes.foldl (s.calendar.foldl (fun s e => s.reviewParts recomputes (cutOff e) e.handle) s) e.handle
    (fun s (e : Entry) => s.reviewEntry e.handle) (fun s e' => .reviewEntry s e.handle e'.handle) s.calendar
  unfold State.review at stands
  rw [all, Entry.fixed_handle fixed] at stands
  obtain gone | ⟨z, found'', closed⟩ := closes.2 x found'
  · rw [gone] at stands
    cases stands
  · rw [found''] at stands
    cases stands
    exact ⟨e, he, x, reviewed, closed⟩

theorem State.retireSince_subset (before : State) : ∀ e ∈ (s.retireSince before).calendar, e ∈ s.calendar :=
  foldl_frame (fun s t : State => ∀ e ∈ t.calendar, e ∈ s.calendar) (fun _ _ => id) (fun a b e he => a e (b e he)) _
    State.joinRetirement_subset _ s

end Sys2Proof.Machine
end

section
/-! PROOFS. SET TIME and SECOND_BOUNDARY (R16, R18, R40, R113, R160 to R164). -/

namespace Sys2Proof.Machine

variable {s t u : State} {ph : Phase} {e x y : Entry} {h : Nat}

/-! ### A review that ends an event of the clock (R16, R113) -/

/-- What an event of the clock ends with: a review of the calendar, the field-pending items that leave, and the
retirements. -/
def State.clockReview (t before : State) (recomputes : Bool) (cutOff : Entry → Bool) (leaves : Nat → Bool) : State :=
  ((t.review recomputes (fun _ => true) cutOff).dropField leaves).retireSince before

section
variable (before : State) (recomputes : Bool) (cutOff : Entry → Bool) (leaves : Nat → Bool)

theorem State.clockReview_within :
    Within [.ports, .calendar, .retirement, .channels, .groups] t (t.clockReview before recomputes cutOff leaves) := by
  have reviewed := (State.review_chan t recomputes (fun _ => true) cutOff).within
  have dropped := reviewed.then (ds := [.ports, .calendar, .retirement, .channels, .groups])
    (State.dropField_within _ leaves) (by decide)
  exact dropped.then (State.retireSince_within _ before) (by decide)

theorem State.clockReview_groups :
    (t.clockReview before recomputes cutOff leaves).groups =
      t.groups.map (fun g => { g with fieldPending := g.fieldPending.filter (fun a => !leaves a) }) := by
  refine ((State.retireSince_within _ before) .groups (by decide)).trans ?_
  unfold State.dropField
  dsimp only
  rw [(State.review_chan t recomputes (fun _ => true) cutOff).within .groups (by decide)]

theorem State.clockReview_entry (nodup : (t.calendar.map (·.handle)).Nodup)
    (hy : y ∈ (t.clockReview before recomputes cutOff leaves).calendar) :
    ∃ e ∈ t.calendar, ∃ x, e.Reviewed (cutOff e) x ∧ x.Closed y :=
  State.review_entry nodup recomputes cutOff 
    (State.retireSince_subset (s := State.dropField _ leaves) before y hy)

theorem State.clockReview_plansCurrent (nodup : (t.calendar.map (·.handle)).Nodup) :
    PlansCurrent (t.clockReview before true cutOff leaves) := by
  have handles := (plans_workKeeps.review t true (fun _ => true) cutOff).2.nodup nodup
  have reviewed := State.review_plansCurrent nodup (fun _ => true) cutOff fun _ _ tested => nomatch tested
  exact State.retireSince_plansCurrent before (((State.dropField_plans _ leaves).plansCurrent handles reviewed))

end

/-- An entry of a cut-off the event reaches has no part left that has not started or is SUSPENDED. -/
theorem Entry.Reviewed.cutOff {cutOff : Entry → Bool} (reviewed : e.Reviewed (cutOff e) x) (closed : x.Closed y)
    (reached : e.cutOff = y.cutOff → cutOff e = true) :
    y.cutOffReached = true ∧ ∀ ph, (y.parts.get ph).state = .sending ∨ (y.parts.get ph).state = .finished := by
  have same : e.cutOff = y.cutOff := by
    rw [closed, reviewed.same]
    rfl
  rw [closed]
  exact reviewed.reached (reached same)

/-! ### SET TIME (R18, R164) -/

/-- Settles O41. -/
theorem setTimeStepsTheClock : Obligations.SetTimeStepsTheClock := by
  intro p tag seconds millis s nodup taken
  have run := exec_of_takes taken rfl
  refine ⟨fun above => run.trans (congrArg _ (if_pos above)), fun inside => ?_⟩
  let t := s.answered p 0x19 tag .ok
    (be 4 (s.clock.millis / 1000) ++ be 2 (s.clock.millis % 1000) ++ [clockStateByte s.clock.isSet])
  let u : State := { t with clock := ⟨true, seconds.toNat * 1000 + millis.toNat⟩ }
  let v : State :=
    { u with
      calendar := u.calendar.map (fun (e : Entry) => { e with timeStepped := e.timeStepped || e.sequence.isSome }) }
  have handles : (v.calendar.map (·.handle)).Nodup := by
    show ((s.calendar.map (fun (e : Entry) => { e with timeStepped := e.timeStepped || e.sequence.isSome })).map
      (·.handle)).Nodup
    rw [List.map_map]
    exact nodup
  have origin {y : Entry} (hy : y ∈ (u.stepClock seconds.toNat).calendar) :=
    State.clockReview_entry u false (fun e => e.cutOff ≤ seconds.toNat) (· ≤ seconds.toNat) handles hy
  refine ⟨u.stepClock seconds.toNat, run.trans (congrArg _ (if_neg (by exact Nat.not_lt.mpr inside))), ?_, ?_, ?_, ?_, ?_, ?_⟩
  · exact State.stepClock_within u _ .clock (by decide)
  · refine Grows.replyThenNotices ?_
    exact Grows.after (State.stepClock_grows (fun _ _ => rfl) _ _) rfl
  · intro y hy sequenced
    obtain ⟨e, he, x, reviewed, closed⟩ := origin hy
    obtain ⟨e, -, rfl⟩ := List.mem_map.mp he
    rw [closed, reviewed.same] at sequenced ⊢
    have : e.sequence.isSome = true := sequenced
    simp [this]
  · intro y hy reached
    obtain ⟨e, he, x, reviewed, closed⟩ := origin hy
    exact reviewed.cutOff (cutOff := fun e => e.cutOff ≤ seconds.toNat) closed fun same => by
      simpa [same] using reached
  · refine (State.clockReview_groups u false _ _).trans (List.map_congr_left fun g _ => ?_)
    refine congrArg (fun l => { g with fieldPending := l }) (List.filter_congr fun a _ => ?_)
    exact (decide_not (p := a ≤ seconds.toNat)).symm.trans (decide_eq_decide.mpr Nat.not_le)
  · refine Within.restore (bs := [.ports, .clock, .calendar, .retirement, .channels, .groups]) (t := u.stepClock seconds.toNat) ?_
      (by intro b hb; fin_cases hb <;> rfl) (by intro b hb; cases b <;> first | rfl | exact absurd (by decide) hb)
    refine Within.then (t := u) (bs := [.ports, .clock]) ?_ (State.stepClock_within u _) (by decide)
    exact Within.then (s.answered_within p _ _ _ _) (bs := [.ports]) (cs := [.clock]) (t := t)
      (by intro b hb; cases b <;> first | rfl | exact absurd (by decide) hb) (by decide)

/-! ### SECOND_BOUNDARY (R40, R160 to R163) -/

/-- The measured frequency of the lowest-numbered PRESENT phase (R160). -/
def State.measured (s : State) : Option Nat := s.referenceFrequency.map (·.2)

theorem State.measured_eq (s : State) :
    s.measured =
      let measured (r : PhaseRec) : Nat :=
        roundedQuotient (r.history.length * 50000000) (r.history.foldl (· + ·) 0)
      if s.mains.l1.present then some (measured s.mains.l1) else if s.mains.l2.present then some (measured s.mains.l2)
      else if s.mains.l3.present then some (measured s.mains.l3) else none := by
  have of_present {ph : Phase} (first : s.reference = some ph) (present : (s.phaseRec ph).present = true) :
      s.measured =
        some (roundedQuotient ((s.phaseRec ph).history.length * 50000000) ((s.phaseRec ph).history.foldl (· + ·) 0)) := by
    unfold State.measured State.referenceFrequency
    rw [first]
    dsimp only
    unfold PhaseRec.frequency
    rw [if_pos present]
    rfl
  have reference : s.reference = [Phase.L1, .L2, .L3].find? (fun ph => (s.phaseRec ph).present) := rfl
  dsimp only
  split_ifs with one two three
  · refine of_present (ph := .L1) (reference.trans (List.find?_cons_of_pos one)) one
  · refine of_present (ph := .L2) (reference.trans ?_) two
    rw [List.find?_cons_of_neg (by exact one), List.find?_cons_of_pos (by exact two)]
  · refine of_present (ph := .L3) (reference.trans ?_) three
    rw [List.find?_cons_of_neg (by exact one), List.find?_cons_of_neg (by exact two), List.find?_cons_of_pos (by exact three)]
  · have absent : s.reference = none := by
      rw [reference, List.find?_cons_of_neg (by exact one), List.find?_cons_of_neg (by exact two),
        List.find?_cons_of_neg (by exact three)]
      rfl
    unfold State.measured State.referenceFrequency
    rw [absent]
    rfl

theorem State.refreshedPlanFrequency_eq (s : State) :
    s.refreshedPlanFrequency =
      (match s.measured with
        | some f => max 4500 (min 6500 f)
        | none => s.settings.nominal) := by
  have held (f : Nat) : holdWithin Config.planFrequencyLow Config.planFrequencyHigh f = max 4500 (min 6500 f) := by
    unfold holdWithin
    show (if f < 4500 then 4500 else if 6500 < f then 6500 else f) = _
    split_ifs <;> omega
  unfold State.refreshedPlanFrequency State.measured
  cases s.referenceFrequency with
  | none => rfl
  | some x => exact held x.2

/-- The excursion is judged by the measured frequency, and FREQUENCY RANGE counted where the flag becomes set (R161). -/
theorem State.judgeExcursion_fields (s : State) :
    s.judgeExcursion.excursion = s.measured.any outOfRange ∧
      if s.measured.any outOfRange = true ∧ s.excursion = false then
        s.judgeExcursion.faults.counters = s.faults.counters.set 6 (saturatingSucc 255 (s.faults.counters.getD 6 0))
      else s.judgeExcursion.faults = s.faults := by
  unfold State.judgeExcursion State.measured
  cases s.referenceFrequency with
  | none => exact ⟨rfl, rfl⟩
  | some x =>
      obtain ⟨ph, f⟩ := x
      rw [Option.map_some, Option.any_some]
      dsimp only
      split_ifs with out was both both both
      · exact absurd (was.symm.trans both.2) (by decide)
      · exact ⟨was.trans out.symm, rfl⟩
      · rw [State.post_faults, State.post_fault]
        exact ⟨out.symm, rfl⟩
      · exact absurd ⟨out, by simpa using was⟩ both
      · exact absurd both.1 out
      · exact ⟨by simpa using out, rfl⟩

theorem outOfRange_eq : outOfRange = fun f => decide (f < 4500 ∨ 6500 < f) :=
  funext fun f => (Bool.decide_or (f < 4500) (6500 < f)).symm

/-- Settles O44. -/
theorem secondBoundaryRefreshesAndCutsOff : Obligations.SecondBoundaryRefreshesAndCutsOff := by
  intro s nodup
  have run : exec .secondBoundary s =
    .next (if s.clockEnded then s else s.toNextSecond.crossSecond (s.clock.millis / 1000 + 1)) := rfl
  have ended : s.clockEnded = true ↔ 4294967295 < s.clock.millis / 1000 + 1 := decide_eq_true_iff.trans Nat.lt_succ_iff.symm
  refine ⟨fun above => run.trans (congrArg _ (if_pos (ended.mpr above))), fun inside => ?_⟩
  have goes : exec .secondBoundary s = .next (s.toNextSecond.crossSecond (s.clock.millis / 1000 + 1)) :=
    run.trans (congrArg _ (if_neg fun is => Nat.not_lt.mpr inside (ended.mp is)))
  have reference := s.toNextSecond.measured_eq
  have planned := s.toNextSecond.crossSecond_fPlan (s.clock.millis / 1000 + 1)
  rw [State.refreshedPlanFrequency_eq] at planned
  let u : State := { s.toNextSecond with fPlan := s.toNextSecond.refreshedPlanFrequency }
  obtain ⟨excursion, counted⟩ := u.judgeExcursion_fields
  have calendar : u.judgeExcursion.calendar = s.calendar := u.judgeExcursion_within .calendar (by decide)
  have handles : (u.judgeExcursion.calendar.map (·.handle)).Nodup := calendar ▸ nodup
  have within := u.judgeExcursion.clockReview_within s.toNextSecond true
    (fun e => e.cutOff = s.clock.millis / 1000 + 1) (· = s.clock.millis / 1000 + 1)
  have whole := s.toNextSecond.crossSecond_within (s.clock.millis / 1000 + 1)
  refine ⟨_, goes, whole .clock (by decide), ?_, ?_, ?_, ?_, ?_, ?_, ?_⟩
  · rw [reference] at planned
    exact planned
  · rw [show u.measured = s.toNextSecond.measured from rfl, reference, outOfRange_eq] at excursion
    exact (within .excursion (by decide)).trans excursion
  · rw [show u.measured = s.toNextSecond.measured from rfl, reference, outOfRange_eq] at counted
    rw [show (s.toNextSecond.crossSecond (s.clock.millis / 1000 + 1)).faults = u.judgeExcursion.faults from
      within .faults (by decide)]
    exact counted
  · exact State.clockReview_plansCurrent _ _ _ handles
  · intro y hy reached
    obtain ⟨e, he, x, reviewed, closed⟩ := State.clockReview_entry _ _ _ _ handles hy
    exact reviewed.cutOff (cutOff := fun e => e.cutOff = s.clock.millis / 1000 + 1) closed fun same => by
      simpa [same] using reached
  · refine (u.judgeExcursion.clockReview_groups s.toNextSecond true _ _).trans ?_
    rw [show u.judgeExcursion.groups = s.groups from u.judgeExcursion_within .groups (by decide)]
    refine List.map_congr_left fun g _ => congrArg (fun l => { g with fieldPending := l }) ?_
    exact List.filter_congr fun a _ => (decide_not (p := a = s.clock.millis / 1000 + 1)).symm
  · refine Within.restore
      (bs := [.elapsed, .clock, .fPlan, .excursion, .faults, .ports, .calendar, .retirement, .channels, .groups])
      (t := s.toNextSecond.crossSecond (s.clock.millis / 1000 + 1)) ?_
      (by intro b hb; fin_cases hb <;> rfl) (by intro b hb; cases b <;> first | rfl | exact absurd (by decide) hb)
    refine Within.then (t := s.toNextSecond) (bs := [.elapsed, .clock]) ?_ whole (by decide)
    intro b hb
    cases b <;> first | rfl | exact absurd (by decide) hb

end Sys2Proof.Machine
end

section
/-! PROOFS. What an IDLE channel starts at a crossing: a part, and its open or its suspended part (R60, R64, R65, R68 to
R71). -/

namespace Sys2Proof.Machine

variable {s t u v : State} {ph : Phase} {e x : Entry} {h : Nat}

/-! ### A crossing at an IDLE channel (R60, R156) -/

theorem Channel.countCrossing_idle {c : Channel} (work : c.work = none) (gap : c.gapLeft = none) (bufferBad : Bool) :
    c.countCrossing bufferBad = { c with crossings := c.crossings + 1, bufferBad } := by
  unfold Channel.countCrossing
  rw [work, gap]
  rfl

theorem State.reportCrossing_idle {instant : Nat} (idle : idleAt s ph instant) (noise : Int) (bufferBad : Bool) :
    s.reportCrossing ph instant noise bufferBad = ((crossed s ph instant bufferBad).atCrossing ph).markQuiet ph := by
  obtain ⟨present, ⟨c, last, low, high⟩, -, state, work, gap, survey⟩ := idle
  have handed (r : PhaseRec) : (s.setPhaseRec ph r).handCrossing ph noise bufferBad =
      (State.atCrossing
        { s with
          mains := s.mains.set ph r
          channels := s.channels.set ph { s.chan ph with crossings := (s.chan ph).crossings + 1, bufferBad } }
        ph).markQuiet ph := by
    unfold State.handCrossing
    dsimp only
    rw [State.sampleSlot_of_still (s := s.setPhaseRec ph r) noise fun samples => survey samples.1, ← Channel.countCrossing_idle work gap]
    rfl
  rw [State.reportCrossing_of_accepted last low fun _ => high]
  unfold State.acceptCrossing crossed
  dsimp only
  rw [if_pos present, handed, last]
  dsimp only
  by_cases short : instant - c.instant ≤ 12000
  · rw [if_pos (by exact short), if_pos short]
    rfl
  · rw [if_neg (by exact short), if_neg short]

theorem execZeroCrossing_idle {micros : Nat} (idle : idleAt s ph (s.elapsed * 1000 + micros)) (noise : Int) (bufferBad : Bool) :
    exec (.zeroCrossing ph micros noise bufferBad) s =
      .next ((((crossed s ph (s.elapsed * 1000 + micros) bufferBad).atCrossing ph).markQuiet ph).retireSince s) := by
  rw [execZeroCrossing_eq, State.reportCrossing_idle idle]

theorem crossed_crossingNow (s : State) (ph : Phase) (instant : Nat) (bufferBad : Bool) :
    (crossed s ph instant bufferBad).crossingNow ph = s.clock.millis := by
  unfold State.crossingNow crossed State.phaseRec
  dsimp only
  rw [Tri.get_set_self]

theorem crossed_chan (s : State) (ph : Phase) (instant : Nat) (bufferBad : Bool) :
    (crossed s ph instant bufferBad).chan ph =
      { s.chan ph with crossings := (s.chan ph).crossings + 1, bufferBad } := Tri.get_set_self ..

theorem State.atCrossing_arbitrates (running : s.line = .running) (idle : (s.chan ph).state = .idle)
    (closed : (s.chan ph).openPart = none) : s.atCrossing ph = State.arbitrate arbiterRounds ph s := by
  unfold State.atCrossing
  dsimp only
  rw [if_neg (by simp [running, idle]), closed]

theorem State.atCrossing_resumes (running : s.line = .running) (idle : (s.chan ph).state = .idle)
    (open_ : (s.chan ph).openPart = some h) :
    s.atCrossing ph = if (s.chan ph).gapPassed s.settings.gap then s.resumeOpen h ph else s := by
  unfold State.atCrossing
  dsimp only
  rw [if_neg (by simp [running, idle]), open_]

theorem State.arbitrate_started {n : Nat} {c : Choice} (chosen : s.choose ph = some c) (served : s.serve ph c = .started t) :
    State.arbitrate (n + 1) ph s = t := by
  rw [State.arbitrate, chosen]
  dsimp only
  rw [served]

theorem State.arbitrate_goOn {n : Nat} {c : Choice} (chosen : s.choose ph = some c) (served : s.serve ph c = .goOn t) :
    State.arbitrate (n + 1) ph s = State.arbitrate n ph t := by
  rw [State.arbitrate, chosen]
  dsimp only
  rw [served]

theorem State.arbitrate_idle {n : Nat} (chosen : s.choose ph = none) : State.arbitrate (n + 1) ph s = s := by
  rw [State.arbitrate, chosen]

theorem State.markQuiet_idle (free : (s.chan ph).state = .idle) :
    s.markQuiet ph = s.modChan ph (fun c => { c with quiet := true }) := by
  have marked : { s.chan ph with quiet := (s.chan ph).state = .idle || (s.chan ph).state = .halted } =
      { s.chan ph with quiet := true } := by rw [free]; rfl
  exact congrArg (fun c => { s with channels := s.channels.set ph c }) marked

/-! ### A frame on the channel (R65) -/

/-- A channel that has started a frame is not quiet. -/
theorem State.markQuiet_sends (s : State) (ph : Phase) (w : Work) : (sends s ph w).markQuiet ph = sends s ph w := by
  simp only [sends, State.markQuiet, State.modChan, State.modLevel, State.chan, Tri.get_set_self, Tri.set_set]
  rfl

/-- A flood is of what the settings, the planning frequency and the code in force make of the entry and its part. -/
theorem floodFrom_congr (settings : v.settings = u.settings) (fPlan : v.fPlan = u.fPlan) (identity : v.identity = u.identity)
    (fixed : x.fixed = e.fixed)
    (part : (x.parts.get ph).depth = (e.parts.get ph).depth ∧ (x.parts.get ph).mode = (e.parts.get ph).mode ∧
      (x.parts.get ph).sent = (e.parts.get ph).sent) (q : Byte) (now : Nat) :
    floodFrom v x ph q now = floodFrom u e ph q now := by
  obtain ⟨depth, mode, sent⟩ := part
  simp only [Entry.fixed, Prod.mk.injEq] at fixed
  obtain ⟨handle, -, -, group, action, activation, -⟩ := fixed
  unfold floodFrom
  dsimp only
  rw [settings, fPlan, identity, depth, mode, sent, handle, group, action, activation]

/-! ### No outcome is decided (R25) -/

/-- Every entry that has an outcome had one before. -/
def OutcomesOld (s t : State) : Prop :=
  ∀ e ∈ t.calendar, e.outcome.isSome = true → ∃ x ∈ s.calendar, x.handle = e.handle ∧ x.outcome.isSome = true

theorem OutcomesOld.of_same (same : t.calendar = s.calendar) : OutcomesOld s t := fun e he outcome =>
  ⟨e, same ▸ he, rfl, outcome⟩

theorem OutcomesOld.on (old : OutcomesOld s t) (same : u.calendar = t.calendar) : OutcomesOld s u := fun e he =>
  old e (same ▸ he)

theorem OutcomesOld.modEntry (old : OutcomesOld s t) (h : Nat) {f : Entry → Entry}
    (kept : ∀ e, (f e).handle = e.handle ∧ (f e).outcome = e.outcome) : OutcomesOld s (t.modEntry h f) := by
  intro y hy outcome
  obtain ⟨e, he, rfl⟩ := List.mem_map.mp hy
  by_cases here : (e.handle == h) = true
  · rw [if_pos here] at outcome ⊢
    rw [(kept e).1]
    exact old e he ((kept e).2 ▸ outcome)
  · rw [if_neg here] at outcome ⊢
    exact old e he outcome

theorem OutcomesOld.modPart (old : OutcomesOld s t) (h : Nat) (ph : Phase) (f : Part → Part) :
    OutcomesOld s (t.modPart h ph f) := old.modEntry h fun _ => ⟨rfl, rfl⟩

theorem OutcomesOld.retireSince (old : OutcomesOld s t) : t.retireSince s = t := State.retireSince_of_old old

/-- What a crossing at an IDLE channel comes to where no outcome is decided at it. -/
theorem execZeroCrossing_comes {micros : Nat} {noise : Int} {bufferBad : Bool}
    (idle : idleAt s ph (s.elapsed * 1000 + micros))
    (acts : (crossed s ph (s.elapsed * 1000 + micros) bufferBad).atCrossing ph = v) (old : OutcomesOld s v) :
    exec (.zeroCrossing ph micros noise bufferBad) s = .next (v.markQuiet ph) := by
  rw [execZeroCrossing_idle idle, acts]
  exact congrArg _ (OutcomesOld.retireSince (old.on rfl))

theorem execZeroCrossing_sends {micros : Nat} {noise : Int} {bufferBad : Bool} {w : Work}
    (idle : idleAt s ph (s.elapsed * 1000 + micros))
    (acts : (crossed s ph (s.elapsed * 1000 + micros) bufferBad).atCrossing ph = sends v ph w) (old : OutcomesOld s v) :
    exec (.zeroCrossing ph micros noise bufferBad) s = .next (sends v ph w) := by
  rw [execZeroCrossing_comes idle acts (old.on rfl), State.markQuiet_sends]

/-! ### A part starts (R64, R65) -/

theorem insertActivation_eq (a : Nat) (l : List Nat) :
    insertActivation a l = l.takeWhile (· ≤ a) ++ a :: l.dropWhile (· ≤ a) := by
  induction l with
  | nil => rfl
  | cons b rest ih =>
      unfold insertActivation
      by_cases before : b ≤ a
      · rw [if_pos before, ih, List.takeWhile_cons_of_pos (by simpa using before),
          List.dropWhile_cons_of_pos (by simpa using before)]
        rfl
      · rw [if_neg before, List.takeWhile_cons_of_neg (by simpa using before),
          List.dropWhile_cons_of_neg (by simpa using before)]
        rfl

/-- What the start of an entry's part leaves before its frame: the entry has its sequence. -/
theorem State.startPart_from {b : State} {q : Byte} (found : b.entry? e.handle = some { e with sequence := some q })
    (settings : b.settings = u.settings) (fPlan : b.fPlan = u.fPlan) (identity : b.identity = u.identity)
    (mains : b.mains = u.mains) (clock : b.clock = u.clock) :
    ((b.modPart e.handle ph (fun p => { p with state := .sending, start := some (u.crossingNow ph) })).modChan ph
        (fun c => { c with openPart := some e.handle })).sendRepeat e.handle ph =
      sends
        ((b.modPart e.handle ph (fun p => { p with state := .sending, start := some (u.crossingNow ph) })).modChan ph
          (fun c => { c with openPart := some e.handle })) ph (.flood (floodFrom u e ph q (u.crossingNow ph))) := by
  have now : b.crossingNow ph = u.crossingNow ph := by
    unfold State.crossingNow State.phaseRec State.now
    rw [mains, clock]
  refine (State.sendRepeat_eq (s := (b.modPart _ ph _).modChan ph _)
    ((State.entry?_of_same rfl).trans (State.entry?_modPart found ph _)) ph).trans ?_
  refine congrArg (fun f => sends _ ph (.flood f)) ?_
  rw [show ((b.modPart e.handle ph _).modChan ph _).crossingNow ph = u.crossingNow ph from now]
  change floodFrom _ _ ph q _ = _
  refine floodFrom_congr settings fPlan identity (by rfl) ?_ q _
  rw [Entry.parts_modPart, if_pos rfl]
  exact ⟨rfl, rfl, rfl⟩

theorem State.beginSending_eq (now : s.crossingNow ph = s.now) (e : Entry) :
    s.beginSending e =
      State.offer
        ((s.modGroup e.group (fun r =>
          { r with
            sequence := (s.group e.group).sequence + 1
            fieldPending := if e.activation * 1000 ≤ s.crossingNow ph then (s.group e.group).fieldPending
              else (s.group e.group).fieldPending.takeWhile (· ≤ e.activation) ++ e.activation ::
                (s.group e.group).fieldPending.dropWhile (· ≤ e.activation) })).modEntry e.handle
          (fun x => { x with sequence := some ((s.group e.group).sequence + 1) }))
        e.origin (.notice .started (be 2 e.handle ++ [e.tag, byteOf e.group, (s.group e.group).sequence + 1])) := by
  unfold State.beginSending
  rw [now, ← insertActivation_eq]
  rfl

theorem State.startPart_starts (found : s.entry? h = some e) (now : s.crossingNow ph = s.now) :
    s.startPart h ph = startsPart s e ph (s.crossingNow ph) := by
  obtain rfl : e.handle = h := State.entry?_handle found
  unfold State.startPart startsPart
  rw [found]
  dsimp only
  cases sequence : e.sequence with
  | some q => exact State.startPart_from (b := s) (q := q) (by rw [found, ← sequence]) rfl rfl rfl rfl rfl
  | none =>
      refine (congrArg (fun b : State => ((b.modPart e.handle ph _).modChan ph _).sendRepeat e.handle ph)
        (State.beginSending_eq now e)).trans ?_
      have offered (v : State) (i : Item) := v.offer_within e.origin i
      refine State.startPart_from ?_ (offered _ _ .settings (by decide)) (offered _ _ .fPlan (by decide))
        (offered _ _ .identity (by decide)) (offered _ _ .mains (by decide)) (offered _ _ .clock (by decide))
      refine (State.entry?_of_same (offered _ _ .calendar (by decide))).trans ?_
      exact State.entry?_modEntry_self (s := s.modGroup e.group _) (fun _ => rfl) found

theorem OutcomesOld.of_startsPart (old : OutcomesOld s u) (e : Entry) (ph : Phase) (now : Nat) :
    OutcomesOld s (startsPart u e ph now) := by
  unfold startsPart
  dsimp only
  refine OutcomesOld.on (OutcomesOld.modPart ?_ e.handle ph _) rfl
  split
  · exact old
  · refine OutcomesOld.on ?_ (State.offer_within (s := State.modEntry _ _ _) _ _ .calendar (by decide))
    exact (old.on (u := u.modGroup e.group _) rfl).modEntry e.handle fun _ => ⟨rfl, rfl⟩

/-- The arbiter's choice of a part starts it. -/
theorem State.arbitrate_part (now : s.crossingNow ph = s.now) (chosen : s.choose ph = some (.part h))
    (found : s.entry? h = some e) : State.arbitrate arbiterRounds ph s = startsPart s e ph s.now := by
  exact (State.arbitrate_started (n := 255) chosen rfl).trans ((State.startPart_starts found now).trans (by rw [now]))

/-! ### A part resumes (R68 to R70) -/

/-- The suspended part resumes with its next repeat, as the open part (R70). -/
theorem State.resumePart_eq (found : s.entry? h = some e) :
    s.resumePart h ph =
      let v := (s.modPart h ph (fun p => { p with state := .sending })).modChan ph
        (fun c => { c with openPart := some h, suspendedPart := none })
      sends v ph (.flood (floodFrom v e ph (e.sequence.getD 0) (s.crossingNow ph))) := by
  unfold State.resumePart
  dsimp only
  refine (State.sendRepeat_eq (s := (s.modPart h ph _).modChan ph _)
    ((State.entry?_of_same rfl).trans (State.entry?_modPart found ph _)) ph).trans ?_
  refine congrArg (fun f => sends _ ph (.flood f)) ?_
  change floodFrom _ _ ph (e.sequence.getD 0) _ = _
  refine floodFrom_congr rfl rfl rfl (by rfl) ?_ _ _
  rw [Entry.parts_modPart, if_pos rfl]
  exact ⟨rfl, rfl, rfl⟩

theorem State.urgentDue_iff (s : State) (ph : Phase) :
    s.urgentDue ph = true ↔ ∃ y, inClass s ph (s.crossingNow ph) 1 y := by
  unfold State.urgentDue
  rw [Bool.not_eq_true', List.isEmpty_eq_false_iff_exists_mem]
  exact exists_congr fun y => mem_candidates_iff .urgent true _

theorem Channel.gapPassed_iff (c : Channel) (g : Nat) :
    c.gapPassed g = true ↔ ∀ k, c.lastFloodEnd = some k → c.absentSinceFlood = true ∨ k + g ≤ c.crossings := by
  unfold Channel.gapPassed
  cases c.lastFloodEnd <;> simp

/-- The tests of R68 and R69 on the open part of an IDLE channel. -/
theorem State.resumeOpen_eq (found : s.entry? h = some e) :
    s.resumeOpen h ph =
      if e.cutOff * 1000 ≤ s.crossingNow ph then (s.stopPart h ph).settleEntry h
      else if e.cls = .routine && s.urgentDue ph then State.arbitrate arbiterRounds ph (s.suspend h ph)
      else s.sendRepeat h ph := by
  unfold State.resumeOpen
  rw [found]

/-- Settles O49. -/
theorem partsStartAndResumeAtACrossing : Obligations.PartsStartAndResumeAtACrossing := by
  intro ph micros noise bufferBad s instant c now x u repeats waits idle nodup
  have run := execZeroCrossing_idle idle noise bufferBad
  obtain ⟨-, -, running, free, work, gap, -⟩ := id idle
  have chan : u.chan ph = { x with crossings := x.crossings + 1, bufferBad } := crossed_chan s ph instant bufferBad
  have free' : (u.chan ph).state = .idle := by rw [chan]; exact free
  have at_ : u.crossingNow ph = now := crossed_crossingNow s ph instant bufferBad
  have same : OutcomesOld s u := .of_same rfl
  have stood (h : Nat) : u.entry? h = s.entry? h := State.entry?_of_same rfl
  have begins {v : State} {e : Entry} (acts : u.atCrossing ph = startsPart v e ph now) (old : OutcomesOld s v) :
      exec c s = .next (startsPart v e ph now) := by
    have marked : (startsPart v e ph now).markQuiet ph = startsPart v e ph now := State.markQuiet_sends _ ph _
    exact (execZeroCrossing_comes idle acts (old.of_startsPart e ph now)).trans (congrArg _ marked)
  have quiet : u.markQuiet ph = waits := State.markQuiet_idle free'
  refine ⟨fun closed => ?_, ?_⟩
  · have arbiter : u.atCrossing ph = State.arbitrate arbiterRounds ph u :=
      State.atCrossing_arbitrates running free' (by rw [chan]; exact closed)
    refine ⟨fun h e chosen found => ?_, fun h e chosen found => ?_, fun chosen => ?_⟩
    · exact begins (arbiter.trans (State.arbitrate_part at_ chosen ((stood h).trans found))) same
    · refine execZeroCrossing_sends idle (arbiter.trans ((State.arbitrate_started (n := 255) chosen rfl).trans ?_)) ((same.modPart h ph _).on rfl)
      rw [State.resumePart_eq ((stood h).trans found), at_]
    · rw [← quiet]
      exact execZeroCrossing_comes idle (arbiter.trans (State.arbitrate_idle (n := 255) chosen)) (same.on rfl)
  · intro h e open_ found sending apart gapOver urgent aside
    have found' := (stood h).trans found
    have passed : (u.chan ph).gapPassed u.settings.gap = true ↔ gapOver := by
      rw [Channel.gapPassed_iff, chan]
      exact Iff.rfl
    have opens : u.atCrossing ph = if (u.chan ph).gapPassed u.settings.gap then u.resumeOpen h ph else u :=
      State.atCrossing_resumes running free' (by rw [chan]; exact open_)
    have resumes (past : gapOver) := (opens.trans (if_pos (passed.mpr past))).trans (State.resumeOpen_eq found')
    rw [at_] at resumes
    refine ⟨fun waiting => ?_, fun gone past => ?_, fun gone ahead routine due => ?_, fun gone ahead goes => ?_⟩
    · rw [← quiet]
      exact execZeroCrossing_comes idle (opens.trans (if_neg (passed.not.mpr waiting))) (same.on rfl)
    · have stops := (resumes gone).trans (if_pos past)
      obtain ⟨chan', entry⟩ := State.stopPart_ended (s := u) s (by rw [chan]; exact work) found' sending
      refine ⟨_, run.trans (congrArg (fun v : State => Host.Outcome.next ((v.markQuiet ph).retireSince s)) stops), chan'.trans ?_, entry⟩
      rw [show waits.chan ph = { u.chan ph with quiet := true } from State.chan_modChan_self .., chan]
      simp [Channel.giveUp, show x.openPart = some h from open_, apart, show x.gapLeft = none from gap,
        show x.state = .idle from free]
    · have tested : (e.cls = .routine && u.urgentDue ph) = true := by
        simp [routine, (State.urgentDue_iff u ph).mpr (at_ ▸ due)]
      have suspends := (resumes gone).trans ((if_neg (Nat.not_le.mpr ahead)).trans (if_pos tested))
      obtain ⟨k, chosen⟩ := State.choose_suspend (s := u) nodup found' sending routine
        ((State.urgentDue_iff u ph).mpr (at_ ▸ due))
      obtain ⟨y, hy, handle, -⟩ := State.chosen_part chosen
      obtain ⟨z, hz⟩ := Option.isSome_iff_exists.mp (State.entry?_isSome_iff.mpr ⟨y, hy, handle⟩)
      refine ⟨k, z, chosen, hz, begins (suspends.trans (State.arbitrate_part ?_ chosen hz)) ((same.modPart h ph _).on rfl)⟩
      exact at_
    · have tested : ¬ (e.cls = .routine && u.urgentDue ph) = true := by
        rw [Bool.and_eq_true, decide_eq_true_iff, State.urgentDue_iff, at_]
        rintro ⟨routine, due⟩
        obtain other | none := goes
        · rw [routine] at other
          cases other
        · exact none due
      have sends_ := (resumes gone).trans ((if_neg (Nat.not_le.mpr ahead)).trans (if_neg tested))
      refine execZeroCrossing_sends idle (sends_.trans ?_) same
      rw [State.sendRepeat_eq found', at_]

end Sys2Proof.Machine
end

section
/-! PROOFS. What the arbiter leaves of pings and of confirmations as it goes on choosing (R81, R92). -/

namespace Sys2Proof.Machine

variable {s t u : State} {ph k : Phase} {e x : Entry} {h : Nat} {p : Port}

/-! ### The result of a ping (R93, R94) -/

/-- The result of a completed ping shows: its record is HELD in its queue, or its PING RESULT is in the out-queue. -/
def State.Shown (s : State) (k : Phase) (w : PingRec) (result : PingResult) : Prop :=
  w ∈ s.pingQueue k ∨ pingNotice k w result ∈ (s.port w.origin).outq

/-- Results that show go on to show. -/
def Shows (s t : State) : Prop :=
  ∀ k (w : PingRec) result, w.state = .held result → s.Shown k w result → t.Shown k w result

theorem Shows.refl (s : State) : Shows s s := fun _ _ _ _ => id

theorem Shows.trans (a : Shows s t) (b : Shows t u) : Shows s u := fun k w result held shown =>
  b k w result held (a k w result held shown)

theorem Grows.outq_mem {P : Item → Prop} (grows : Grows P s t) {i : Item} (queued : i ∈ (s.port p).outq) :
    i ∈ (t.port p).outq := by
  obtain ⟨new, eq, -⟩ := (grows p).outq
  rw [eq]
  exact List.mem_append_left _ queued

theorem Shows.of_pings (grows : Grows (fun _ => True) s t)
    (kept : ∀ k (w : PingRec) result, w.state = .held result → w ∈ s.pingQueue k → w ∈ t.pingQueue k) : Shows s t := by
  rintro k w result held (listed | queued)
  · exact .inl (kept k w result held listed)
  · exact .inr (grows.outq_mem queued)

theorem Shows.of_same (grows : Grows (fun _ => True) s t) (pings : t.pings = s.pings) : Shows s t :=
  .of_pings grows fun k _ _ _ listed => by rwa [State.pingQueue, pings]

theorem setOldestQueued_held {st : PingState} {w : PingRec} {result : PingResult} (held : w.state = .held result)
    {q : List PingRec} (listed : w ∈ q) : w ∈ setOldestQueued st q := by
  induction q with
  | nil => exact listed
  | cons x rest ih =>
      unfold setOldestQueued
      obtain rfl | later := List.mem_cons.mp listed
      · rw [if_neg (by rw [held]; exact fun same => PingState.noConfusion same)]
        exact List.mem_cons_self
      · split
        · exact List.mem_cons_of_mem _ later
        · exact List.mem_cons_of_mem _ (ih later)

theorem Shows.setOldestQueued (s : State) (ph : Phase) (st : PingState) : Shows s (s.modPings ph (setOldestQueued st)) := by
  refine .of_pings (.of_ports rfl) fun k w result held listed => ?_
  by_cases same : k = ph
  · subst same
    rw [State.pingQueue_modPings_self]
    exact setOldestQueued_held held listed
  · rwa [State.pingQueue_modPings_ne _ _ same]

/-- The oldest record HELD for a port stands behind none that is. -/
theorem heldPing_eq_some {q : List PingRec} {z : PingRec} {result : PingResult} (found : heldPing p q = some (z, result)) :
    ∃ front back, q = front ++ z :: back ∧ (∀ y ∈ front, isHeldFor p y = false) ∧ z.origin = p ∧ z.state = .held result := by
  induction q with
  | nil => cases found
  | cons x rest ih =>
      unfold heldPing at found
      rw [List.findSome?_cons] at found
      split at found
      · rename_i y is
        cases found
        split at is
        · rename_i own
          split at is
          · rename_i held
            cases is
            exact ⟨[], rest, rfl, nofun, by simpa using own, held⟩
          · cases is
        · cases is
      · rename_i none
        obtain ⟨front, back, rfl, apart, origin, held⟩ := ih found
        refine ⟨x :: front, back, rfl, fun y hy => ?_, origin, held⟩
        obtain rfl | later := List.mem_cons.mp hy
        · unfold isHeldFor
          cases own : y.origin == p with
          | false => rfl
          | true =>
              rw [own] at none
              cases state : y.state with
              | held r => simp [state] at none
              | queued | inFlight => rfl
        · exact apart y later

/-- An offer of the oldest HELD record of a port takes it from its queue with its PING RESULT, or leaves the queues. -/
theorem State.offerHeld_ping_cases (s : State) (p : Port) (ph : Phase) :
    (s.offerHeld p (.ping ph)).pings = s.pings ∨
      ∃ front z back result, s.pingQueue ph = front ++ z :: back ∧ z.state = .held result ∧
        (s.offerHeld p (.ping ph)).pings = s.pings.set ph (front ++ back) ∧
        pingNotice ph z result ∈ ((s.offerHeld p (.ping ph)).port z.origin).outq := by
  obtain full | same | ⟨i, item, offered⟩ := s.offerHeld_cases p (.ping ph)
  · exact .inl (by rw [full]; rfl)
  · exact .inl (by rw [same])
  · obtain ⟨⟨z, result⟩, found, rfl⟩ := Option.map_eq_some_iff.mp item
    obtain ⟨front, back, queue, apart, origin, held⟩ := heldPing_eq_some found
    subst origin
    refine .inr ⟨front, z, back, result, queue, held, ?_, ?_⟩
    · rw [offered]
      show s.pings.set ph ((s.pingQueue ph).eraseP _) = _
      rw [queue, eraseP_of_first apart (isHeldFor_of_state rfl held)]
    · rw [offered]
      show _ ∈ ((s.pushItem z.origin (pingNotice ph z result)).port z.origin).outq
      unfold State.pushItem
      rw [State.port_modPort_self]
      exact List.mem_append_right _ (List.mem_singleton_self _)

theorem Shows.offerHeld_ping (s : State) (p : Port) (ph : Phase) : Shows s (s.offerHeld p (.ping ph)) := by
  have grows : Grows (fun _ => True) s (s.offerHeld p (.ping ph)) := State.offerHeld_grows s p _ fun _ _ => trivial
  obtain same | ⟨front, z, back, result, queue, held, pings, queued⟩ := s.offerHeld_ping_cases p ph
  · exact .of_same grows same
  · rintro k w r heldw (listed | pushed)
    · by_cases same : k = ph
      · subst same
        have left : (s.offerHeld p (.ping k)).pingQueue k = front ++ back := by rw [State.pingQueue, pings, Tri.get_set_self]
        rw [queue, List.mem_append, List.mem_cons] at listed
        obtain before | rfl | after := listed
        · exact .inl (left ▸ List.mem_append_left _ before)
        · cases held.symm.trans heldw
          exact .inr queued
        · exact .inl (left ▸ List.mem_append_right _ after)
      · refine .inl ?_
        rw [State.pingQueue, pings, Tri.get_set_ne _ _ same]
        exact listed
    · exact .inr (grows.outq_mem pushed)

theorem Shows.completeQueued (s : State) (ph : Phase) (result : PingResult) : Shows s (s.completeQueued ph result) := by
  unfold State.completeQueued
  split
  · exact (Shows.setOldestQueued s ph _).trans (.offerHeld_ping _ _ ph)
  · exact .refl s

/-- A ping completed without an exchange: the oldest QUEUED one, whose result then shows (R92, R94). -/
theorem State.completeQueued_shown {r : PingRec} (oldest : oldestQueued (s.pingQueue ph) = some r) (result : PingResult) :
    (s.completeQueued ph result).Shown ph { r with state := .held result } result := by
  have set_ (q : List PingRec) : oldestQueued q = some r →
      { r with state := .held result } ∈ setOldestQueued (.held result) q := by
    induction q with
    | nil => nofun
    | cons x rest ih =>
        intro found
        unfold oldestQueued at found
        unfold setOldestQueued
        by_cases queued : x.state = .queued
        · rw [List.find?_cons_of_pos (by simpa using queued)] at found
          cases found
          rw [if_pos queued]
          exact List.mem_cons_self
        · rw [List.find?_cons_of_neg (by simpa using queued)] at found
          rw [if_neg queued]
          exact List.mem_cons_of_mem _ (ih found)
  unfold State.completeQueued
  rw [oldest]
  refine Shows.offerHeld_ping (s.modPings ph (setOldestQueued (.held result))) r.origin ph ph _ result rfl (.inl ?_)
  rw [State.pingQueue_modPings_self]
  exact set_ _ oldest

theorem Shows.goOn {c : Choice} (goes : GoesOn s ph c t) : Shows s t := by
  have grows : Grows (fun _ => True) s t := goes.grows fun _ _ => trivial
  cases goes with
  | idle => exact .refl s
  | notReached h => exact .of_same grows ((State.settleConfirm_cal _ h).within .pings (by decide))
  | unconfirmed h => exact .of_same grows ((State.settleConfirm_cal _ h).within .pings (by decide))
  | notSent => exact .completeQueued s ph _
  | discarded => exact .of_same grows rfl
  | origin => exact .of_same grows ((State.advanceOrigin_within _ ph) .pings (by decide))

theorem State.startPart_pings (s : State) (h : Nat) (ph : Phase) : (s.startPart h ph).pings = s.pings := by
  have begun (e : Entry) : (s.beginSending e).pings = s.pings := by
    unfold State.beginSending
    dsimp only
    rw [State.offer_ports]
    rfl
  unfold State.startPart
  split
  · dsimp only
    rw [State.sendRepeat_within _ ph h .pings (by decide)]
    split
    · exact begun _
    · rfl
  · rfl

theorem Shows.started {c : Choice} (starts : Starts s ph c t) : Shows s t := by
  have grows : Grows (fun _ => True) s t := starts.grows fun _ _ => trivial
  cases starts with
  | ping r u => exact (Shows.setOldestQueued s ph .inFlight).trans (.of_same (.of_ports rfl) rfl)
  | part h => exact .of_same grows (s.startPart_pings h ph)
  | resume => exact .of_same grows (State.sendRepeat_within _ ph _ .pings (by decide))
  | confirm | registration | probe => exact .of_same grows rfl

/-! ### The arbiter goes on (R60) -/

/-- What holds over every choice of the arbiter that starts none, and over every start, holds over the arbitration. -/
theorem State.arbitrate_keeps {R : State → State → Prop} (refl : ∀ s, R s s) (trans : ∀ {s t u}, R s t → R t u → R s u)
    (goOn : ∀ {s c t}, GoesOn s ph c t → R s t) (started : ∀ {s c t}, s.choose ph = some c → Starts s ph c t → R s t)
    (rounds : Nat) (s : State) : R s (State.arbitrate rounds ph s) := by
  induction rounds generalizing s with
  | zero => exact refl s
  | succ n ih =>
      unfold State.arbitrate
      split
      · exact refl s
      · rename_i c chosen
        obtain ⟨t, served, starts⟩ | ⟨t, served, goes⟩ := s.serve_cases ph c
        · rw [served]
          exact started chosen starts
        · rw [served]
          exact trans (goOn goes) (ih t)

theorem Shows.arbitrate (rounds : Nat) (ph : Phase) (s : State) : Shows s (State.arbitrate rounds ph s) :=
  State.arbitrate_keeps .refl .trans .goOn (fun _ => .started) rounds s

/-! ### The counts of a confirmation (R81, R86) -/

/-- An entry keeps its confirmation progress, and no phase's units not reached or unconfirmed grow fewer. -/
def Entry.Counts (e x : Entry) : Prop :=
  ∀ p, e.confirmation = some p → ∃ q, x.confirmation = some q ∧
    ∀ k, (p.records.get k).notReached ≤ (q.records.get k).notReached ∧
      (p.records.get k).unconfirmed ≤ (q.records.get k).unconfirmed

theorem Entry.Counts.of_same (same : x.confirmation = e.confirmation) : e.Counts x := fun p some_ =>
  ⟨p, same.trans some_, fun _ => ⟨Nat.le_refl _, Nat.le_refl _⟩⟩

theorem Entry.Counts.refl (e : Entry) : e.Counts e := .of_same rfl

theorem Entry.Counts.trans {y : Entry} (a : e.Counts x) (b : x.Counts y) : e.Counts y := by
  intro p some_
  obtain ⟨q, some', more⟩ := a p some_
  obtain ⟨r, some'', more'⟩ := b q some'
  exact ⟨r, some'', fun k => ⟨(more k).1.trans (more' k).1, (more k).2.trans (more' k).2⟩⟩

theorem Entry.Counts.of_map {f : Confirmation → Confirmation} (is : x.confirmation = e.confirmation.map f)
    (more : ∀ p k, (p.records.get k).notReached ≤ ((f p).records.get k).notReached ∧
      (p.records.get k).unconfirmed ≤ ((f p).records.get k).unconfirmed) : e.Counts x := fun p some_ =>
  ⟨f p, by rw [is, some_, Option.map_some], more p⟩

theorem modRecord_counts {f : PhaseProgress → PhaseProgress}
    (more : ∀ r, r.notReached ≤ (f r).notReached ∧ r.unconfirmed ≤ (f r).unconfirmed) (p : Confirmation) (ph k : Phase) :
    (p.records.get k).notReached ≤ ((p.modRecord ph f).records.get k).notReached ∧
      (p.records.get k).unconfirmed ≤ ((p.modRecord ph f).records.get k).unconfirmed := by
  by_cases same : k = ph
  · subst same
    rw [Confirmation.modRecord, Tri.get_set_self]
    exact more _
  · rw [Confirmation.modRecord, Tri.get_set_ne _ _ same]
    exact ⟨Nat.le_refl _, Nat.le_refl _⟩

theorem advanceOver_counts (group : Nat) (ph : Phase) (capacity : Nat) (l : Roster) (r : PhaseProgress) :
    (advanceOver group ph capacity l r).notReached = r.notReached ∧
      (advanceOver group ph capacity l r).unconfirmed = r.unconfirmed := by
  induction l generalizing r with
  | nil => exact ⟨rfl, rfl⟩
  | cons x rest ih =>
      unfold advanceOver
      split_ifs
      · exact ih r
      · exact ih _
      · exact ⟨rfl, rfl⟩

theorem State.advanceCursor_counts (s : State) (group : Nat) (ph : Phase) (r : PhaseProgress) :
    (s.advanceCursor group ph r).notReached = r.notReached ∧ (s.advanceCursor group ph r).unconfirmed = r.unconfirmed := by
  unfold State.advanceCursor
  split
  · exact ⟨rfl, rfl⟩
  · exact advanceOver_counts ..

/-- What the entry of a handle counts only rises while it stays. -/
abbrev CountsRise (h : Nat) : State → State → Prop := Traces Entry.Counts h

theorem CountsRise.refl (h : Nat) (s : State) : CountsRise h s s := .of_same Entry.Counts.refl rfl

theorem CountsRise.after (a : CountsRise h s t) (b : CountsRise h t u) : CountsRise h s u := Traces.trans Entry.Counts.trans a b

theorem CountsRise.change (h k : Nat) {f : Entry → Entry} (kept : ∀ e, (f e).handle = e.handle) (counts : ∀ e, Entry.Counts e (f e)) :
    CountsRise h s (s.modEntry k f) := .modEntry Entry.Counts.refl s h k kept fun _ e _ => counts e

theorem CountsRise.settleConfirm (s : State) (h k : Nat) : CountsRise h s (s.settleConfirm k) := by
  have decided (u : State) : CountsRise h u (u.decideOutcome k) := by
    refine .change h k (fun e => ?_) fun e => ?_
    · split <;> rfl
    · split <;> exact .of_same rfl
  have counted : CountsRise h s (s.modEntry k s.countAllNotReached) := by
    refine .change h k (fun _ => rfl) fun e => .of_map rfl fun p q => ?_
    cases q <;> exact ⟨(Nat.le_add_right _ _).trans (Nat.le_add_right _ _), Nat.le_refl _⟩
  unfold State.settleConfirm
  split
  · split_ifs
    · exact .refl h s
    · exact decided s
    · exact counted.after (decided _)
    · exact .refl h s
    · exact decided s
  · exact .refl h s

theorem State.decideUnit_counts {f : PhaseProgress → PhaseProgress}
    (more : ∀ r, r.notReached ≤ (f r).notReached ∧ r.unconfirmed ≤ (f r).unconfirmed) (s : State) (e : Entry) (ph : Phase)
    (r : PhaseProgress) :
    let d := { f r with current := none }
    let x := if e.confirmLive then s.advanceCursor e.group ph d else d
    x.notReached = (f r).notReached ∧ x.unconfirmed = (f r).unconfirmed := by
  dsimp only
  split
  · exact s.advanceCursor_counts _ _ _
  · exact ⟨rfl, rfl⟩

theorem CountsRise.decideUnit (s : State) (h k : Nat) (ph : Phase) {f : PhaseProgress → PhaseProgress}
    (more : ∀ r, r.notReached ≤ (f r).notReached ∧ r.unconfirmed ≤ (f r).unconfirmed) :
    CountsRise h s (s.decideUnit k ph f) := by
  refine .change h k (fun _ => rfl) fun e => .of_map rfl fun p q => modRecord_counts (fun r => ?_) p ph q
  obtain ⟨notReached, unconfirmed⟩ := State.decideUnit_counts more s e ph r
  exact ⟨(more r).1.trans notReached.ge, (more r).2.trans unconfirmed.ge⟩

theorem CountsRise.decideNotReached (s : State) (h k : Nat) (ph : Phase) : CountsRise h s (s.decideNotReached k ph) :=
  .decideUnit s h k ph fun _ => ⟨Nat.le_succ _, Nat.le_refl _⟩

theorem CountsRise.decideUnconfirmed (s : State) (h k : Nat) (ph : Phase) (i : Nat) :
    CountsRise h s (s.decideUnconfirmed k ph i) := by
  unfold State.decideUnconfirmed
  refine CountsRise.after ?_ (.decideUnit _ h k ph (f := fun r => { r with unconfirmed := r.unconfirmed + 1 })
    fun _ => ⟨Nat.le_refl _, Nat.le_succ _⟩)
  refine .change h k (fun _ => rfl) fun e => .of_map rfl fun p q => ?_
  split <;> exact ⟨Nat.le_refl _, Nat.le_refl _⟩

theorem CountsRise.goOn {c : Choice} (goes : GoesOn s ph c t) : CountsRise h s t := by
  cases goes with
  | idle => exact .refl h s
  | notReached k => exact (CountsRise.decideNotReached s h k ph).after (.settleConfirm _ h k)
  | unconfirmed k => exact (CountsRise.decideUnconfirmed s h k ph _).after (.settleConfirm _ h k)
  | notSent => exact .of_same Entry.Counts.refl (s.completeQueued_within ph _ .calendar (by decide))
  | discarded => exact .refl h s
  | origin => exact .of_same Entry.Counts.refl (State.advanceOrigin_within _ ph .calendar (by decide))

theorem CountsRise.started {c : Choice} (starts : Starts s ph c t) : CountsRise h s t := by
  cases starts with
  | part k =>
      cases found : s.entry? k with
      | none =>
          unfold State.startPart
          rw [found]
          exact .refl h s
      | some e =>
          obtain ⟨⟨sequence, calendar⟩, -⟩ := State.startPart_eq found ph
          refine Traces.on (t := s.modEntry k fun x => x.begunPart ph (s.crossingNow ph) (sequence x)) ?_ calendar
          exact CountsRise.change h k (fun _ => rfl) fun e => .of_same rfl
  | resume k =>
      refine Traces.on (t := s.modPart k ph (fun p => { p with state := .sending })) ?_
        (State.sendRepeat_calendar (State.modChan _ ph _) k ph)
      exact CountsRise.change h k (fun _ => rfl) fun e => .of_same rfl
  | confirm | ping | registration | probe => exact .refl h s

theorem CountsRise.arbitrate (h rounds : Nat) (ph : Phase) (s : State) : CountsRise h s (State.arbitrate rounds ph s) :=
  State.arbitrate_keeps (.refl h) .after .goOn (fun _ => .started) rounds s

theorem CountsRise.retireSince (h : Nat) (s before : State) : CountsRise h s (s.retireSince before) :=
  Traces.retireSince Entry.Counts.refl Entry.Counts.trans s before

end Sys2Proof.Machine
end

section
/-! PROOFS. The exchanges and the probes that an IDLE channel starts at a crossing (R81, R92, R120, R121, R126). -/

namespace Sys2Proof.Machine

variable {s t u : State} {ph k : Phase} {e x : Entry} {h i : Nat} {a : Address} {v : UnitRec}

/-! ### The frames of an exchange and of a probe (R34, R47, R121, R194) -/

theorem State.startExchange_poll (s : State) (ph : Phase) (owner : ExchangeOwner) (e : Entry) (i : Nat) (v : UnitRec) :
    s.startExchange ph owner .poll (some e) i v =
      sends s ph (exchangeWith s ph owner .poll 3 11 (fun _ => [byteOf e.group]) i v) := rfl

theorem State.startExchange_direct (s : State) (ph : Phase) (owner : ExchangeOwner) (e : Entry) (i : Nat) (v : UnitRec) :
    s.startExchange ph owner .direct (some e) i v =
      sends s ph (exchangeWith s ph owner .direct 2 16
        (fun span => [byteOf e.group, e.sequence.getD 0, actionByte e.action, durationByte e.action] ++
          be 2 (delayField e.activation (s.crossingNow ph + slotMillis span s.fPlan))) i v) := rfl

theorem State.startExchange_ping (s : State) (ph : Phase) (owner : ExchangeOwner) (i : Nat) (v : UnitRec) :
    s.startExchange ph owner .ping none i v =
      sends s ph (exchangeWith s ph owner .ping 4 11 (fun _ => [0]) i v) := rfl

theorem State.startProbe_eq (s : State) (ph : Phase) (o : Origin) (f : ProbeFilter) (route : List Nat) :
    s.startProbe ph o f route = probes s ph o f (s.disc ph).stack.tail route := rfl

/-! ### A confirmation is served (R81) -/

theorem UnitRec.member_iff (v : UnitRec) (g : Nat) : v.member g = true ↔ g = 0 ∨ g ∈ v.groups := by
  simp [UnitRec.member]

section
variable {r : PhaseProgress} (found : s.entry? h = some e) (progress : s.progress? h ph = some r)
  (current : r.current = some (i, a))
include found progress current

theorem State.serveConfirm_starts (unit : s.unit? i = some v) (here : v.address = a ∧ v.member e.group = true ∧ v.phase = ph)
    (reachable : v.state ≠ .lost) :
    s.serve ph (.confirm h) =
      .started (s.startExchange ph (.confirm (some h)) (match r.nextFrame with | .poll => .poll | .direct => .direct)
        (some e) i v) := by
  unfold State.serve State.serveConfirm
  simp only [found, progress, current, unit]
  rw [if_neg (by simp [here]), if_neg reachable] <;> rfl

theorem State.serveConfirm_lost (unit : s.unit? i = some v) (here : v.address = a ∧ v.member e.group = true ∧ v.phase = ph)
    (lost : v.state = .lost) :
    s.serve ph (.confirm h) = .goOn ((s.decideUnconfirmed h ph i).settleConfirm h) := by
  unfold State.serve State.serveConfirm
  simp only [found, progress, current, unit]
  rw [if_neg (by simp [here]), if_pos lost]

theorem State.serveConfirm_gone
    (gone : ∀ v, s.unit? i = some v → ¬ (v.address = a ∧ v.member e.group = true ∧ v.phase = ph)) :
    s.serve ph (.confirm h) = .goOn ((s.decideNotReached h ph).settleConfirm h) := by
  unfold State.serve State.serveConfirm
  simp only [found, progress, current]
  cases unit : s.unit? i with
  | none => rfl
  | some v =>
      have apart := gone v unit
      simp only
      rw [if_pos]
      by_contra here
      simp at here
      exact apart ⟨here.1.1, here.1.2, here.2⟩

end

theorem State.progress?_eq {p : Confirmation} (found : s.entry? h = some e) (some_ : e.confirmation = some p) (ph : Phase) :
    s.progress? h ph = some (p.records.get ph) := by
  unfold State.progress?
  rw [found, Option.bind_some, some_]
  rfl

theorem State.decideUnit_progress {p : Confirmation} {f : PhaseProgress → PhaseProgress} (found : s.entry? h = some e)
    (some_ : e.confirmation = some p)
    (more : ∀ r, r.notReached ≤ (f r).notReached ∧ r.unconfirmed ≤ (f r).unconfirmed) :
    ∃ y, (s.decideUnit h ph f).progress? h ph = some y ∧ y.notReached = (f (p.records.get ph)).notReached ∧
      y.unconfirmed = (f (p.records.get ph)).unconfirmed := by
  have decided := State.progress?_eq (s := s.decideUnit h ph f) (State.entry?_modEntry_self (fun _ => rfl) found)
    (congrArg (Option.map _) some_) ph
  refine ⟨_, decided, ?_⟩
  have counts := State.decideUnit_counts more s e ph (p.records.get ph)
  refine Eq.subst (motive := fun y : PhaseProgress => y.notReached = _ ∧ y.unconfirmed = _) ?_ counts
  exact (Tri.get_set_self ..).symm

/-- What has been counted on a phase stays counted. -/
theorem CountsRise.progress {y : PhaseProgress} (rise : CountsRise h s t) (counted : s.progress? h ph = some y) :
    t.entry? h = none ∨ ∃ z, t.progress? h ph = some z ∧ y.notReached ≤ z.notReached ∧ y.unconfirmed ≤ z.unconfirmed := by
  unfold State.progress? at counted
  cases found : s.entry? h with
  | none =>
      rw [found] at counted
      cases counted
  | some e =>
      cases some_ : e.confirmation with
      | none =>
          rw [found, Option.bind_some, some_] at counted
          cases counted
      | some p =>
          rw [found, Option.bind_some, some_, Option.map_some] at counted
          cases counted
          obtain none | ⟨x, found', counts⟩ := rise.2 e found
          · exact .inl none
          · obtain ⟨q, some', more⟩ := counts p some_
            exact .inr ⟨_, State.progress?_eq found' some' ph, more ph⟩

/-! ### A crossing at which the arbiter goes on (R60) -/

theorem crossed_arbitrates {instant : Nat} (idle : idleAt s ph instant) (closed : (s.chan ph).openPart = none)
    (bufferBad : Bool) :
    (crossed s ph instant bufferBad).atCrossing ph = State.arbitrate (255 + 1) ph (crossed s ph instant bufferBad) := by
  obtain ⟨-, -, running, free, -⟩ := idle
  exact State.atCrossing_arbitrates (s := crossed s ph instant bufferBad) running (by rw [crossed_chan]; exact free)
    (by rw [crossed_chan]; exact closed)

/-- What a crossing comes to where the arbiter's first choice starts nothing. -/
theorem execZeroCrossing_goOn {micros : Nat} {noise : Int} {bufferBad : Bool} {c : Choice}
    (idle : idleAt s ph (s.elapsed * 1000 + micros)) (closed : (s.chan ph).openPart = none)
    (chosen : (crossed s ph (s.elapsed * 1000 + micros) bufferBad).choose ph = some c)
    (served : (crossed s ph (s.elapsed * 1000 + micros) bufferBad).serve ph c = .goOn t) :
    exec (.zeroCrossing ph micros noise bufferBad) s =
      .next (((State.arbitrate 255 ph t).markQuiet ph).retireSince s) := by
  rw [execZeroCrossing_idle idle, crossed_arbitrates idle closed, State.arbitrate_goOn chosen served]

theorem execZeroCrossing_starts {micros : Nat} {noise : Int} {bufferBad : Bool} {c : Choice} {w : Work}
    (idle : idleAt s ph (s.elapsed * 1000 + micros)) (closed : (s.chan ph).openPart = none)
    (chosen : (crossed s ph (s.elapsed * 1000 + micros) bufferBad).choose ph = some c)
    (served : (crossed s ph (s.elapsed * 1000 + micros) bufferBad).serve ph c = .started (sends t ph w))
    (same : t.calendar = s.calendar) :
    exec (.zeroCrossing ph micros noise bufferBad) s = .next (sends t ph w) :=
  execZeroCrossing_sends idle ((crossed_arbitrates idle closed bufferBad).trans (State.arbitrate_started chosen served))
    (.of_same same)

theorem CountsRise.crossing (h : Nat) (s before : State) (ph : Phase) :
    CountsRise h s (((State.arbitrate 255 ph s).markQuiet ph).retireSince before) :=
  CountsRise.after (t := (State.arbitrate 255 ph s).markQuiet ph) ((CountsRise.arbitrate h 255 ph s).on rfl)
    (.retireSince h _ before)

theorem Shows.crossing (s before : State) (ph : Phase) :
    Shows s (((State.arbitrate 255 ph s).markQuiet ph).retireSince before) := by
  refine (Shows.arbitrate 255 ph s).trans (Shows.trans (t := (State.arbitrate 255 ph s).markQuiet ph) ?_ ?_)
  · exact .of_same (.of_ports rfl) rfl
  · exact .of_same ((grows_calKeeps fun _ _ => trivial).retireSince _ before)
      (State.retireSince_within _ before .pings (by decide))

/-! ### A ping and a registration record are served (R92, R126) -/

theorem State.servePing_starts {r : PingRec} (oldest : oldestQueued (s.pingQueue ph) = some r)
    (unit : s.unit? r.index = some v) (here : v.address = r.address ∧ v.phase = ph) :
    s.serve ph .ping =
      .started ((s.modPings ph (setOldestQueued .inFlight)).startExchange ph .ping .ping none r.index v) := by
  unfold State.serve State.servePing
  simp only [oldest, unit]
  rw [if_neg (by simp [here])]

theorem State.servePing_gone {r : PingRec} (oldest : oldestQueued (s.pingQueue ph) = some r)
    (gone : ∀ v, s.unit? r.index = some v → ¬ (v.address = r.address ∧ v.phase = ph)) :
    s.serve ph .ping = .goOn (s.completeQueued ph .notSent) := by
  unfold State.serve State.servePing
  simp only [oldest]
  cases unit : s.unit? r.index with
  | none => rfl
  | some v =>
      have apart := gone v unit
      simp only
      rw [if_pos]
      by_contra here
      simp at here
      exact apart here

theorem State.serveRegistration_starts {rest : List (Nat × Address)} (list : (s.disc ph).registration = (i, a) :: rest)
    (unit : s.unit? i = some v) (here : v.address = a ∧ v.phase = ph) :
    s.serve ph .registration =
      .started ((s.modDisc ph (fun d => { d with registration := rest })).startExchange ph .registration .ping none i v) := by
  have unit' : (s.modDisc ph (fun d => { d with registration := rest })).unit? i = some v := unit
  unfold State.serve State.serveRegistration
  simp only [list, unit']
  rw [if_neg (by simp [here])]

/-! ### A probe is served (R119, R120) -/

theorem UnitRec.originFor_iff (v : UnitRec) (ph : Phase) :
    v.originFor ph = true ↔ v.state = .active ∧ v.relayCapable = true ∧ v.phase = ph ∧ v.route.length ≤ 2 := by
  simp [UnitRec.originFor, and_assoc]

theorem State.probeRoute_relay (unit : s.unit? i = some v) (here : v.address = a) (serves : v.originFor ph = true) :
    s.probeRoute ph (some (.relay i a)) = some (v.route ++ [i]) := by
  unfold State.probeRoute
  simp [unit, here, serves]

theorem State.probeRoute_dead (unable : ∀ v, s.unit? i = some v → v.address = a → ¬ v.originFor ph = true) :
    s.probeRoute ph (some (.relay i a)) = none := by
  unfold State.probeRoute
  cases unit : s.unit? i with
  | none => simp [unit]
  | some v =>
      simp only [unit]
      refine if_neg fun able => ?_
      simp only [Bool.and_eq_true, beq_iff_eq] at able
      exact unable v unit able.1 able.2

theorem State.serveProbe_starts {o : Origin} {f : ProbeFilter} {rest : List ProbeFilter} {route : List Nat}
    (stack : (s.disc ph).stack = f :: rest) (origin : (s.disc ph).origin = some o)
    (serves : s.probeRoute ph (some o) = some route) :
    s.serve ph .probe = .started (probes s ph o f rest route) := by
  unfold State.serve State.serveProbe
  simp only [stack, origin, serves, State.startProbe_eq]
  rfl

theorem State.serveProbe_goOn {o : Origin} (origin : (s.disc ph).origin = some o)
    (serves : s.probeRoute ph (some o) = none) :
    s.serve ph .probe = .goOn ((s.modDisc ph (fun d => { d with stack := [] })).advanceOrigin ph) := by
  unfold State.serve State.serveProbe
  simp only [origin, serves]
  split
  · rename_i none
    cases none
  · rfl

theorem State.modDisc_modDisc (s : State) (ph : Phase) (f g : Discovery → Discovery) :
    (s.modDisc ph f).modDisc ph g = s.modDisc ph (g ∘ f) := by
  simp only [State.modDisc, State.disc, Tri.get_set_self, Tri.set_set, Function.comp]

theorem servesFrom_eq (n : Nat) (ph : Phase) :
    (fun x : Nat × UnitRec => decide (n ≤ x.1) && x.2.originFor ph) =
      fun x => decide (n ≤ x.1 ∧ x.2.state = .active ∧ x.2.relayCapable = true ∧ x.2.phase = ph ∧ x.2.route.length ≤ 2) := by
  funext x
  rw [Bool.eq_iff_iff, Bool.and_eq_true, decide_eq_true_iff, decide_eq_true_iff, UnitRec.originFor_iff]

/-- The next origin that serves, or the rest where none does (R119, R128). -/
theorem probeEnded_eq (s : State) (ph : Phase) {d : Discovery} (probing : d.state = .probing) :
    probeEnded s ph { d with stack := [] } =
      (s.roster.find? (fun x => decide (Origin.next d.origin ≤ x.1) && x.2.originFor ph)).elim
        { d with
          stack := [], probe := none, state := .resting, origin := none
          restEnd := some (s.elapsed + s.settings.probePeriod * 1000) }
        fun x => { d with probe := none, origin := some (.relay x.1 x.2.address), stack := [⟨0, 0⟩] } := by
  obtain ⟨next, found⟩ : ∃ next, s.roster.find? (fun x => decide (Origin.next d.origin ≤ x.1) && x.2.originFor ph) = next :=
    ⟨_, rfl⟩
  rw [found]
  rw [servesFrom_eq] at found
  unfold probeEnded
  dsimp only
  rw [if_pos ⟨probing, rfl⟩]
  rcases origin : d.origin with _ | _ | ⟨i, a⟩
  all_goals
    rw [origin] at found
    dsimp only
    split
    · rename_i x first
      obtain rfl : next = some x := found.symm.trans first
      rfl
    · rename_i none_
      obtain rfl : next = none := found.symm.trans none_
      rfl

/-- With its stack empty a PROBING channel goes on to the next origin, or rests (R119, R120, R128). -/
theorem State.advanceOrigin_eq (s : State) (probing : (s.disc ph).state = .probing) :
    (s.modDisc ph (fun d => { d with stack := [] })).advanceOrigin ph =
      s.modDisc ph (fun _ =>
        { probeEnded s ph { s.disc ph with stack := [] } with probe := (s.disc ph).probe }) := by
  rw [probeEnded_eq s ph probing]
  unfold State.advanceOrigin
  dsimp only
  rw [State.disc_modDisc_self]
  dsimp only
  rw [show (s.modDisc ph (fun d => { d with stack := [] })).roster = s.roster from rfl]
  cases s.roster.find? (fun x => decide (Origin.next (s.disc ph).origin ≤ x.1) && x.2.originFor ph) with
  | none => exact State.modDisc_modDisc ..
  | some x => exact State.modDisc_modDisc ..

/-- Where no class but the last has work the arbiter chooses a probe, or nothing. -/
theorem State.choose_discovery (part : s.NoPart ph) (confirm : ∀ e, ¬ s.confirms ph e)
    (ping : ∀ r ∈ s.pingQueue ph, r.state ≠ .queued) (registration : (s.disc ph).registration = []) :
    s.choose ph = none ∨ s.choose ph = some .probe := by
  have classes := s.choose_byClass ph
  cases is : s.choose ph with
  | none => exact .inl rfl
  | some c =>
      rw [is] at classes
      cases c with
      | part h =>
          obtain ⟨k, e, -, member, -⟩ := classes
          exact absurd member (part.1 k e)
      | resume h => exact absurd classes.1 (part.2 h)
      | confirm h =>
          obtain ⟨-, e, -, confirms⟩ := classes
          exact absurd confirms (confirm e)
      | ping => exact absurd ping classes.2.2
      | registration => exact absurd registration classes.2.2.2
      | probe => exact .inr rfl

/-- Settles O50. -/
theorem exchangesAndProbesStartAtACrossing : Obligations.ExchangesAndProbesStartAtACrossing := by
  intro ph micros noise bufferBad s instant c now u d there idle closed
  have at_ : u.crossingNow ph = now := crossed_crossingNow s ph instant bufferBad
  refine ⟨?_, fun front r back chosen queue none queued => ?_, fun i a rest v chosen list here => ?_, ?_⟩
  · intro h e p i a chosen found some_ current r member sendsOne
    have found' : u.entry? h = some e := (State.entry?_of_same rfl).trans found
    have progress := State.progress?_eq found' some_ ph
    have is_member (v : UnitRec) : v.member e.group = true ↔ member v := v.member_iff e.group
    refine ⟨fun v here inside reachable => ?_, fun gone => ?_, fun v here inside lost => ?_⟩
    · have served := State.serveConfirm_starts found' progress current here.1
        ⟨here.2.1, (is_member v).mpr inside, here.2.2⟩ reachable
      refine ⟨fun poll => ?_, fun direct => ?_⟩
      · rw [poll] at served
        exact execZeroCrossing_starts idle closed chosen served rfl
      · rw [direct] at served
        refine execZeroCrossing_starts idle closed chosen (served.trans ?_) rfl
        rw [State.startExchange_direct, at_]
        rfl
    · have served := State.serveConfirm_gone found' progress current fun v unit ⟨address, inside, phase⟩ =>
        gone v ⟨unit, address, phase⟩ ((is_member v).mp inside)
      refine ⟨_, execZeroCrossing_goOn idle closed chosen served, ?_⟩
      obtain ⟨y, counted, more, -⟩ := State.decideUnit_progress (f := fun r => { r with notReached := r.notReached + 1 })
        found' some_ fun _ => ⟨Nat.le_succ _, Nat.le_refl _⟩
      have rise : CountsRise h (u.decideNotReached h ph) _ :=
        (CountsRise.settleConfirm _ h h).after (.crossing h _ s ph)
      obtain gone | ⟨z, shown, more', -⟩ := rise.progress counted
      · exact .inl gone
      · exact .inr ⟨z, shown, more.ge.trans more'⟩
    · have served := State.serveConfirm_lost found' progress current here.1
        ⟨here.2.1, (is_member v).mpr inside, here.2.2⟩ lost
      refine ⟨_, execZeroCrossing_goOn idle closed chosen served, ?_⟩
      let listing : Entry → Entry := fun e =>
        { e with
          confirmation := e.confirmation.map (fun c =>
            if c.unconfirmedList.length < Config.unconfirmedPlaces then
              { c with unconfirmedList := c.unconfirmedList ++ [i] }
            else c) }
      have listed : (u.modEntry h listing).entry? h = some (listing e) := State.entry?_modEntry_self (fun _ => rfl) found'
      have records : ∃ p', (listing e).confirmation = some p' ∧ p'.records = p.records := by
        refine ⟨_, congrArg (Option.map _) some_, ?_⟩
        dsimp only
        split <;> rfl
      obtain ⟨p', some', records⟩ := records
      obtain ⟨y, counted, -, more⟩ := State.decideUnit_progress (f := fun r => { r with unconfirmed := r.unconfirmed + 1 })
        listed some' fun _ => ⟨Nat.le_refl _, Nat.le_succ _⟩
      rw [records] at more
      have rise : CountsRise h (u.decideUnconfirmed h ph i) _ :=
        (CountsRise.settleConfirm _ h h).after (.crossing h _ s ph)
      obtain gone | ⟨z, shown, -, more'⟩ := rise.progress counted
      · exact .inl gone
      · exact .inr ⟨z, shown, more.ge.trans more'⟩
  · have oldest : oldestQueued (u.pingQueue ph) = some r := by
      rw [show u.pingQueue ph = front ++ r :: back from queue]
      exact oldestQueued_of_first none queued
    refine ⟨fun v here => ?_, fun gone => ?_⟩
    · have served := State.servePing_starts oldest here.1 here.2
      have flying : u.modPings ph (setOldestQueued .inFlight) =
          { u with pings := s.pings.set ph (front ++ { r with state := .inFlight } :: back) } := by
        rw [← setOldestQueued_of_first none queued, ← queue]
        rfl
      rw [flying] at served
      exact execZeroCrossing_starts idle closed chosen served rfl
    · have served := State.servePing_gone oldest fun v unit ⟨address, phase⟩ => gone v ⟨unit, address, phase⟩
      refine ⟨_, execZeroCrossing_goOn idle closed chosen served, ?_⟩
      exact Shows.crossing _ s ph ph { r with state := .held .notSent } .notSent rfl
        (State.completeQueued_shown oldest .notSent)
  · exact execZeroCrossing_starts idle closed chosen (State.serveRegistration_starts list here.1 here.2) rfl
  · intro f rest chosen stack serves
    refine ⟨fun direct => ?_, fun i a v origin unit address able => ?_, ?_⟩
    · exact execZeroCrossing_starts idle closed chosen (State.serveProbe_starts (s := u) stack direct rfl) rfl
    · have route := State.probeRoute_relay (s := u) unit address ((v.originFor_iff ph).mpr able)
      exact execZeroCrossing_starts idle closed chosen (State.serveProbe_starts (s := u) stack origin route) rfl
    · intro i a origin law unable advanced w
      have chosen' := u.choose_byClass ph
      rw [chosen] at chosen'
      obtain ⟨part, confirm, ping, registration, probing, -⟩ := chosen'
      have dead : u.probeRoute ph (some (.relay i a)) = none := State.probeRoute_dead fun v unit here able =>
        unable v unit here ((v.originFor_iff ph).mp able)
      have goes := State.serveProbe_goOn (s := u) origin dead
      rw [State.advanceOrigin_eq u probing] at goes
      have run := execZeroCrossing_goOn (noise := noise) idle closed chosen goes
      change exec c s = .next (((State.arbitrate 255 ph w).markQuiet ph).retireSince s) at run
      have disc : w.disc ph = advanced := State.disc_modDisc_self ..
      have ends := probeEnded_eq s ph (d := d) probing
      have listed : (w.disc ph).registration = [] := by
        rw [disc, show advanced.registration = d.registration by
          show (probeEnded s ph { d with stack := [] }).registration = _
          rw [show probeEnded s ph { d with stack := [] } = _ from ends]
          cases s.roster.find? (fun x => decide (Origin.next d.origin ≤ x.1) && x.2.originFor ph) <;> rfl]
        exact registration
      have classes : w.ChosenByClass ph (w.choose ph) := w.choose_byClass ph
      have discovery := State.choose_discovery (s := w) part confirm ping listed
      obtain ⟨next, found⟩ :
          ∃ next, s.roster.find? (fun x => decide (Origin.next d.origin ≤ x.1) && x.2.originFor ph) = next :=
        ⟨_, rfl⟩
      rw [found] at ends
      cases next with
      | none =>
          have rests : advanced = { d with
              stack := [], state := .resting, origin := none
              restEnd := some (s.elapsed + s.settings.probePeriod * 1000) } :=
            congrArg (fun x : Discovery => { x with probe := d.probe }) ends
          refine ⟨fun j b v origin' => ?_, fun _ => ?_⟩
          · rw [rests] at origin'
            cases origin'
          · have stays : w.choose ph = none := by
              refine discovery.resolve_right fun is => ?_
              rw [is] at classes
              have state := classes.2.2.2.2.1
              rw [disc, rests] at state
              cases state
            have old : OutcomesOld s (w.markQuiet ph) := .of_same rfl
            rw [State.arbitrate_idle (n := 254) stays, old.retireSince] at run
            exact run.trans (congrArg _ (State.markQuiet_idle (by exact (crossed_chan s ph instant bufferBad) ▸ idle.2.2.2.1)))
      | some x =>
          have goesOn : advanced = { d with origin := some (.relay x.1 x.2.address), stack := [⟨0, 0⟩] } :=
            congrArg (fun x : Discovery => { x with probe := d.probe }) ends
          refine ⟨fun j b v origin' unit => ?_, fun none_ => ?_⟩
          · have probes_ : w.choose ph = some .probe := by
              refine discovery.resolve_left fun is => ?_
              rw [is] at classes
              have stack := classes.2.2.2.2 (by rw [disc, goesOn]; exact probing)
              rw [disc, goesOn] at stack
              cases stack
            have able := (Bool.and_eq_true _ _ ▸ List.find?_some found).2
            rw [goesOn] at origin'
            cases origin'
            obtain rfl : x.2 = v := by
              have stands : s.unit? x.1 = some x.2 := law.1.rising.unitAt_iff.mpr (List.mem_of_find?_eq_some found)
              exact Option.some.inj (stands.symm.trans unit)
            have served := State.serveProbe_starts (s := w) (f := ⟨0, 0⟩) (rest := []) (o := .relay x.1 x.2.address)
              (by rw [disc, goesOn]) (by rw [disc, goesOn]) (State.probeRoute_relay unit rfl able)
            rw [State.arbitrate_started (n := 254) probes_ served] at run
            have marked : (probes w ph (.relay x.1 x.2.address) ⟨0, 0⟩ [] (x.2.route ++ [x.1])).markQuiet ph = _ :=
              State.markQuiet_sends _ ph _
            have old : OutcomesOld s (probes w ph (.relay x.1 x.2.address) ⟨0, 0⟩ [] (x.2.route ++ [x.1])) := .of_same rfl
            rw [marked] at run
            exact run.trans (congrArg _ old.retireSince)
          · rw [goesOn] at none_
            cases none_

end Sys2Proof.Machine
end

section
/-! PROOFS. The end of an exchange: what the roster, the level controller and the ping record take from a reply or a
silence (R48, R88, R89, R93, R100, R139, R141). -/

namespace Sys2Proof.Machine

variable {s t u : State} {ph k : Phase} {x : Exchange} {h i : Nat} {a : Address} {v w : UnitRec}

/-! ### The parts of the end of an exchange -/

/-- A reply to a ping with the register flag gives a fresh estimate (R93). -/
def State.seeds (s : State) (ph : Phase) (x : Exchange) : Bool :=
  decide (x.owner = .ping) && (inFlightPing (s.pingQueue ph)).any (·.register)

/-- What the roster and the levels take from the end of an exchange (R88, R89). -/
def State.takeResult (s : State) (ph : Phase) (x : Exchange) : Option (ReplyReading × Nat) → State
  | some (r, uplink) => s.applyReply ph x r uplink (s.seeds ph x)
  | none => s.applySilence x.index x.address

/-- What the work that started an exchange takes from its end (R82 to R86, R93). -/
def State.countResult (s : State) (ph : Phase) (x : Exchange) (reply : Option (ReplyReading × Nat)) : State :=
  match x.owner with
  | .confirm (some h) => s.countExchange h ph x (reply.map (·.1.sequence))
  | .confirm none => s
  | .ping =>
      s.completeInFlight ph (reply.elim .silent fun y => s.pingReplied x y.1 y.2)
  | .registration => s

theorem State.endExchange_eq (s : State) (ph : Phase) (x : Exchange) (reply : Option (ReplyReading × Nat)) :
    s.endExchange ph x reply = (((s.takeResult ph x reply).clearWork ph).countResult ph x reply).afterWork ph := by
  have seeds : (match x.owner with
      | .ping => (match inFlightPing (s.pingQueue ph) with | some r => r.register | none => false)
      | _ => false) = s.seeds ph x := by
    unfold State.seeds
    cases x.owner with
    | ping => cases inFlightPing (s.pingQueue ph) <;> rfl
    | confirm => rfl
    | registration => rfl
  unfold State.endExchange State.takeResult State.countResult
  rw [← seeds]
  cases reply with
  | none => rfl
  | some y => rfl

theorem execReplyReceived_taken {heard : HeardFrame} {r : ReplyReading} (work : (s.chan ph).work = some (.exchange x))
    (listening : (s.chan ph).state = .listening) (read : readReply s.identity.code heard.bytes = some r)
    (address : r.address = x.address) (inside : x.slots ≤ x.silence) :
    exec (.replyReceived ph heard) s =
      .next ((s.endExchange ph x (some (r, marginOf heard.uplink))).retireSince s) := by
  have listens : (s.chan ph).listeningFor = some x := by
    unfold Channel.listeningFor
    rw [work]
    exact if_pos listening
  change Host.Outcome.next _ = _
  rw [listens, read]
  refine congrArg _ (if_pos ?_)
  simp [inside, address]

theorem execReplyReceived_refused {heard : HeardFrame} (work : (s.chan ph).work = some (.exchange x))
    (listening : (s.chan ph).state = .listening)
    (apart : ∀ r, readReply s.identity.code heard.bytes = some r → r.address ≠ x.address ∨ x.silence < x.slots) :
    exec (.replyReceived ph heard) s = .next s := by
  have listens : (s.chan ph).listeningFor = some x := by
    unfold Channel.listeningFor
    rw [work]
    exact if_pos listening
  change Host.Outcome.next _ = _
  rw [listens]
  cases read : readReply s.identity.code heard.bytes with
  | none => rfl
  | some r =>
      refine congrArg _ (if_neg ?_)
      obtain address | late := apart r read
      · simp [address]
      · simp [Nat.not_le.mpr late]

theorem execSilencePoint_at (work : (s.chan ph).work = some (.exchange x)) (listening : (s.chan ph).state = .listening) :
    exec (.silencePoint ph) s = .next (if x.silence ≤ x.slots then (s.endExchange ph x none).retireSince s else s) := by
  have listens : (s.chan ph).listeningFor = some x := by
    unfold Channel.listeningFor
    rw [work]
    exact if_pos listening
  change Host.Outcome.next _ = _
  rw [listens]

/-! ### The channel (R56, R60) -/

theorem State.takeResult_frame (s : State) (ph : Phase) (x : Exchange) (reply : Option (ReplyReading × Nat)) :
    RosterFrame s (s.takeResult ph x reply) := by
  rcases reply with _ | ⟨r, uplink⟩
  · exact s.applySilence_roster _ _
  · exact s.applyReply_roster ph x r uplink _

theorem State.countResult_within (s : State) (ph : Phase) (x : Exchange) (reply : Option (ReplyReading × Nat)) :
    Within [.ports, .calendar, .retirement, .pings] s (s.countResult ph x reply) := by
  unfold State.countResult
  split
  · exact (s.countExchange_cal _ ph x _).within.mono (by decide)
  · exact Within.refl _ s
  · exact (s.completeInFlight_within ph _).mono (by decide)
  · exact Within.refl _ s

/-- A channel with no halt pending, on a line not RUNNING, starts nothing as its work ends. -/
theorem State.afterWork_quiet (goes : (s.chan ph).haltPending = false) (line : s.line ≠ .running) :
    s.afterWork ph = s.checkDrained.markQuiet ph := by
  have line' : s.checkDrained.line ≠ .running := by
    have settled : s.settleLine.line ≠ .running := by
      unfold State.settleLine
      split
      · exact fun same => LineState.noConfusion same
      · exact line
    have noted : s.checkDrained.line = s.settleLine.line := by
      unfold State.checkDrained
      rw [State.noteLine_ports]
    rwa [noted]
  unfold State.afterWork
  dsimp only
  rw [if_neg (by rw [goes]; decide), State.atCrossing_of_quiet (.inl line')]

theorem State.checkDrained_within (s : State) : Within [.ports, .line] s s.checkDrained :=
  s.settleLine_within.then (State.noteLine_ports _ _ _).within (by decide)

/-- The channel whose exchange ends, where nothing else starts. -/
theorem State.endExchange_chan (reply : Option (ReplyReading × Nat)) (goes : (s.chan ph).haltPending = false)
    (line : s.line ≠ .running) :
    (s.endExchange ph x reply).chan ph = { s.chan ph with state := .idle, work := none, gapLeft := none, quiet := true } := by
  have taken : (s.takeResult ph x reply).chan ph = s.chan ph := by
    rw [s.takeResult_frame ph x reply]
    rfl
  have line' : (s.takeResult ph x reply).line = s.line := by rw [s.takeResult_frame ph x reply]
  have counted := State.countResult_within ((s.takeResult ph x reply).clearWork ph) ph x reply
  have chan : (((s.takeResult ph x reply).clearWork ph).countResult ph x reply).chan ph =
      { s.chan ph with state := .idle, work := none, gapLeft := none } := by
    rw [State.chan_of_within counted (by decide), State.clearWork, State.chan_modChan_self, taken]
  rw [State.endExchange_eq, State.afterWork_quiet]
  · rw [State.markQuiet, State.chan_modChan_self, State.chan_of_within (State.checkDrained_within _) (by decide), chan]
    rfl
  · rw [chan]
    exact goes
  · rw [counted .line (by decide)]
    exact line' ▸ line

/-! ### The level that reaches the amplifier (R142) -/

/-- Only the applied level of one channel differs. -/
def LevelsBut (ph : Phase) (s t : State) : Prop :=
  ∃ a, t.levels = s.levels.set ph { s.levelRec ph with applied := a }

theorem LevelsBut.of_same (same : t.levels = s.levels) : LevelsBut ph s t := by
  refine ⟨(s.levelRec ph).applied, same.trans ?_⟩
  exact (Tri.set_get ..).symm

theorem LevelsBut.of_within {bs : List Block} (within : Within bs s t) (apart : Block.levels ∉ bs) : LevelsBut ph s t :=
  .of_same (within .levels apart)

theorem LevelsBut.trans (a : LevelsBut ph s t) (b : LevelsBut ph t u) : LevelsBut ph s u := by
  obtain ⟨l, first⟩ := a
  obtain ⟨m, second⟩ := b
  refine ⟨m, ?_⟩
  rw [second, State.levelRec, first, Tri.get_set_self, Tri.set_set]

theorem LevelsBut.other (but : LevelsBut ph s t) (apart : k ≠ ph) : t.levelRec k = s.levelRec k := by
  obtain ⟨l, levels⟩ := but
  rw [State.levelRec, levels, Tri.get_set_ne _ _ apart]
  rfl

theorem LevelsBut.own (but : LevelsBut ph s t) (l : Nat) :
    { t.levelRec ph with applied := l } = { s.levelRec ph with applied := l } := by
  obtain ⟨m, levels⟩ := but
  rw [State.levelRec, levels, Tri.get_set_self]

theorem LevelsBut.transmit (s : State) (ph : Phase) (w : Work) : LevelsBut ph s (s.transmit ph w) := ⟨_, rfl⟩

theorem LevelsBut.sendRepeat (s : State) (h : Nat) (ph : Phase) : LevelsBut ph s (s.sendRepeat h ph) := by
  unfold State.sendRepeat
  split
  · exact .transmit s ph _
  · exact .of_same rfl

theorem LevelsBut.startPart (s : State) (h : Nat) (ph : Phase) : LevelsBut ph s (s.startPart h ph) := by
  unfold State.startPart
  split
  · rename_i e _
    have begun : LevelsBut ph s (if e.sequence.isNone then s.beginSending e else s) := by
      split
      · refine .of_same ?_
        unfold State.beginSending
        dsimp only
        rw [State.offer_ports]
        rfl
      · exact .of_same rfl
    exact begun.trans (.sendRepeat _ h ph)
  · exact .of_same rfl

theorem LevelsBut.goOn {c : Choice} (goes : GoesOn s ph c t) : LevelsBut ph s t := by
  cases goes with
  | idle => exact .of_same rfl
  | notReached h => exact .of_same ((State.settleConfirm_cal (s.decideNotReached h ph) h).within .levels (by decide))
  | unconfirmed h => exact .of_same ((State.settleConfirm_cal (s.decideUnconfirmed h ph _) h).within .levels (by decide))
  | notSent => exact .of_within (s.completeQueued_within ph _) (by decide)
  | discarded => exact .of_same rfl
  | origin => exact .of_same (State.advanceOrigin_within _ ph .levels (by decide))

theorem LevelsBut.started {c : Choice} (starts : Starts s ph c t) : LevelsBut ph s t := by
  cases starts with
  | part h => exact .startPart s h ph
  | resume h => exact .sendRepeat (State.modChan (s.modPart h ph _) ph _) h ph
  | confirm | ping | registration | probe => exact ⟨_, rfl⟩

theorem LevelsBut.arbitrate (rounds : Nat) (ph : Phase) (s : State) : LevelsBut ph s (State.arbitrate rounds ph s) :=
  State.arbitrate_keeps (fun _ => .of_same rfl) .trans .goOn (fun _ => .started) rounds s

theorem LevelsBut.atCrossing (s : State) (ph : Phase) : LevelsBut ph s (s.atCrossing ph) := by
  unfold State.atCrossing
  dsimp only
  split
  · exact .of_same rfl
  · split
    · rename_i h _
      split
      · unfold State.resumeOpen
        split
        · split_ifs
          · exact .of_within ((s.stopPart_chan h ph).within.then (State.settleEntry_cal _ h).within
              (ds := [.ports, .calendar, .retirement, .channels]) (by decide)) (by decide)
          · exact LevelsBut.trans (t := s.suspend h ph) (.of_same rfl) (.arbitrate _ ph _)
          · exact .sendRepeat s h ph
        · exact .of_same rfl
      · exact .of_same rfl
    · exact .arbitrate _ ph s

theorem State.silenceQueue_within (s : State) (ph : Phase) : Within [.ports, .pings] s (s.silenceQueue ph) :=
  foldl_frame (Within [.ports, .pings]) (Within.refl _) (fun a b => a.trans b) _
    (fun s _ => s.completeQueued_within ph .silent) _ s

theorem State.halt_within (s : State) (ph : Phase) :
    Within [.ports, .calendar, .retirement, .channels, .pings, .discovery, .faults] s (s.halt ph) := by
  have posted := (s.modChan_within ph Channel.halted).then (State.post_fault _ (.channelHalt ph)).within
    (ds := [.ports, .channels, .faults]) (by decide)
  have silenced := posted.then (State.silenceQueue_within _ ph) (ds := [.ports, .channels, .pings, .faults]) (by decide)
  have left := silenced.then (State.modDisc_within _ ph (fun d => { d with registration := [] }))
    (ds := [.ports, .channels, .pings, .discovery, .faults]) (by decide)
  exact left.then (State.haltConfirmations_cal _ ph).within (by decide)

theorem LevelsBut.afterWork (s : State) (ph : Phase) : LevelsBut ph s (s.afterWork ph) := by
  have halts : LevelsBut ph s (if (s.chan ph).haltPending then s.halt ph else s) := by
    split
    · exact .of_within (s.halt_within ph) (by decide)
    · exact .of_same rfl
  unfold State.afterWork
  exact (halts.trans (.of_within (State.checkDrained_within _) (by decide))).trans (.atCrossing _ ph)

/-! ### The roster (R88, R89, R100) -/

theorem setUnit_eq (i : Nat) (v : UnitRec) (r : Roster) : setUnit i v r = r.map (fun y => if y.1 = i then (y.1, v) else y) := by
  refine List.map_congr_left fun y _ => ?_
  split <;> rfl

theorem State.holdsUnit_of (unit : s.unit? i = some v) (address : v.address = a) : s.holdsUnit i a = true := by
  unfold State.holdsUnit
  rw [unit]
  simp [address]

section
variable (unit : s.unit? x.index = some v) (address : v.address = x.address)
include unit address

/-- What a reply makes of the unit it came from (R88). -/
theorem State.applyReply_unit (r : ReplyReading) (uplink : Nat) (seed : Bool) :
    let w := (v.takeSample seed (marginSample x.hops uplink r.downlink r.hopUp)).heard s.heardSecond
    (s.applyReply ph x r uplink seed).roster = setUnit x.index w s.roster ∧
      (s.applyReply ph x r uplink seed).levels =
        if x.hops = 0 then s.levels.set ph ((s.levelRec ph).sample (s.settings.levels.get ph) r.downlink) else s.levels := by
  dsimp only
  unfold State.applyReply
  rw [State.holdsUnit_of unit address, unit]
  dsimp only
  have within (u : State) (gs : List Nat) := State.recomputeGroups_within u gs
  rw [if_neg (by decide)]
  split_ifs
  · exact ⟨(within _ _ .roster (by decide)).trans (State.modUnit_roster ..), within _ _ .levels (by decide)⟩
  · exact ⟨(within _ _ .roster (by decide)).trans (State.modUnit_roster ..), within _ _ .levels (by decide)⟩
  · exact ⟨State.modUnit_roster .., rfl⟩
  · exact ⟨State.modUnit_roster .., rfl⟩

/-- What the silence point makes of the unit that was silent, and the UNIT LOST it brings first (R89, R101). -/
theorem State.applySilence_unit :
    let w := v.silent s.settings.degradeLimit s.settings.lostLimit
    let t := s.applySilence x.index x.address
    t.roster = setUnit x.index w s.roster ∧ t.levels = s.levels ∧
      Grows (fun _ => True) ((s.modUnit x.index (fun _ => w)).noticeLost s.roster .silence) t := by
  dsimp only
  have noted := ((s.modUnit x.index (fun _ => v.silent s.settings.degradeLimit s.settings.lostLimit)).noticeLost_within
    s.roster .silence)
  unfold State.applySilence
  rw [State.holdsUnit_of unit address, unit]
  dsimp only
  have within (u : State) (gs : List Nat) := State.recomputeGroups_within u gs
  rw [if_neg (by decide)]
  split_ifs
  · refine ⟨(within _ _ .roster (by decide)).trans ?_, (within _ _ .levels (by decide)).trans ?_,
      State.recomputeGroups_grows (fun _ _ => trivial) _ _⟩
    · exact (noted .roster (by decide)).trans (State.modUnit_roster ..)
    · exact noted .levels (by decide)
  · exact ⟨(noted .roster (by decide)).trans (State.modUnit_roster ..), noted .levels (by decide), Grows.refl _⟩

end

/-- A unit that a silence makes LOST is the only one its event sets LOST. -/
theorem newlyLost_setUnit {r : Roster} (rising : Rising r) (unit : unitAt r i = some v) (was : v.state ≠ .lost)
    (now : w.state = .lost) : newlyLost r (setUnit i w r) = [(i, w)] := by
  let set_ (y : Nat × UnitRec) : Nat × UnitRec := (y.1, if y.1 = i then w else y.2)
  let lost (y : Nat × UnitRec) : Bool :=
    y.2.state == .lost && (match unitAt r y.1 with | some u => u.state != .lost | none => false)
  have member := unitAt_mem unit
  have other {y : Nat × UnitRec} (hy : y ∈ r) (apart : y.1 ≠ i) : lost (set_ y) = false := by
    have found : unitAt r y.1 = some y.2 := rising.unitAt_iff.mpr hy
    simp only [lost, set_, if_neg apart, found]
    cases y.2.state <;> rfl
  have own : lost (set_ (i, v)) = true := by
    have reachable : (v.state != .lost) = true := by simpa using was
    simp only [lost, set_, if_true, unit, now, reachable]
    rfl
  obtain ⟨front, back, split⟩ := List.append_of_mem member
  have pairs := List.pairwise_map.mp rising
  rw [split] at pairs
  have none (l : Roster) (inside : ∀ y ∈ l, y ∈ r ∧ y.1 ≠ i) : (l.map set_).filter lost = [] := by
    refine List.filter_eq_nil_iff.mpr fun z hz => ?_
    obtain ⟨y, hy, rfl⟩ := List.mem_map.mp hz
    rw [other (inside y hy).1 (inside y hy).2]
    exact Bool.false_ne_true
  have parts := List.pairwise_append.mp pairs
  show (r.map set_).filter lost = _
  rw [congrArg (List.map set_) split, List.map_append, List.filter_append, List.map_cons, List.filter_cons_of_pos own, none front,
    none back]
  · simp [set_]
  · intro y hy
    exact ⟨split ▸ List.mem_append_right _ (List.mem_cons_of_mem _ hy), ((List.pairwise_cons.mp parts.2.1).1 y hy).ne'⟩
  · intro y hy
    exact ⟨split ▸ List.mem_append_left _ hy, (parts.2.2 y hy _ List.mem_cons_self).ne⟩

/-! ### The level controller (R139, R141) -/

theorem LevelRec.sample_applied (l : LevelRec) (set : LevelSettings) (downlink : Nat) :
    { l.sample set downlink with applied := l.applied } = l.sample set downlink := by
  unfold LevelRec.sample LevelRec.close
  dsimp only
  split_ifs <;> rfl

theorem LevelRec.close_limit (l : LevelRec) (v : LevelSettings) (m : Nat) (y : LevelRec)
    (same : y.levelLimit = (l.close v m).levelLimit) : LevelLimitFollows l v m y := by
  unfold LevelLimitFollows
  simp only [← l.tolerance_cast]
  refine ⟨fun short beyond => ?_, fun short inside => ?_, fun above => ?_, fun not_short not_above => ?_⟩
  · rw [same, l.close_of_short v m (by omega)]
    have raised : v.high < l.level + divUp (v.target - m) 2 := beyond
    simp [raised]
  · rw [same, l.close_of_short v m (by omega)]
    have raised : ¬ v.high < l.level + divUp (v.target - m) 2 := inside
    simp [raised]
  · rw [same, l.close_of_above v m (by omega)]
  · rw [same, l.close_of_inBand v m (by omega) (by omega)]

/-! ### The ping record (R93) -/

theorem State.completeInFlight_of_first {front back : List PingRec} {z : PingRec} (queue : s.pingQueue ph = front ++ z :: back)
    (none : ∀ y ∈ front, y.state ≠ .inFlight ∧ isHeldFor z.origin y = false) (flying : z.state = .inFlight)
    (kept : z.dropped = false) (result : PingResult) :
    let t := s.completeInFlight ph result
    (t.pingQueue ph = front ++ back ∧ pingNotice ph z result ∈ (t.port z.origin).outq) ∨
      t.pingQueue ph = front ++ { z with state := .held result } :: back := by
  dsimp only
  have completed : s.completeInFlight ph result =
      State.offerHeld { s with pings := s.pings.set ph (front ++ { z with state := .held result } :: back) } z.origin
        (.ping ph) := by
    unfold State.completeInFlight
    rw [queue, inFlightPing_of_first (fun y hy => (none y hy).1) flying]
    dsimp only
    rw [if_neg (by rw [kept]; decide)]
    simp only [State.modPings, queue, setInFlight_of_first (fun y hy => (none y hy).1) flying]
  rw [completed]
  by_cases room : (s.port z.origin).held = [] ∧ (s.port z.origin).outq.length < 16 ∧ noticeCount (s.port z.origin).outq < 15
  · rw [s.offerHeld_ping_of_first (w := { z with state := .held result }) (result := result) (fun y hy => (none y hy).2) rfl rfl room]
    refine .inl ⟨Tri.get_set_self .., ?_⟩
    show _ ∈ ((s.pushItem z.origin (pingNotice ph z result)).port z.origin).outq
    unfold State.pushItem
    rw [State.port_modPort_self]
    exact List.mem_append_right _ (List.mem_singleton_self _)
  · rw [State.offerHeld_of_no_room (.ping ph) (by exact room)]
    exact .inr (Tri.get_set_self ..)

/-! ### From the end of the exchange to the end of the event -/

/-- The state in which the work that started an exchange takes its end. -/
def State.resulted (s : State) (ph : Phase) (x : Exchange) (reply : Option (ReplyReading × Nat)) : State :=
  (s.takeResult ph x reply).clearWork ph

/-- The state an exchange leaves as it ends, the outcomes of its event retired. -/
def State.exchangeOver (s : State) (ph : Phase) (x : Exchange) (reply : Option (ReplyReading × Nat)) : State :=
  (s.endExchange ph x reply).retireSince s

theorem State.exchangeOver_grows (s : State) (ph : Phase) (x : Exchange) (reply : Option (ReplyReading × Nat)) :
    Grows (fun _ => True) ((s.resulted ph x reply).countResult ph x reply) (s.exchangeOver ph x reply) := by
  unfold State.exchangeOver
  rw [State.endExchange_eq]
  exact (grows_workKeeps.afterWork _ ph).trans (grows_workKeeps.retireSince _ s)

theorem State.countResult_grows (s : State) (ph : Phase) (x : Exchange) (reply : Option (ReplyReading × Nat)) :
    Grows (fun _ => True) s (s.countResult ph x reply) := by
  unfold State.countResult
  split
  · exact grows_workKeeps.countExchange s _ ph x _
  · exact Grows.refl s
  · exact s.completeInFlight_grows ph _ (fun _ _ => trivial)
  · exact Grows.refl s

theorem State.resulted_grows (s : State) (ph : Phase) (x : Exchange) (reply : Option (ReplyReading × Nat)) :
    Grows (fun _ => True) (s.takeResult ph x reply) (s.exchangeOver ph x reply) :=
  ((Grows.of_ports (t := s.resulted ph x reply) rfl).trans (State.countResult_grows _ ph x reply)).trans
    (s.exchangeOver_grows ph x reply)

theorem State.exchangeOver_roster (s : State) (ph : Phase) (x : Exchange) (reply : Option (ReplyReading × Nat)) :
    (s.exchangeOver ph x reply).roster = (s.takeResult ph x reply).roster := by
  unfold State.exchangeOver
  rw [State.retireSince_roster, State.endExchange_eq, roster_workKeeps.afterWork,
    State.countResult_within _ ph x reply .roster (by decide)]
  rfl

theorem LevelsBut.exchangeOver (s : State) (ph : Phase) (x : Exchange) (reply : Option (ReplyReading × Nat)) :
    LevelsBut ph (s.takeResult ph x reply) (s.exchangeOver ph x reply) := by
  have counted : LevelsBut ph (s.takeResult ph x reply) ((s.resulted ph x reply).countResult ph x reply) :=
    .of_same ((State.countResult_within _ ph x reply .levels (by decide)).trans rfl)
  unfold State.exchangeOver
  rw [State.endExchange_eq]
  exact (counted.trans (.afterWork _ ph)).trans
    (.of_within (State.retireSince_cal _ s).within (by decide))

section
variable {reply : Option (ReplyReading × Nat)} (goes : (s.chan ph).haltPending = false) (line : s.line ≠ .running)
include goes line

theorem State.exchangeOver_chan : (s.exchangeOver ph x reply).chan ph =
    { s.chan ph with state := .idle, work := none, gapLeft := none, quiet := true } := by
  unfold State.exchangeOver
  rw [State.chan_of_within (State.retireSince_cal _ s).within (by decide), State.endExchange_chan reply goes line]

theorem State.exchangeOver_quiet : s.exchangeOver ph x reply =
    (((s.resulted ph x reply).countResult ph x reply).checkDrained.markQuiet ph).retireSince s := by
  have counted := State.countResult_within (s.resulted ph x reply) ph x reply
  have frame := s.takeResult_frame ph x reply
  have quiet := State.afterWork_quiet (s := (s.resulted ph x reply).countResult ph x reply) (ph := ph)
    (by
      rw [State.chan_of_within counted (by decide), State.resulted, State.clearWork, State.chan_modChan_self, frame]
      exact goes)
    (by
      rw [counted .line (by decide), State.resulted]
      show (s.takeResult ph x reply).line ≠ .running
      rw [frame]
      exact line)
  unfold State.exchangeOver
  rw [State.endExchange_eq]
  exact congrArg (State.retireSince · s) quiet

theorem State.exchangeOver_pings :
    (s.exchangeOver ph x reply).pings = ((s.resulted ph x reply).countResult ph x reply).pings := by
  rw [State.exchangeOver_quiet goes line, (State.retireSince_cal _ s).within .pings (by decide)]
  exact State.checkDrained_within _ .pings (by decide)

/-- The record of the ping that ends has left its queue with its PING RESULT, or is HELD in its place (R93). -/
theorem State.exchangeOver_pinged {front back : List PingRec} {z : PingRec} (owner : x.owner = .ping)
    (queue : s.pingQueue ph = front ++ z :: back)
    (none : ∀ y ∈ front, y.state ≠ .inFlight ∧ isHeldFor z.origin y = false) (flying : z.state = .inFlight)
    (kept : z.dropped = false) {result : PingResult}
    (is : reply.elim PingResult.silent (fun y => (s.resulted ph x reply).pingReplied x y.1 y.2) = result) :
    ((s.exchangeOver ph x reply).pingQueue ph = front ++ back ∧
        pingNotice ph z result ∈ ((s.exchangeOver ph x reply).port z.origin).outq) ∨
      (s.exchangeOver ph x reply).pingQueue ph = front ++ { z with state := .held result } :: back := by
  have queue' : (s.resulted ph x reply).pingQueue ph = front ++ z :: back := by
    refine Eq.trans ?_ queue
    show (s.takeResult ph x reply).pingQueue ph = _
    rw [s.takeResult_frame ph x reply]
    rfl
  have counted : (s.resulted ph x reply).countResult ph x reply = (s.resulted ph x reply).completeInFlight ph result := by
    unfold State.countResult
    rw [owner, ← is]
  have done := State.completeInFlight_of_first queue' none flying kept result
  have pings := State.exchangeOver_pings (x := x) (reply := reply) goes line
  have grows := s.exchangeOver_grows ph x reply
  rw [counted] at pings grows
  have same : (s.exchangeOver ph x reply).pingQueue ph = ((s.resulted ph x reply).completeInFlight ph result).pingQueue ph :=
    congrArg (Tri.get · ph) pings
  rw [same]
  exact done.imp_left fun ⟨gone, queued⟩ => ⟨gone, grows.outq_mem queued⟩

end

/-! ### The unit (R89) -/

/-- The silence count of a unit that was silent once more. -/
theorem UnitRec.silent_follows (u : UnitRec) (d l : Nat) :
    let v := u.silent d l
    let n := if u.silence < 255 then u.silence + 1 else u.silence
    let degraded : Prop := u.state = .active ∧ d ≤ n
    let lost : Prop := u.state ≠ .lost ∧ l ≤ n
    v = { u with silence := n, mode := v.mode, state := v.state } ∧
      (degraded → v.mode = .robust) ∧ (¬ degraded → v.mode = u.mode) ∧
      (lost → v.state = .lost) ∧ (¬ lost → degraded → v.state = .degraded) ∧ (¬ lost → ¬ degraded → v.state = u.state) := by
  dsimp only
  unfold UnitRec.silent saturatingSucc
  dsimp only
  generalize (if u.silence < 255 then u.silence + 1 else u.silence) = n
  by_cases degraded : u.state = .active ∧ d ≤ n
  · rw [if_pos degraded]
    by_cases lost : l ≤ n
    · rw [if_pos (show UnitState.degraded ≠ .lost ∧ l ≤ n from ⟨by decide, lost⟩)]
      have reachable : u.state ≠ .lost := by rw [degraded.1]; decide
      simp [degraded, lost]
    · rw [if_neg (fun both => lost both.2)]
      simp [degraded, lost]
  · rw [if_neg degraded]
    by_cases lost : u.state ≠ .lost ∧ l ≤ n
    · rw [if_pos (show _ ∧ _ from lost)]
      exact ⟨rfl, fun y => absurd y degraded, fun _ => rfl, fun _ => rfl, fun y => absurd lost y, fun y => absurd lost y⟩
    · rw [if_neg (by exact lost)]
      exact ⟨rfl, fun y => absurd y degraded, fun _ => rfl, fun y => absurd y lost, fun _ y => absurd y degraded,
        fun _ _ => rfl⟩

/-- The unit that a silence makes LOST is reported before anything else of its event (R101, log 45). -/
theorem State.exchangeOver_unitLost (unit : s.unit? x.index = some v) (address : v.address = x.address)
    (was : v.state ≠ .lost) (now : (v.silent s.settings.degradeLimit s.settings.lostLimit).state = .lost)
    (lawful : RosterLawful s) {q : Port} (length : (s.port q).outq.length < 16) (notices : noticeCount (s.port q).outq < 15) :
    ∃ more, ((s.exchangeOver ph x none).port q).outq = (s.port q).outq ++
      .notice .unitLost (be 2 x.index ++ be32 v.address ++ [phaseByte v.phase, 0]) :: more := by
  obtain ⟨-, -, noted⟩ := State.applySilence_unit unit address
  obtain ⟨more, queue, -⟩ := ((noted.trans (s.resulted_grows ph x none)) q).outq
  refine ⟨more, queue.trans ?_⟩
  rw [State.noticeLost_eq, State.modUnit_roster]
  rw [newlyLost_setUnit lawful.1.rising unit was now]
  rw [foldl_offerBoth_outq q _ _ (by exact length) (by exact notices)]
  obtain ⟨sameAddress, samePhase, -⟩ := v.silent_fixed s.settings.degradeLimit s.settings.lostLimit
  simp only [List.map_cons, List.map_nil, unitLostNotice, sameAddress, samePhase, lostCauseByte, List.append_assoc,
    List.singleton_append]
  rfl

/-! ### The events (R48) -/

/-- A reply taken from the addressed unit, still at its index (R88, R93, R139). -/
theorem replyReceived_ends {heard : HeardFrame} {r : ReplyReading} (unit : s.unit? x.index = some v)
    (address : v.address = x.address) :
    let t := s.exchangeOver ph x (some (r, marginOf heard.uplink))
    t.roster = setUnit x.index
        ((v.takeSample (s.seeds ph x) (marginSample x.hops (marginOf heard.uplink) r.downlink r.hopUp)).heard s.heardSecond)
        s.roster ∧
      (∀ k ≠ ph, t.levelRec k = s.levelRec k) ∧
      { t.levelRec ph with applied := (s.levelRec ph).applied } =
        (if x.hops = 0 then (s.levelRec ph).sample (s.settings.levels.get ph) r.downlink else s.levelRec ph) := by
  obtain ⟨roster, levels⟩ := State.applyReply_unit (ph := ph) unit address r (marginOf heard.uplink) (s.seeds ph x)
  have but := LevelsBut.exchangeOver s ph x (some (r, marginOf heard.uplink))
  refine ⟨(s.exchangeOver_roster ph x _).trans roster, fun k apart => (but.other apart).trans ?_, (but.own _).trans ?_⟩
  · unfold State.levelRec State.takeResult
    rw [levels]
    split_ifs
    · exact Tri.get_set_ne _ _ apart
    · rfl
  · unfold State.takeResult State.levelRec
    rw [levels]
    split_ifs
    · rw [Tri.get_set_self]
      exact LevelRec.sample_applied _ _ _
    · rfl

/-- Settles O51: the end of the event is read off the parts of the end of the exchange. -/
theorem repliesAndSilencesEndTheExchange : Obligations.RepliesAndSilencesEndTheExchange := by
  intro ph s x work listening
  dsimp only
  refine ⟨fun heard apart => execReplyReceived_refused work listening apart, ?_, ?_, ?_⟩
  · intro heard r v read address inside unit same
    obtain ⟨roster, others, own⟩ := replyReceived_ends (ph := ph) (heard := heard) (r := r) unit same
    refine ⟨s.exchangeOver ph x (some (r, marginOf heard.uplink)), execReplyReceived_taken work listening read address inside,
      fun ⟨goes, line⟩ => State.exchangeOver_chan goes line, ?_, ⟨others, own.trans ?_⟩, ?_, ?_⟩
    · rw [roster, setUnit_eq]
      unfold UnitRec.heard State.heardSecond marginSample
      by_cases set_ : s.clock.isSet = true
      · rw [if_pos set_, if_pos set_]
        rfl
      · rw [if_neg set_, if_neg set_]
        have kept : ∀ seed sample, (v.takeSample seed sample).lastHeard = v.lastHeard := by
          intro seed sample
          unfold UnitRec.takeSample
          split_ifs <;> rfl
        rw [Option.none_or, kept]
        rfl
    · by_cases direct : x.hops = 0
      · rw [if_pos direct, if_neg (by exact fun relayed => relayed direct)]
        rfl
      · rw [if_neg direct, if_pos direct]
    · intro direct full
      rw [if_pos direct] at own
      have limit := congrArg LevelRec.levelLimit own
      refine LevelRec.close_limit _ _ _ _ (limit.trans ?_)
      unfold LevelRec.sample
      exact congrArg LevelRec.levelLimit (if_pos full)
    · rintro front z back owner ⟨goes, line⟩ queue none flying kept
      refine State.exchangeOver_pinged goes line owner queue none flying kept ?_
      have holds : (s.resulted ph x (some (r, marginOf heard.uplink))).holdsUnit x.index x.address = true := by
        refine State.holdsUnit_of (v := (v.takeSample (s.seeds ph x)
          (marginSample x.hops (marginOf heard.uplink) r.downlink r.hopUp)).heard s.heardSecond) ?_ ?_
        · have taken := (State.applyReply_unit (ph := ph) unit same r (marginOf heard.uplink) (s.seeds ph x)).1
          exact (congrArg (unitAt · x.index) taken).trans (unitAt_setUnit_self unit)
        · refine Eq.trans ?_ same
          unfold UnitRec.heard UnitRec.takeSample
          split_ifs <;> rfl
      exact if_pos holds
  · intro early
    rw [execSilencePoint_at work listening, if_neg (by omega)]
  · intro v late unit same
    obtain ⟨roster, levels, -⟩ := State.applySilence_unit unit same
    have but := LevelsBut.exchangeOver s ph x none
    obtain ⟨record, follows⟩ := v.silent_follows s.settings.degradeLimit s.settings.lostLimit
    obtain ⟨toRobust, keepsMode, toLost, toDegraded, keepsState⟩ := follows
    refine ⟨s.exchangeOver ph x none, v.silent s.settings.degradeLimit s.settings.lostLimit, ?_,
      fun ⟨goes, line⟩ => State.exchangeOver_chan goes line, ?_, record, toRobust, keepsMode, toLost, toDegraded, keepsState,
      ⟨fun k apart => (but.other apart).trans (congrArg (Tri.get · k) levels), (but.own _).trans ?_⟩, ?_, ?_⟩
    · rw [execSilencePoint_at work listening, if_pos late]
      rfl
    · rw [s.exchangeOver_roster]
      exact roster.trans (setUnit_eq ..)
    · exact congrArg (fun l : Tri LevelRec => { l.get ph with applied := (s.levelRec ph).applied }) levels
    · rintro front z back owner ⟨goes, line⟩ queue none flying kept
      exact State.exchangeOver_pinged goes line owner queue none flying kept rfl
    · intro lost lawful q length notices
      exact State.exchangeOver_unitLost unit same lost.1 (toLost lost) lawful length notices

end Sys2Proof.Machine
end

section
/-! PROOFS. A confirmation's counts: the cursor's walk, and what the end of an exchange makes of the record of its phase
(R79, R81 to R86). -/

namespace Sys2Proof.Machine

variable {s t u : State} {ph k : Phase} {x : Exchange} {h index : Nat} {e y : Entry} {c : Confirmation} {r : PhaseProgress}
  {l : List Nat} {q : Byte}

/-! ### The cursor's walk (R79) -/

/-- The members of a group on a phase that a cursor has not passed. -/
def aheadOf (group : Nat) (ph : Phase) (cursor : Nat) (l : Roster) : Roster :=
  l.filter (fun x => decide (cursor ≤ x.1 ∧ x.2.phase = ph ∧ (group = 0 ∨ group ∈ x.2.groups)))

def isLost (x : Nat × UnitRec) : Bool := decide (x.2.state = .lost)

/-- What the members ahead, in ascending place, make of a record without a current unit. -/
def walked (capacity : Nat) (r : PhaseProgress) (ahead : Roster) : PhaseProgress :=
  let passed := { r with notAttempted := r.notAttempted + (ahead.takeWhile isLost).length }
  match ahead.dropWhile isLost with
  | x :: _ =>
      { passed with
        expected := r.expected + 1, current := some (x.1, x.2.address), attempts := 0, resendDone := false
        nextFrame := .poll, cursor := x.1 + 1 }
  | [] => { passed with cursor := max r.cursor capacity }

theorem walked_nil (capacity : Nat) (r : PhaseProgress) : walked capacity r [] = { r with cursor := max r.cursor capacity } := rfl

theorem walked_cons_lost {capacity : Nat} {x : Nat × UnitRec} {rest : Roster} (lost : x.2.state = .lost)
    (inside : x.1 < capacity) (reached : r.cursor ≤ x.1) :
    walked capacity r (x :: rest) =
      walked capacity { r with notAttempted := r.notAttempted + 1, cursor := x.1 + 1 } rest := by
  have gone : isLost x = true := decide_eq_true lost
  have end_ : max r.cursor capacity = max (x.1 + 1) capacity := by omega
  unfold walked
  rw [List.takeWhile_cons_of_pos gone, List.dropWhile_cons_of_pos gone, end_]
  have count (n : Nat) : r.notAttempted + (n + 1) = r.notAttempted + 1 + n := by omega
  dsimp only [List.length_cons]
  rw [count]

theorem walked_cons {capacity : Nat} {x : Nat × UnitRec} {rest : Roster} (reachable : x.2.state ≠ .lost) :
    walked capacity r (x :: rest) =
      { r with
        expected := r.expected + 1, current := some (x.1, x.2.address), attempts := 0, resendDone := false
        nextFrame := .poll, cursor := x.1 + 1 } := by
  have stays : ¬ isLost x = true := by simpa [isLost] using reachable
  unfold walked
  rw [List.takeWhile_cons_of_neg stays, List.dropWhile_cons_of_neg stays]
  rfl

theorem advanceOver_eq_walked (group : Nat) (ph : Phase) {capacity : Nat} (l : Roster) (r : PhaseProgress)
    (rising : l.Pairwise (·.1 < ·.1)) (inside : ∀ x ∈ l, x.1 < capacity) :
    advanceOver group ph capacity l r = walked capacity r (aheadOf group ph r.cursor l) := by
  induction l generalizing r with
  | nil => rfl
  | cons x rest ih =>
      obtain ⟨above, rising'⟩ := List.pairwise_cons.mp rising
      have inside' : ∀ z ∈ rest, z.1 < capacity := fun z hz => inside z (List.mem_cons_of_mem _ hz)
      have skips : (x.1 < r.cursor || x.2.phase != ph || !x.2.member group) = true ↔
          ¬ (r.cursor ≤ x.1 ∧ x.2.phase = ph ∧ (group = 0 ∨ group ∈ x.2.groups)) := by
        rw [← x.2.member_iff group]
        simp only [Bool.or_eq_true, decide_eq_true_eq, bne_iff_ne, Bool.not_eq_true', ← Bool.not_eq_true, ← Nat.not_le]
        tauto
      unfold advanceOver
      by_cases behind : (x.1 < r.cursor || x.2.phase != ph || !x.2.member group) = true
      · rw [if_pos behind, ih r rising' inside', aheadOf, aheadOf, List.filter_cons_of_neg]
        simpa using skips.mp behind
      · have ahead := not_not.mp (fun no => behind (skips.mpr no))
        have same : aheadOf group ph (x.1 + 1) rest = aheadOf group ph r.cursor rest :=
          List.filter_congr fun z hz => by
            have := above z hz
            have := ahead.1
            exact decide_eq_decide.mpr (and_congr_left fun _ => by omega)
        have first : aheadOf group ph r.cursor (x :: rest) = x :: aheadOf group ph r.cursor rest := by
          unfold aheadOf
          exact List.filter_cons_of_pos (decide_eq_true ahead)
        rw [if_neg behind, first]
        by_cases lost : x.2.state = .lost
        · rw [if_pos lost, ih _ rising' inside', walked_cons_lost lost (inside x List.mem_cons_self) ahead.1]
          exact congrArg _ same
        · rw [if_neg lost, walked_cons lost]

theorem State.advanceCursor_eq_walked (lawful : RosterLawful s) (group : Nat) (ph : Phase) (none : r.current = none) :
    s.advanceCursor group ph r = walked s.rosterCapacity r (aheadOf group ph r.cursor s.roster) := by
  unfold State.advanceCursor
  rw [if_neg (by rw [none]; decide)]
  exact advanceOver_eq_walked group ph _ r (List.pairwise_map.mp lawful.1.rising) lawful.2.2

/-! ### An entry and the record of one phase -/

/-- The entry of a handle stands as it was, but for one phase record and the list of the unconfirmed. -/
def State.tallies (t : State) (h : Nat) (ph : Phase) (e : Entry) (c : Confirmation) (r : PhaseProgress) (l : List Nat) : Prop :=
  t.entry? h = some { e with confirmation := some { records := c.records.set ph r, unconfirmedList := l } }

/-- A record whose current unit has been decided (R79, R83). -/
def State.unitDecided (s : State) (e : Entry) (ph : Phase) (r : PhaseProgress) : PhaseProgress :=
  if e.confirmLive then s.advanceCursor e.group ph { r with current := none } else { r with current := none }

/-- The list of the unconfirmed with one more, while it has room (R84). -/
def listedWith (index : Nat) (l : List Nat) : List Nat := if l.length < 16 then l ++ [index] else l

theorem State.tallies_of (found : s.entry? h = some e) (some_ : e.confirmation = some c) (ph : Phase) :
    s.tallies h ph e c (c.records.get ph) c.unconfirmedList := by
  unfold State.tallies
  rw [found, Tri.set_get, ← some_]

namespace State.tallies

variable (tallied : s.tallies h ph e c r l)
include tallied

theorem own : s.progress? h ph = some r := by
  rw [State.progress?_eq tallied rfl, Tri.get_set_self]

theorem other (apart : k ≠ ph) : s.progress? h k = some (c.records.get k) := by
  rw [State.progress?_eq tallied rfl, Tri.get_set_ne _ _ apart]

theorem modProgress (f : PhaseProgress → PhaseProgress) : (s.modProgress h ph f).tallies h ph e c (f r) l := by
  have changed := State.entry?_modEntry_self (f := fun e => { e with confirmation := e.confirmation.map fun c => c.modRecord ph f }) (fun _ => rfl) tallied
  refine changed.trans ?_
  simp only [Option.map_some, Confirmation.modRecord, Tri.get_set_self, Tri.set_set]

theorem decideUnit (f : PhaseProgress → PhaseProgress) :
    (s.decideUnit h ph f).tallies h ph e c (s.unitDecided e ph (f r)) l := by
  have changed := State.entry?_modEntry_self (f := fun e => { e with confirmation := e.confirmation.map fun c => c.modRecord ph (fun r => s.unitDecided e ph (f r)) }) (fun _ => rfl) tallied
  refine changed.trans ?_
  simp only [Option.map_some, Confirmation.modRecord, Tri.get_set_self, Tri.set_set]
  rfl

theorem decideUnconfirmed (index : Nat) :
    (s.decideUnconfirmed h ph index).tallies h ph e c (s.unitDecided e ph { r with unconfirmed := r.unconfirmed + 1 })
      (listedWith index l) := by
  have listed : (s.modEntry h (fun e =>
      { e with
        confirmation := e.confirmation.map (fun c =>
          if c.unconfirmedList.length < Config.unconfirmedPlaces then
            { c with unconfirmedList := c.unconfirmedList ++ [index] }
          else c) })).tallies h ph e c r (listedWith index l) := by
    have changed := State.entry?_modEntry_self (f := fun e =>
      { e with
        confirmation := e.confirmation.map (fun c =>
          if c.unconfirmedList.length < Config.unconfirmedPlaces then
            { c with unconfirmedList := c.unconfirmedList ++ [index] }
          else c) }) (fun _ => rfl) tallied
    refine changed.trans ?_
    unfold listedWith Config.unconfirmedPlaces
    by_cases room : l.length < 16
    · simp only [Option.map_some, room, if_true]
    · simp only [Option.map_some, room, if_false]
  exact listed.decideUnit _

end State.tallies

/-! ### Results for a current unit (R81 to R86) -/

/-- A record for whose unit a POLL comes next while attempts remain, and which else is unconfirmed (R84, R85). -/
def State.pollsAgain (s : State) (e : Entry) (ph : Phase) (r : PhaseProgress) : PhaseProgress :=
  if s.attemptsRemain r.attempts then { r with nextFrame := .poll }
  else s.unitDecided e ph { r with nextFrame := .poll, unconfirmed := r.unconfirmed + 1 }

def State.listsAgain (s : State) (index attempts : Nat) (l : List Nat) : List Nat :=
  if s.attemptsRemain attempts then l else listedWith index l

def PhaseProgress.polled (r : PhaseProgress) : PhaseProgress := { r with attempts := r.attempts + 1 }

/-- A record whose unit is no longer at its index, at the end of an exchange (R82, R84, R86). -/
def PhaseProgress.gone (r : PhaseProgress) (kind : ExchangeFrame) : PhaseProgress :=
  if kind = .direct then { r with nextFrame := .poll } else r.polled

/-- A record that takes a reply to a POLL (R82 to R84). -/
def State.replies (s : State) (e : Entry) (ph : Phase) (reply : Option Byte) (r : PhaseProgress) : PhaseProgress :=
  if readSequence e.sequence reply = .confirmed then s.unitDecided e ph { r.polled with confirmed := r.confirmed + 1 }
  else if readSequence e.sequence reply = .superseded then
    s.unitDecided e ph { r.polled with confirmed := r.confirmed + 1, superseded := r.superseded + 1 }
  else if r.resendDone then s.pollsAgain e ph r.polled
  else { r.polled with resendDone := true, nextFrame := .direct }

def State.repliesList (s : State) (e : Entry) (index : Nat) (reply : Option Byte) (r : PhaseProgress) (l : List Nat) : List Nat :=
  if readSequence e.sequence reply = .stale ∧ r.resendDone = true then s.listsAgain index (r.attempts + 1) l else l

namespace State.tallies

variable (tallied : s.tallies h ph e c r l)
include tallied

theorem pollAgain (index : Nat) :
    (s.pollAgain h ph index r.attempts).tallies h ph e c (s.pollsAgain e ph r) (s.listsAgain index r.attempts l) := by
  unfold State.pollAgain State.pollsAgain State.listsAgain
  have next := tallied.modProgress (fun r => { r with nextFrame := .poll })
  have same : (s.modProgress h ph (fun r => { r with nextFrame := .poll })).attemptsRemain r.attempts =
      s.attemptsRemain r.attempts := rfl
  dsimp only
  rw [same]
  split_ifs
  · exact next
  · exact next.decideUnconfirmed index

theorem directEnded (index : Nat) :
    (s.directEnded h ph index).tallies h ph e c (s.pollsAgain e ph r) (s.listsAgain index r.attempts l) := by
  unfold State.directEnded
  rw [tallied.own]
  exact tallied.pollAgain index

theorem pollSilent (index : Nat) :
    (s.pollSilent h ph index).tallies h ph e c (s.pollsAgain e ph r.polled) (s.listsAgain index (r.attempts + 1) l) := by
  have polled := tallied.modProgress PhaseProgress.polled
  unfold State.pollSilent
  dsimp only
  rw [show (s.modProgress h ph (fun r => { r with attempts := r.attempts + 1 })).progress? h ph = some r.polled from polled.own]
  exact polled.pollAgain index

theorem pollReplied (index : Nat) (reply : Option Byte) :
    (s.pollReplied h ph index reply).tallies h ph e c (s.replies e ph reply r) (s.repliesList e index reply r l) := by
  have polled := tallied.modProgress PhaseProgress.polled
  unfold State.pollReplied State.replies State.repliesList
  dsimp only
  rw [show (s.modProgress h ph (fun r => { r with attempts := r.attempts + 1 })).progress? h ph = some r.polled from polled.own,
    show (s.modProgress h ph (fun r => { r with attempts := r.attempts + 1 })).entry? h = _ from polled]
  dsimp only
  cases readSequence e.sequence reply with
  | confirmed => exact polled.decideUnit _
  | superseded => exact polled.decideUnit _
  | stale =>
      by_cases done : r.resendDone = true
      · have done' : r.polled.resendDone = true := done
        simp only [done, done', if_true]
        exact polled.pollAgain index
      · have done' : ¬ r.polled.resendDone = true := done
        simp only [done, done', if_false]
        exact polled.modProgress _

theorem decideNotReached :
    (s.decideNotReached h ph).tallies h ph e c (s.unitDecided e ph { r with notReached := r.notReached + 1 }) l :=
  tallied.decideUnit _

theorem unitGone (kind : ExchangeFrame) :
    (s.unitGone h ph kind).tallies h ph e c
      (s.unitDecided e ph { r.gone kind with notReached := r.notReached + 1 }) l := by
  have changed := tallied.modProgress (fun r : PhaseProgress => r.gone kind)
  have count : (r.gone kind).notReached = r.notReached := by
    unfold PhaseProgress.gone
    split <;> rfl
  have done := changed.decideNotReached
  rw [count] at done
  unfold State.unitGone
  refine Eq.mp (congrArg (fun f => ((s.modProgress h ph f).decideNotReached h ph).tallies h ph e c _ l) ?_) done
  funext y
  cases kind <;> rfl

end State.tallies

/-! ### The end of an exchange (R82 to R87) -/

/-- What the end of an exchange makes of the entry it confirms, before what then follows for it. -/
def State.countUnit (s : State) (h : Nat) (ph : Phase) (x : Exchange) (reply : Option (Option Byte)) : State :=
  if s.holdsUnit x.index x.address = false then s.unitGone h ph x.kind
  else if x.kind = .direct then s.directEnded h ph x.index
  else reply.elim (s.pollSilent h ph x.index) (s.pollReplied h ph x.index)

/-- What the end of an exchange makes of the record of its phase. -/
def State.counting (s : State) (e : Entry) (ph : Phase) (x : Exchange) (reply : Option (Option Byte)) (r : PhaseProgress) :
    PhaseProgress :=
  if s.holdsUnit x.index x.address = false then
    s.unitDecided e ph { r.gone x.kind with notReached := r.notReached + 1 }
  else if x.kind = .direct then s.pollsAgain e ph r
  else reply.elim (s.pollsAgain e ph r.polled) (fun reply => s.replies e ph reply r)

theorem State.countExchange_eq (s : State) (h : Nat) (ph : Phase) (x : Exchange) (reply : Option (Option Byte)) :
    s.countExchange h ph x reply = (s.countUnit h ph x reply).settleConfirm h := by
  unfold State.countExchange State.countUnit
  cases s.holdsUnit x.index x.address
  · rfl
  · cases x.kind <;> cases reply <;> rfl

theorem State.tallies.countUnit (tallied : s.tallies h ph e c r l) (x : Exchange) (reply : Option (Option Byte)) :
    ∃ l', (s.countUnit h ph x reply).tallies h ph e c (s.counting e ph x reply r) l' := by
  unfold State.countUnit State.counting
  split_ifs
  · exact ⟨_, tallied.unitGone x.kind⟩
  · exact ⟨_, tallied.directEnded x.index⟩
  · cases reply with
    | none => exact ⟨_, tallied.pollSilent x.index⟩
    | some reply => exact ⟨_, tallied.pollReplied x.index reply⟩

section
variable (roster : t.roster = s.roster) (settings : t.settings = s.settings) (live : y.confirmLive = e.confirmLive)
  (group : y.group = e.group)
include roster settings live group

theorem State.unitDecided_congr : t.unitDecided y ph r = s.unitDecided e ph r := by
  unfold State.unitDecided State.advanceCursor State.rosterCapacity
  rw [roster, settings, live, group]

theorem State.pollsAgain_congr : t.pollsAgain y ph r = s.pollsAgain e ph r := by
  unfold State.pollsAgain State.attemptsRemain
  rw [State.unitDecided_congr roster settings live group, settings]

theorem State.counting_congr (sequence : y.sequence = e.sequence) (reply : Option (Option Byte)) :
    t.counting y ph x reply r = s.counting e ph x reply r := by
  have holds : t.holdsUnit x.index x.address = s.holdsUnit x.index x.address := by
    unfold State.holdsUnit State.unit?
    rw [roster]
  unfold State.counting State.replies
  simp only [State.unitDecided_congr roster settings live group, State.pollsAgain_congr roster settings live group, sequence, holds]

end

/-- The entry keeps its progress where its outcome is decided with its counts as they stand. -/
theorem State.settleConfirm_confirmation (found : s.entry? h = some e) (going : e.confirmStopped = false) :
    ∃ y, (s.settleConfirm h).entry? h = some y ∧ y.confirmation = e.confirmation := by
  have decided : ∃ y, (s.decideOutcome h).entry? h = some y ∧ y.confirmation = e.confirmation := by
    refine ⟨_, State.entry?_modEntry_self (fun e => ?_) found, ?_⟩ <;> split <;> rfl
  unfold State.settleConfirm
  rw [found]
  dsimp only
  simp only [going, Bool.false_eq_true, if_false]
  split_ifs
  · exact ⟨e, found, rfl⟩
  · exact decided
  · exact ⟨e, found, rfl⟩
  · exact decided

/-! ### An entry alone in its group (R74) -/

/-- Only the parts of the entry differ. -/
def Entry.Reparted (e x : Entry) : Prop := x = { e with parts := x.parts, cutOffReached := x.cutOffReached }

/-- An entry that no other entry of its group stands beside, with its progress as it was. -/
def State.Spares (s : State) (h : Nat) (e : Entry) : Prop :=
  (∃ x, s.entry? h = some x ∧ e.Reparted x) ∧ ∀ y ∈ s.calendar, y.handle ≠ h → y.group ≠ e.group

theorem Entry.Reparted.trans {e x y : Entry} (a : e.Reparted x) (b : x.Reparted y) : e.Reparted y := by
  unfold Entry.Reparted at a b ⊢
  rw [b, a]

namespace State.Spares

theorem of_same (spares : s.Spares h e) (same : t.calendar = s.calendar) : t.Spares h e := by
  unfold State.Spares at spares ⊢
  rwa [State.entry?_of_same same, same]

/-- Nothing that keeps what was fixed at admission puts another entry into the group. -/
theorem alone (spares : s.Spares h e) (kept : KeepsPlans s t) : ∀ y ∈ t.calendar, y.handle ≠ h → y.group ≠ e.group := by
  intro y hy apart
  obtain ⟨z, hz, same⟩ := List.mem_map.mp (kept.2.1.subset (List.mem_map_of_mem (f := Entry.fixed) hy))
  rw [← Entry.fixed_group same]
  exact spares.2 z hz (Entry.fixed_handle same ▸ apart)

theorem edited (spares : s.Spares h e) (kept : KeepsPlans s t) {k : Nat} (edits : Edits k s t)
    (own : k = h → ∀ x, s.entry? h = some x → e.Reparted x → ∃ y, t.entry? h = some y ∧ x.Reparted y) : t.Spares h e := by
  refine ⟨?_, spares.alone kept⟩
  obtain ⟨x, found, same⟩ := spares.1
  by_cases is : k = h
  · obtain ⟨y, found', same'⟩ := own is x found same
    exact ⟨y, found', same.trans same'⟩
  · exact ⟨x, (edits.entry?_ne (Ne.symm is)).trans found, same⟩

theorem reviewParts (spares : s.Spares h e) (recomputes : Bool) (k : Nat) : (s.reviewParts recomputes false k).Spares h e := by
  refine spares.edited (plans_workKeeps.reviewParts s recomputes false k) (Edits.reviewParts s recomputes false k) ?_
  rintro rfl x found -
  obtain ⟨y, found', same, -⟩ := State.reviewParts_entry found recomputes false
  exact ⟨y, found', same⟩

theorem judgeCutShort (spares : s.Spares h e) (k : Nat) : (s.judgeCutShort k).Spares h e := by
  refine spares.edited (plans_workKeeps.judgeCutShort s k) (Edits.judgeCutShort s k) ?_
  rintro rfl x found same
  have alone : s.dueAgainst x = false := by
    unfold State.dueAgainst
    rw [List.any_eq_false]
    intro y hy
    by_cases apart : y.handle = x.handle
    · simp [apart]
    · have other := spares.2 y hy (State.entry?_handle found ▸ apart)
      have group : x.group = e.group := by rw [same]
      simp [group, other]
  refine ⟨x, ?_, rfl⟩
  unfold State.judgeCutShort State.toCutShort
  rw [found]
  dsimp only
  rw [alone, Bool.and_false, if_neg Bool.false_ne_true, found]

theorem settleEntry (spares : s.Spares h e) (confirming : e.confirmation.isSome = true) (k : Nat) : (s.settleEntry k).Spares h e := by
  refine spares.edited (plans_workKeeps.settleEntry s k) (Edits.settleEntry s k) ?_
  rintro rfl x found same
  have stays : x.confirmation.isSome = true := by rwa [same]
  refine ⟨x, ?_, rfl⟩
  unfold State.settleEntry
  rw [found]
  dsimp only
  rw [stays, Bool.or_true, if_pos rfl, found]

variable (confirming : e.confirmation.isSome = true)
include confirming

theorem recompute (spares : s.Spares h e) (test : Entry → Bool) : (s.recompute test).Spares h e := by
  unfold State.recompute State.review
  have reviewed : ∀ (es : List Entry) (s : State), s.Spares h e →
      (es.foldl (fun s x => s.reviewParts true false x.handle) s).Spares h e := by
    intro es
    induction es with
    | nil => exact fun s spares => spares
    | cons y rest ih => exact fun s spares => ih _ (spares.reviewParts true y.handle)
  have followed : ∀ (es : List Entry) (s : State), s.Spares h e →
      (es.foldl (fun s x => s.reviewEntry x.handle) s).Spares h e := by
    intro es
    induction es with
    | nil => exact fun s spares => spares
    | cons y rest ih => exact fun s spares => ih _ ((spares.settleEntry confirming y.handle).judgeCutShort y.handle)
  exact followed _ _ (reviewed _ s spares)

theorem recomputeGroups (spares : s.Spares h e) (gs : List Nat) : (s.recomputeGroups gs).Spares h e := by
  refine State.Spares.recompute confirming (spares.of_same ?_) _
  exact foldl_frame (fun s t : State => t.calendar = s.calendar) (fun _ => rfl) (fun a b => b.trans a) State.refigure
    (fun _ _ => rfl) _ s

/-- Neither the reply nor the silence touches the progress of an entry alone in its group (R41, R74). -/
theorem takeResult (spares : s.Spares h e) (ph : Phase) (x : Exchange) (reply : Option (ReplyReading × Nat)) :
    (s.takeResult ph x reply).Spares h e := by
  unfold State.takeResult
  cases reply with
  | some y =>
      have sampled (v : UnitRec) : (if x.hops = 0 then
          (s.modUnit x.index (fun _ => v)).modLevel ph (fun l => l.sample (s.settings.levels.get ph) y.1.downlink)
          else s.modUnit x.index (fun _ => v)).Spares h e :=
        spares.of_same (by split <;> rfl)
      unfold State.applyReply
      dsimp only
      by_cases gone : (!s.holdsUnit x.index x.address) = true
      · rw [if_pos gone]
        exact spares
      · rw [if_neg gone]
        cases s.unit? x.index with
        | none => exact spares
        | some u =>
            dsimp only
            split
            · exact State.Spares.recomputeGroups confirming (sampled _) _
            · exact sampled _
  | none =>
      have noted (v : UnitRec) : ((s.modUnit x.index (fun _ => v)).noticeLost s.roster .silence).Spares h e :=
        spares.of_same (by rw [State.noticeLost_ports]; rfl)
      unfold State.applySilence
      dsimp only
      split_ifs
      · exact spares
      · split
        · split_ifs
          · exact State.Spares.recomputeGroups confirming (noted _) _
          · exact noted _
        · exact spares

end State.Spares

/-- A unit keeps its index and its address through its own reply or silence. -/
theorem State.takeResult_holds (s : State) (ph : Phase) (x : Exchange) (reply : Option (ReplyReading × Nat)) :
    (s.takeResult ph x reply).holdsUnit x.index x.address = s.holdsUnit x.index x.address := by
  by_cases holds : s.holdsUnit x.index x.address = true
  · obtain ⟨v, unit, address⟩ : ∃ v, s.unit? x.index = some v ∧ v.address = x.address := by
      unfold State.holdsUnit at holds
      cases found : s.unit? x.index with
      | none =>
          rw [found] at holds
          cases holds
      | some v =>
          rw [found] at holds
          exact ⟨v, rfl, by simpa using holds⟩
    have kept {w : UnitRec} (same : w.address = v.address)
        (roster : (s.takeResult ph x reply).roster = setUnit x.index w s.roster) :
        (s.takeResult ph x reply).holdsUnit x.index x.address = true := by
      refine State.holdsUnit_of (v := w) ?_ (same.trans address)
      unfold State.unit?
      rw [roster]
      exact unitAt_setUnit_self unit
    rw [holds]
    rcases reply with _ | ⟨r, uplink⟩
    · exact kept (v.silent_fixed _ _).1 (State.applySilence_unit unit address).1
    · exact kept (v.heard_takeSample_fixed _ _ _).1 (State.applyReply_unit unit address r uplink _).1
  · have gone : s.takeResult ph x reply = s := by
      have absent : (!s.holdsUnit x.index x.address) = true := by simpa using holds
      rcases reply with _ | ⟨r, uplink⟩
      · exact if_pos absent
      · exact if_pos absent
    rw [gone]

/-- The end of an exchange counts for the entry it confirms, where nothing else of its group stands in the calendar. -/
theorem State.exchangeOver_counts {reply : Option (ReplyReading × Nat)} (owner : x.owner = .confirm (some h))
    (found : s.entry? h = some e) (confirming : e.confirming = true) (going : e.confirmStopped = false)
    (alone : ∀ y ∈ s.calendar, y.handle ≠ h → y.group ≠ e.group) (line : s.line ≠ .running)
    (goes : (s.chan ph).haltPending = false) :
    let t := s.exchangeOver ph x reply
    t.entry? h = none ∨
      t.progress? h ph =
        (State.countUnit { s with roster := t.roster } h ph x (reply.map (·.1.sequence))).progress? h ph := by
  dsimp only
  obtain ⟨-, -, some_⟩ := (Entry.confirming_iff e).mp confirming
  obtain ⟨c, is⟩ := Option.isSome_iff_exists.mp some_
  have frame := s.takeResult_frame ph x reply
  have spares := State.Spares.takeResult some_ (h := h) (s := s) ⟨⟨e, found, rfl⟩, alone⟩ ph x reply
  obtain ⟨⟨y, found', same⟩, -⟩ := spares.of_same (t := s.resulted ph x reply) rfl
  have is' : y.confirmation = some c := by rw [same, is]
  obtain ⟨l, counted⟩ := (State.tallies_of found' is' ph).countUnit x (reply.map (·.1.sequence))
  obtain ⟨z, found'', keeps⟩ := State.settleConfirm_confirmation counted (by rw [same]; exact going)
  rw [← State.countExchange_eq] at found''
  have counts : (s.resulted ph x reply).countResult ph x reply =
      (s.resulted ph x reply).countExchange h ph x (reply.map (·.1.sequence)) := by
    unfold State.countResult
    rw [owner]
  rw [← counts] at found''
  have after : (s.exchangeOver ph x reply).entry? h = none ∨ (s.exchangeOver ph x reply).entry? h = some z := by
    rw [State.exchangeOver_quiet goes line]
    have calm : (((s.resulted ph x reply).countResult ph x reply).checkDrained.markQuiet ph).entry? h = some z :=
      (State.entry?_of_same (State.checkDrained_within _ .calendar (by decide))).trans found''
    obtain gone | ⟨y, stands, rfl⟩ := (Traces.retireSince (Q := Eq) (fun _ => rfl) Eq.trans _ s).2 z calm
    · exact .inl gone
    · exact .inr stands
  obtain gone | stands := after
  · exact .inl gone
  · right
    obtain ⟨l', spelt⟩ := (State.tallies_of (s := { s with roster := (s.exchangeOver ph x reply).roster }) found is ph).countUnit
      x (reply.map (·.1.sequence))
    have congr := State.counting_congr (s := { s with roster := (s.exchangeOver ph x reply).roster })
      (t := s.resulted ph x reply) (e := e) (y := y) (ph := ph) (x := x) (r := c.records.get ph)
      (s.exchangeOver_roster ph x reply).symm
      (by
        show (s.takeResult ph x reply).settings = s.settings
        rw [frame])
      (by rw [same]; rfl)
      (by rw [same]) (by rw [same]) (reply.map (·.1.sequence))
    rw [spelt.own, State.progress?_eq stands keeps, Tri.get_set_self, congr]

/-! ### The record by the tables of R82 to R86 -/

theorem State.unitDecided_live (live : e.confirmLive = true) :
    s.unitDecided e ph r = s.advanceCursor e.group ph { r with current := none } := if_pos live

theorem State.pollsAgain_within (remain : r.attempts < 1 + s.settings.pollRetries) :
    s.pollsAgain e ph r = { r with nextFrame := .poll } := if_pos (decide_eq_true remain)

theorem State.pollsAgain_spent (spent : 1 + s.settings.pollRetries ≤ r.attempts) (index : Nat) (l : List Nat) :
    s.pollsAgain e ph r = s.unitDecided e ph { r with nextFrame := .poll, unconfirmed := r.unconfirmed + 1 } ∧
      s.listsAgain index r.attempts l = listedWith index l := by
  have none : ¬ s.attemptsRemain r.attempts = true := by simpa [State.attemptsRemain] using spent
  exact ⟨if_neg none, if_neg none⟩

/-- A reply's sequence by its distance from the entry's (R83). -/
theorem readSequence_of_distance {reply : Option Byte} :
    (reply.map (fun x => (x - q).toNat) = some 0 → readSequence (some q) reply = .confirmed) ∧
      (∀ d, reply.map (fun x => (x - q).toNat) = some d → 1 ≤ d → d ≤ 127 → readSequence (some q) reply = .superseded) ∧
      ((∀ d, reply.map (fun x => (x - q).toNat) = some d → 128 ≤ d) → readSequence (some q) reply = .stale) := by
  cases reply with
  | none => exact ⟨nofun, nofun, fun _ => rfl⟩
  | some x =>
      have zero : x - q = 0 ↔ (x - q).toNat = 0 := BitVec.toNat_eq
      unfold readSequence
      dsimp only [Option.map_some]
      simp only [Option.some.injEq, zero]
      refine ⟨fun same => if_pos same, ?_, ?_⟩
      · rintro d rfl one most
        rw [if_neg (by omega), if_pos most]
      · intro far
        have := far _ rfl
        rw [if_neg (by omega), if_neg (by omega)]

/-- Settles O52: the walk by induction over the roster, the counts read off `State.tallies`, and the end of an exchange
off `State.exchangeOver_counts`. -/
theorem confirmationCountsItsResults : Obligations.ConfirmationCountsItsResults := by
  refine ⟨?_, ?_, ?_⟩
  · intro s group ph r lawful none
    dsimp only
    rw [State.advanceCursor_eq_walked lawful group ph none]
    unfold walked
    rfl
  · intro s h ph index e c q found some_ sequence live
    dsimp only
    have start := State.tallies_of found some_ ph
    have moved {t : State} {r l} (tallied : t.tallies h ph e c r l) :
        (∀ k ≠ ph, t.progress? h k = some (c.records.get k)) ∧ t.progress? h ph = some r :=
      ⟨fun k apart => tallied.other apart, tallied.own⟩
    have decided {t : State} {r l} (tallied : t.tallies h ph e c (s.unitDecided e ph r) l) :
        (∀ k ≠ ph, t.progress? h k = some (c.records.get k)) ∧
          t.progress? h ph = some (s.advanceCursor e.group ph { r with current := none }) := by
      rw [State.unitDecided_live live] at tallied
      exact moved tallied
    have again {t : State} {r : PhaseProgress}
        (tallied : t.tallies h ph e c (s.pollsAgain e ph r) (s.listsAgain index r.attempts c.unconfirmedList)) :
        (r.attempts < 1 + s.settings.pollRetries →
          (∀ k ≠ ph, t.progress? h k = some (c.records.get k)) ∧ t.progress? h ph = some { r with nextFrame := .poll }) ∧
        (1 + s.settings.pollRetries ≤ r.attempts →
          ((∀ k ≠ ph, t.progress? h k = some (c.records.get k)) ∧
            t.progress? h ph = some (s.advanceCursor e.group ph
              { r with nextFrame := .poll, unconfirmed := r.unconfirmed + 1, current := none })) ∧
          ∀ y d, t.entry? h = some y → y.confirmation = some d →
            d.unconfirmedList =
              if c.unconfirmedList.length < 16 then c.unconfirmedList ++ [index] else c.unconfirmedList) := by
      refine ⟨fun remain => ?_, fun spent => ?_⟩
      · rw [State.pollsAgain_within remain] at tallied
        exact moved tallied
      · obtain ⟨record, list⟩ := State.pollsAgain_spent (e := e) (ph := ph) spent index c.unconfirmedList
        rw [record, list] at tallied
        refine ⟨decided tallied, fun y d stands is => ?_⟩
        rw [show t.entry? h = _ from tallied] at stands
        cases stands
        cases is
        rfl
    refine ⟨fun reply => ?_, ?_, ?_, ?_, ?_, ?_⟩
    · obtain ⟨same, near, far⟩ := readSequence_of_distance (q := q) (reply := reply)
      have replied := start.pollReplied index reply
      unfold State.replies State.repliesList at replied
      rw [sequence] at replied
      refine ⟨fun zero => ?_, fun d is one most => ?_, fun stale => ⟨fun clear => ?_, fun set_ => ?_⟩⟩
      · rw [if_pos (same zero)] at replied
        exact decided replied
      · rw [near d is one most, if_neg (by decide), if_pos rfl] at replied
        exact decided replied
      · rw [far stale, if_neg (by decide), if_neg (by decide), clear, if_neg (by decide)] at replied
        exact moved replied
      · rw [far stale, if_neg (by decide), if_neg (by decide), set_, if_pos rfl, if_pos ⟨rfl, rfl⟩] at replied
        exact again (r := (c.records.get ph).polled) replied
    · exact again (r := (c.records.get ph).polled) (start.pollSilent index)
    · exact again (start.directEnded index)
    · exact decided start.decideNotReached
    · exact decided (start.unitGone .poll)
    · exact decided (start.unitGone .direct)
  · intro s ph x h e work listening owner found confirming going alone line goes
    dsimp only
    have holds (reply : Option (ReplyReading × Nat)) :
        State.holdsUnit { s with roster := (s.exchangeOver ph x reply).roster } x.index x.address =
          s.holdsUnit x.index x.address := by
      rw [s.exchangeOver_roster ph x reply]
      exact s.takeResult_holds ph x reply
    refine ⟨fun late => ⟨s.exchangeOver ph x none, ?_, ?_⟩, fun heard r read address inside =>
      ⟨s.exchangeOver ph x (some (r, marginOf heard.uplink)), execReplyReceived_taken work listening read address inside, ?_⟩⟩
    · rw [execSilencePoint_at work listening, if_pos late]
      rfl
    · have counts := State.exchangeOver_counts (reply := none) owner found confirming going alone line goes
      dsimp only at counts
      unfold State.countUnit at counts
      rw [holds] at counts
      exact counts
    · have counts := State.exchangeOver_counts (reply := some (r, marginOf heard.uplink)) owner found confirming going alone line
        goes
      dsimp only at counts
      unfold State.countUnit at counts
      rw [holds] at counts
      exact counts

end Sys2Proof.Machine
end

section
/-! PROOFS. A channel that halts: its pings, its registration list and the confirmations on its phase (R59, R73, R75,
R94, R127). -/

namespace Sys2Proof.Machine

variable {s t u a b : State} {ph k : Phase} {x : Exchange} {h : Nat} {e y : Entry}

/-! ### The pings of a halted channel (R75, R94) -/

def isQueued (r : PingRec) : Bool := r.state = .queued

theorem isQueued_iff (r : PingRec) : isQueued r = true ↔ r.state = .queued := decide_eq_true_iff

/-- The records of a queue that are QUEUED. -/
def State.waitingPings (s : State) (ph : Phase) : List PingRec := (s.pingQueue ph).filter isQueued

theorem waiting_of_without {front back : List PingRec} {z : PingRec} {result : PingResult} (held : z.state = .held result) :
    (front ++ z :: back).filter isQueued = (front ++ back).filter isQueued := by
  have not : ¬ isQueued z = true := by
    rw [isQueued_iff, held]
    exact fun same => PingState.noConfusion same
  rw [List.filter_append, List.filter_cons_of_neg not, List.filter_append]

theorem State.offerHeld_ping_waiting (s : State) (p : Port) (ph : Phase) :
    (s.offerHeld p (.ping ph)).waitingPings ph = s.waitingPings ph := by
  unfold State.waitingPings State.pingQueue
  obtain same | ⟨front, z, back, result, queue, held, pings, -⟩ := s.offerHeld_ping_cases p ph
  · rw [same]
  · rw [pings, Tri.get_set_self]
    rw [show s.pings.get ph = _ from queue, waiting_of_without held]

/-- Completing the oldest QUEUED record leaves the others. -/
theorem State.completeQueued_waiting {r : PingRec} {rest : List PingRec} (waiting : s.waitingPings ph = r :: rest) (result : PingResult) :
    oldestQueued (s.pingQueue ph) = some r ∧ (s.completeQueued ph result).waitingPings ph = rest := by
  have walk (q : List PingRec) : q.filter isQueued = r :: rest →
      oldestQueued q = some r ∧ (setOldestQueued (.held result) q).filter isQueued = rest := by
    induction q with
    | nil => nofun
    | cons x back ih =>
        intro is
        unfold oldestQueued setOldestQueued
        by_cases queued : x.state = .queued
        · rw [List.filter_cons_of_pos ((isQueued_iff x).mpr queued)] at is
          cases is
          rw [List.find?_cons_of_pos (by simpa using queued), if_pos queued, List.filter_cons_of_neg]
          · exact ⟨rfl, rfl⟩
          · rw [isQueued_iff]
            exact fun same => PingState.noConfusion same
        · have not : ¬ isQueued x = true := mt (isQueued_iff x).mp queued
          rw [List.filter_cons_of_neg not] at is
          rw [List.find?_cons_of_neg (by simpa using queued), if_neg queued, List.filter_cons_of_neg not]
          exact ih is
  obtain ⟨oldest, others⟩ := walk _ waiting
  refine ⟨oldest, ?_⟩
  unfold State.completeQueued
  rw [oldest]
  dsimp only
  rw [State.offerHeld_ping_waiting]
  unfold State.waitingPings
  rw [State.pingQueue_modPings_self]
  exact others

/-- Every ping that was QUEUED is completed, and shows its result. -/
theorem State.silence_all (ph : Phase) (result : PingResult) (l : List PingRec) :
    ∀ s : State, s.waitingPings ph = l →
      let t := l.foldl (fun s _ => s.completeQueued ph result) s
      Shows s t ∧ t.waitingPings ph = [] ∧
        ∀ r ∈ l, t.Shown ph { r with state := .held result } result := by
  induction l with
  | nil => exact fun s waiting => ⟨.refl s, waiting, nofun⟩
  | cons r rest ih =>
      intro s waiting
      obtain ⟨oldest, others⟩ := State.completeQueued_waiting waiting result
      obtain ⟨shows, none, shown⟩ := ih _ others
      refine ⟨(Shows.completeQueued s ph result).trans shows, none, fun z hz => ?_⟩
      obtain rfl | later := List.mem_cons.mp hz
      · exact shows ph _ result rfl (State.completeQueued_shown oldest result)
      · exact shown z later

theorem State.silenceQueue_shown (s : State) (ph : Phase) :
    Shows s (s.silenceQueue ph) ∧ (∀ r ∈ (s.silenceQueue ph).pingQueue ph, r.state ≠ .queued) ∧
      ∀ r ∈ s.pingQueue ph, r.state = .queued → (s.silenceQueue ph).Shown ph { r with state := .held .silent } .silent := by
  obtain ⟨shows, none, shown⟩ := State.silence_all ph .silent _ s rfl
  refine ⟨shows, fun r hr queued => ?_, fun r hr queued => shown r (List.mem_filter.mpr ⟨hr, (isQueued_iff r).mpr queued⟩)⟩
  exact List.filter_eq_nil_iff.mp none r hr ((isQueued_iff r).mpr queued)

/-! ### The confirmations on the phase of a halted channel (R73) -/

/-- No confirmation goes on with work on the phase. -/
def Entry.EndedOn (ph : Phase) (e : Entry) : Prop := e.confirming = true → e.confirmLive = true → e.hasConfirmWork ph = false

theorem State.endPhase_ended (s : State) (ph : Phase) (e : Entry) : (s.endPhase ph e).hasConfirmWork ph = false := by
  unfold State.endPhase Entry.hasConfirmWork
  cases e.confirmation with
  | none => rfl
  | some c =>
      dsimp only [Option.map_some, Confirmation.modRecord]
      rw [Tri.get_set_self]
      rfl

/-- What then follows for an entry brings no other entry work on a phase. -/
theorem State.settleConfirm_ended (s : State) (h : Nat) :
    ∀ y ∈ (s.settleConfirm h).calendar, ∃ e ∈ s.calendar, y.handle = e.handle ∧ (e.EndedOn ph → y.EndedOn ph) := by
  have changed (u : State) (f : Entry → Entry) (kept : ∀ e, (f e).handle = e.handle) (ends : ∀ e, e.EndedOn ph → (f e).EndedOn ph) :
      ∀ y ∈ (u.modEntry h f).calendar, ∃ e ∈ u.calendar, y.handle = e.handle ∧ (e.EndedOn ph → y.EndedOn ph) := by
    intro y hy
    obtain ⟨e, he, rfl⟩ := List.mem_map.mp hy
    refine ⟨e, he, ?_⟩
    split
    · exact ⟨kept e, ends e⟩
    · exact ⟨rfl, id⟩
  have decided (u : State) : ∀ y ∈ (u.decideOutcome h).calendar, ∃ e ∈ u.calendar, y.handle = e.handle ∧ (e.EndedOn ph → y.EndedOn ph) := by
    refine changed u _ (fun e => ?_) fun e ended => ?_
    · split <;> rfl
    · split
      · exact ended
      · intro confirming
        obtain ⟨undecided, -⟩ := (Entry.confirming_iff _).mp confirming
        cases undecided
  have counted : ∀ y ∈ (s.modEntry h s.countAllNotReached).calendar, ∃ e ∈ s.calendar, y.handle = e.handle ∧ (e.EndedOn ph → y.EndedOn ph) := by
    refine changed s _ (fun _ => rfl) fun e _ _ _ => ?_
    unfold State.countAllNotReached Entry.hasConfirmWork
    cases e.confirmation with
    | none => rfl
    | some c => cases ph <;> rfl
  have same : ∀ y ∈ s.calendar, ∃ e ∈ s.calendar, y.handle = e.handle ∧ (e.EndedOn ph → y.EndedOn ph) := fun y hy => ⟨y, hy, rfl, id⟩
  unfold State.settleConfirm
  split
  · split_ifs
    · exact same
    · exact decided s
    · intro y hy
      obtain ⟨z, hz, handle, ends⟩ := decided _ y hy
      obtain ⟨e, he, handle', ends'⟩ := counted z hz
      exact ⟨e, he, handle.trans handle', ends ∘ ends'⟩
    · exact same
    · exact decided s
  · exact same

/-- Confirmation on the phase ends for one entry. -/
def State.endFor (ph : Phase) (s : State) (e : Entry) : State := (s.modEntry e.handle (s.endPhase ph)).settleConfirm e.handle

theorem State.endFor_ended (s : State) (e : Entry) :
    ∀ y ∈ (s.endFor ph e).calendar, ∃ z ∈ s.calendar, y.handle = z.handle ∧ (z.handle = e.handle ∨ z.EndedOn ph → y.EndedOn ph) := by
  intro y hy
  obtain ⟨z, hz, handle, ends⟩ := State.settleConfirm_ended (ph := ph) _ e.handle y hy
  obtain ⟨w, hw, rfl⟩ := List.mem_map.mp hz
  refine ⟨w, hw, ?_⟩
  by_cases own : w.handle = e.handle
  · rw [if_pos (by simpa using own)] at handle ends
    exact ⟨handle, fun _ => ends fun _ _ => s.endPhase_ended ph w⟩
  · rw [if_neg (by simpa using own)] at handle ends
    exact ⟨handle, fun either => ends (either.resolve_left own)⟩

theorem State.foldl_endFor_ended (es : List Entry) : ∀ s : State,
    (∀ e ∈ s.calendar, (∃ x ∈ es, x.handle = e.handle) ∨ e.EndedOn ph) →
      ∀ y ∈ (es.foldl (State.endFor ph) s).calendar, y.EndedOn ph := by
  induction es with
  | nil => exact fun s ended y hy => (ended y hy).resolve_left fun ⟨_, no, _⟩ => (List.not_mem_nil no)
  | cons x rest ih =>
      intro s ended
      refine ih _ fun y hy => ?_
      obtain ⟨z, hz, handle, ends⟩ := State.endFor_ended s x y hy
      obtain ⟨w, hw, same⟩ | already := ended z hz
      · obtain rfl | later := List.mem_cons.mp hw
        · exact .inr (ends (.inl same.symm))
        · exact .inl ⟨w, later, same.trans handle.symm⟩
      · exact .inr (ends (.inr already))

theorem State.haltConfirmations_ended (s : State) (ph : Phase) : ∀ y ∈ (s.haltConfirmations ph).calendar, y.EndedOn ph := by
  refine State.foldl_endFor_ended _ s fun e he => ?_
  by_cases goes : (e.confirming && e.confirmLive && e.hasConfirmWork ph) = true
  · exact .inl ⟨e, List.mem_filter.mpr ⟨he, goes⟩, rfl⟩
  · refine .inr fun confirming live => ?_
    rwa [confirming, live, Bool.and_self, Bool.true_and, Bool.not_eq_true] at goes

/-! ### One confirmation that ends (R73) -/

/-- An entry that takes the cut-short flag as its confirmation ends on one phase. -/
def State.endedOn (s : State) (ph : Phase) (e : Entry) (p : Confirmation) : Entry :=
  { e with
    cutShort := true
    confirmation := some { p with records := p.records.set ph (endedEarly s e.group ph (p.records.get ph)) } }

theorem State.endPhase_eq {p : Confirmation} (some_ : e.confirmation = some p) : s.endPhase ph e = s.endedOn ph e p := by
  unfold State.endPhase State.endedOn Confirmation.modRecord
  rw [some_, Option.map_some, State.countNotReached_eq]

theorem Edits.endFor (s : State) (ph : Phase) (e : Entry) : Edits e.handle s (s.endFor ph e) :=
  (Edits.modEntry s e.handle (f := s.endPhase ph) (fun _ => rfl)).trans (.settleConfirm _ _)

theorem State.endFor_cal (s : State) (ph : Phase) (e : Entry) : CalFrame s (s.endFor ph e) :=
  CalFrame.trans (State.modEntry_cal s e.handle (s.endPhase ph)) (State.settleConfirm_cal _ e.handle)

theorem State.foldl_endFor_ne {es : List Entry} (apart : ∀ y ∈ es, y.handle ≠ h) (s : State) :
    (es.foldl (State.endFor ph) s).entry? h = s.entry? h := by
  induction es generalizing s with
  | nil => rfl
  | cons y rest ih =>
      rw [List.foldl_cons, ih fun z hz => apart z (List.mem_cons_of_mem _ hz)]
      exact (Edits.endFor s ph y).entry?_ne (apart y List.mem_cons_self).symm

theorem State.foldl_endFor_cal (es : List Entry) (s : State) : CalFrame s (es.foldl (State.endFor ph) s) :=
  foldl_frame CalFrame CalFrame.refl CalFrame.trans _ (fun s e => s.endFor_cal ph e) es s

theorem CalFrame.endedOn (frame : CalFrame s t) (e : Entry) (p : Confirmation) : t.endedOn ph e p = s.endedOn ph e p := by
  rw [frame]
  rfl

/-- The entry whose confirmation ends on the phase: as the end leaves it, or with its outcome decided (R73, R87). -/
theorem State.haltConfirmations_entry {p : Confirmation} (nodup : (s.calendar.map (·.handle)).Nodup) (he : e ∈ s.calendar)
    (confirming : e.confirming = true) (live : e.confirmLive = true) (work : e.hasConfirmWork ph = true)
    (some_ : e.confirmation = some p) :
    (s.haltConfirmations ph).entry? e.handle = some (s.settleTo (s.endedOn ph e p)) := by
  have chosen : e ∈ s.calendar.filter (fun e => e.confirming && e.confirmLive && e.hasConfirmWork ph) :=
    List.mem_filter.mpr ⟨he, by rw [confirming, live, work]; rfl⟩
  obtain ⟨front, back, split⟩ := List.append_of_mem chosen
  have nodup' : ((front ++ e :: back).map (·.handle)).Nodup := split ▸ nodup.sublist (List.filter_sublist.map _)
  rw [List.map_append, List.map_cons, List.nodup_append] at nodup'
  obtain ⟨-, after, before⟩ := nodup'
  have frame : CalFrame s (front.foldl (State.endFor ph) s) := State.foldl_endFor_cal front s
  have found : (front.foldl (State.endFor ph) s).entry? e.handle = some e := by
    rw [State.foldl_endFor_ne fun y hy => before _ (List.mem_map_of_mem hy) _ List.mem_cons_self]
    exact State.entry?_of_mem nodup he
  have changed := State.entry?_modEntry_self (f := (front.foldl (State.endFor ph) s).endPhase ph) (fun _ => rfl) found
  rw [State.endPhase_eq some_, frame.endedOn] at changed
  have settled := State.settleConfirm_entry changed ((Entry.confirming_iff _).mpr (by
    obtain ⟨undecided, finished, -⟩ := (Entry.confirming_iff e).mp confirming
    exact ⟨undecided, finished, rfl⟩))
  have frame' : CalFrame s ((front.foldl (State.endFor ph) s).modEntry e.handle
      ((front.foldl (State.endFor ph) s).endPhase ph)) := frame.trans (State.modEntry_cal _ _ _)
  show ((s.calendar.filter _).foldl (State.endFor ph) s).entry? e.handle = _
  rw [split, List.foldl_append, List.foldl_cons, State.foldl_endFor_ne, ← frame'.settleTo]
  · exact settled
  · intro y hy same
    exact (List.nodup_cons.mp after).1 (same ▸ List.mem_map_of_mem hy)

/-- Work on another phase, or an exchange in flight there, keeps a confirmation going (R73). -/
theorem State.settleTo_endedOn {p : Confirmation} (live : e.confirmLive = true) (some_ : e.confirmation = some p)
    (free : s.exchangeOf e.handle ph = false) :
    ((∃ k ≠ ph, s.exchangeOf e.handle k = true ∨ e.hasConfirmWork k = true) →
        s.settleTo (s.endedOn ph e p) = s.endedOn ph e p) ∧
      ((¬ ∃ k ≠ ph, s.exchangeOf e.handle k = true ∨ e.hasConfirmWork k = true) →
        s.settleTo (s.endedOn ph e p) = (s.endedOn ph e p).retired) := by
  obtain ⟨uncancelled, going⟩ := (Entry.confirmLive_iff e).mp live
  have own : (s.endedOn ph e p).hasConfirmWork ph = false := by
    rw [← State.endPhase_eq some_]
    exact s.endPhase_ended ph e
  have other {k : Phase} (apart : k ≠ ph) : (s.endedOn ph e p).hasConfirmWork k = e.hasConfirmWork k := by
    unfold State.endedOn Entry.hasConfirmWork
    rw [some_]
    dsimp only
    rw [Tri.get_set_ne _ _ apart]
  have exchanges : s.anyExchangeOf e.handle = true ↔ ∃ k ≠ ph, s.exchangeOf e.handle k = true := by
    rw [State.anyExchangeOf_iff]
    refine ⟨fun ⟨k, here⟩ => ⟨k, ?_, here⟩, fun ⟨k, _, here⟩ => ⟨k, here⟩⟩
    rintro rfl
    rw [free] at here
    cases here
  have works : phases.any (s.endedOn ph e p).hasConfirmWork = true ↔ ∃ k ≠ ph, e.hasConfirmWork k = true := by
    rw [List.any_eq_true]
    constructor
    · rintro ⟨k, -, here⟩
      have apart : k ≠ ph := by
        rintro rfl
        rw [own] at here
        cases here
      exact ⟨k, apart, other apart ▸ here⟩
    · rintro ⟨k, apart, here⟩
      exact ⟨k, by cases k <;> decide, (other apart).trans here⟩
  have settle : s.settleTo (s.endedOn ph e p) =
      if s.anyExchangeOf e.handle then s.endedOn ph e p
      else if phases.any (s.endedOn ph e p).hasConfirmWork then s.endedOn ph e p else (s.endedOn ph e p).retired := by
    unfold State.settleTo
    rw [show (s.endedOn ph e p).cancelled = false from uncancelled, show (s.endedOn ph e p).confirmStopped = false from going]
    rfl
  rw [settle]
  constructor
  · rintro ⟨k, apart, busy | here⟩
    · exact if_pos (exchanges.mpr ⟨k, apart, busy⟩)
    · rw [if_pos (works.mpr ⟨k, apart, here⟩), ite_self]
  · intro none
    rw [if_neg fun busy => none ?_, if_neg fun here => none ?_]
    · obtain ⟨k, apart, here⟩ := works.mp here
      exact ⟨k, apart, .inr here⟩
    · obtain ⟨k, apart, busy⟩ := exchanges.mp busy
      exact ⟨k, apart, .inl busy⟩

/-! ### The halt (R59) -/

/-- The channel that halts, its confirmations not yet ended. -/
def State.halting (s : State) (ph : Phase) : State :=
  (((s.modChan ph Channel.halted).post (.channelHalt ph)).silenceQueue ph).modDisc ph (fun d => { d with registration := [] })

theorem State.halt_eq (s : State) (ph : Phase) : s.halt ph = (s.halting ph).haltConfirmations ph := rfl

theorem State.halting_within (s : State) (ph : Phase) :
    Within [.ports, .channels, .pings, .discovery, .faults] s (s.halting ph) := by
  have posted := (s.modChan_within ph Channel.halted).then (State.post_fault _ (.channelHalt ph)).within
    (ds := [.ports, .channels, .faults]) (by decide)
  have silenced := posted.then (State.silenceQueue_within _ ph) (ds := [.ports, .channels, .pings, .faults]) (by decide)
  exact silenced.then (State.modDisc_within _ ph (fun d => { d with registration := [] })) (by decide)

theorem State.halting_channels (s : State) (ph : Phase) : (s.halting ph).channels = s.channels.set ph (s.chan ph).halted := by
  have silenced := State.silenceQueue_within ((s.modChan ph Channel.halted).post (.channelHalt ph)) ph .channels (by decide)
  have posted := (State.post_fault (s.modChan ph Channel.halted) (.channelHalt ph)).within .channels (by decide)
  exact silenced.trans posted

theorem State.halt_chan (s : State) (ph : Phase) : (s.halt ph).chan ph = (s.chan ph).halted := by
  rw [State.halt_eq, (State.haltConfirmations_cal _ ph).chan_eq, State.chan, State.halting_channels, Tri.get_set_self]

theorem State.halt_counters (s : State) (ph : Phase) :
    (s.halt ph).faults.counters = s.faults.counters.set 7 (saturatingSucc 255 (s.faults.counters.getD 7 0)) := by
  have silenced := State.silenceQueue_within ((s.modChan ph Channel.halted).post (.channelHalt ph)) ph .faults (by decide)
  have ended := (State.haltConfirmations_cal (s.halting ph) ph).within .faults (by decide)
  have faults : (s.halt ph).faults = ((s.modChan ph Channel.halted).post (.channelHalt ph)).faults := ended.trans silenced
  rw [faults, State.post_faults]
  rfl

theorem State.halt_registration (s : State) (ph : Phase) : ((s.halt ph).disc ph).registration = [] := by
  have ended := (State.haltConfirmations_cal (s.halting ph) ph).within .discovery (by decide)
  have disc : (s.halt ph).disc ph = (s.halting ph).disc ph := congrArg (Tri.get · ph) ended
  rw [disc, State.halting, State.disc_modDisc_self]

theorem State.halt_pings (s : State) (ph : Phase) :
    (∀ r ∈ (s.halt ph).pingQueue ph, r.state ≠ .queued) ∧
      ∀ r ∈ s.pingQueue ph, r.state = .queued → (s.halt ph).Shown ph { r with state := .held .silent } .silent := by
  have posted := (State.post_fault (s.modChan ph Channel.halted) (.channelHalt ph)).within .pings (by decide)
  obtain ⟨-, none, shown⟩ := State.silenceQueue_shown ((s.modChan ph Channel.halted).post (.channelHalt ph)) ph
  have ended := State.haltConfirmations_cal (s.halting ph) ph
  have pings : (s.halt ph).pings = (((s.modChan ph Channel.halted).post (.channelHalt ph)).silenceQueue ph).pings :=
    ended.within .pings (by decide)
  have shows : Shows (((s.modChan ph Channel.halted).post (.channelHalt ph)).silenceQueue ph) (s.halt ph) :=
    .of_same ((Grows.of_ports (t := s.halting ph) rfl).trans (grows_workKeeps.haltConfirmations _ ph)) pings
  refine ⟨fun r hr => none r ?_, fun r hr queued => shows ph _ .silent rfl (shown r ?_ queued)⟩
  · rwa [State.pingQueue, pings] at hr
  · rw [State.pingQueue, posted]
    exact hr

/-- What follows a halt at the end of its event leaves of it. -/
structure HaltKept (ph : Phase) (b t : State) : Prop where
  chan : { t.chan ph with quiet := true } = { b.chan ph with quiet := true }
  counter : t.faults.counters.getD 7 0 = b.faults.counters.getD 7 0
  pings : t.pings = b.pings
  discovery : t.discovery = b.discovery
  grows : Grows (fun _ => True) b t
  calendar : ∀ e ∈ t.calendar, e ∈ b.calendar

/-- A channel halted, from the state in which its work had ended. -/
theorem haltedOn_of (kept : HaltKept ph (a.halt ph) t) (length : a.faults.counters.length = 8)
    (counter : a.faults.counters.getD 7 0 = s.faults.counters.getD 7 0)
    (waits : ∀ r ∈ s.pingQueue ph, r.state = .queued → r ∈ a.pingQueue ph) : haltedOn s t ph := by
  obtain ⟨none, shown⟩ := a.halt_pings ph
  have shows : Shows (a.halt ph) t := .of_same kept.grows kept.pings
  have chan := kept.chan.trans (by rw [a.halt_chan])
  refine ⟨⟨?_, ?_, ?_, ?_⟩, ?_, fun r hr => none r ?_, fun r hr queued => ?_, ?_, fun e he confirming live => ?_⟩
  · exact congrArg Channel.state chan
  · exact congrArg Channel.work chan
  · exact congrArg Channel.gapLeft chan
  · exact congrArg Channel.haltPending chan
  · rw [kept.counter, a.halt_counters, ← counter, List.getD_eq_getElem?_getD, List.getElem?_set_self (by omega)]
    rfl
  · rwa [State.pingQueue, kept.pings] at hr
  · exact shows ph _ .silent rfl (shown r (waits r hr queued) queued)
  · rw [State.disc, kept.discovery]
    exact a.halt_registration ph
  · refine (a.halting ph).haltConfirmations_ended ph e ?_ confirming live
    exact kept.calendar e he

/-- A pending halt takes effect as the work of its channel ends. -/
theorem State.afterWork_halts (pending : (a.chan ph).haltPending = true) :
    a.afterWork ph = (a.halt ph).checkDrained.markQuiet ph := by
  have still : ((a.halt ph).checkDrained.chan ph).state ≠ .idle := by
    rw [State.chan_of_within (State.checkDrained_within _) (by decide), a.halt_chan]
    exact fun same => ChannelState.noConfusion same
  unfold State.afterWork
  dsimp only
  rw [if_pos pending, State.atCrossing_of_quiet (.inr still)]

theorem HaltKept.afterWork (pending : (a.chan ph).haltPending = true) (s : State) :
    HaltKept ph (a.halt ph) ((a.afterWork ph).retireSince s) := by
  rw [State.afterWork_halts pending]
  generalize a.halt ph = b
  have drained := State.checkDrained_within b
  have retired := (State.retireSince_cal (b.checkDrained.markQuiet ph) s).within
  have grows : Grows (fun _ => True) (b.checkDrained.markQuiet ph) ((b.checkDrained.markQuiet ph).retireSince s) :=
    grows_workKeeps.retireSince _ s
  refine ⟨?_, ?_, ?_, ?_, ?_, ?_⟩
  · rw [State.chan_of_within retired (by decide), State.markQuiet, State.chan_modChan_self,
      State.chan_of_within drained (by decide)]
  · rw [retired .faults (by decide)]
    exact congrArg (fun f : FaultRec => f.counters.getD 7 0) (drained .faults (by decide))
  · exact (retired .pings (by decide)).trans (drained .pings (by decide))
  · exact (retired .discovery (by decide)).trans (drained .discovery (by decide))
  · exact ((grows_workKeeps.checkDrained b).trans (grows_workKeeps.markQuiet _ ph)).trans grows
  · intro e he
    have calendar : b.checkDrained.calendar = b.calendar := drained .calendar (by decide)
    rw [← calendar]
    exact State.retireSince_subset (s := b.checkDrained.markQuiet ph) s e he

theorem HaltKept.loss (b s : State) (ph : Phase) :
    HaltKept ph b (((b.post (.phaseLoss ph)).checkDrained).retireSince s) := by
  have drained := (State.post_fault b (.phaseLoss ph)).within.then (State.checkDrained_within _)
    (ds := [.ports, .faults, .line]) (by decide)
  have retired := (State.retireSince_cal (b.post (.phaseLoss ph)).checkDrained s).within
  have grows : Grows (fun _ => True) (b.post (.phaseLoss ph)).checkDrained (((b.post (.phaseLoss ph)).checkDrained).retireSince s) :=
    grows_workKeeps.retireSince _ s
  refine ⟨?_, ?_, ?_, ?_, ?_, ?_⟩
  · rw [State.chan_of_within retired (by decide), State.chan_of_within drained (by decide)]
  · have faults : (b.post (.phaseLoss ph)).checkDrained.faults = (b.post (.phaseLoss ph)).faults :=
      State.checkDrained_within _ .faults (by decide)
    rw [retired .faults (by decide), faults, State.post_faults, List.getD_eq_getElem?_getD, List.getD_eq_getElem?_getD]
    exact congrArg (·.getD 0) (List.getElem?_set_ne (show (5 : Nat) ≠ 7 by decide))
  · exact (retired .pings (by decide)).trans (drained .pings (by decide))
  · exact (retired .discovery (by decide)).trans (drained .discovery (by decide))
  · exact ((grows_workKeeps.post b _).trans (grows_workKeeps.checkDrained _)).trans grows
  · intro e he
    have calendar : (b.post (.phaseLoss ph)).checkDrained.calendar = b.calendar := drained .calendar (by decide)
    exact calendar ▸ State.retireSince_subset s e he

/-- The confirmations on the phase of a channel that halts, where the event has left them as they were until then. -/
theorem confirmation_ends {w : State} {p : Confirmation} (nodup : (s.calendar.map (·.handle)).Nodup)
    (handles : (a.calendar.map (·.handle)).Nodup) (calendar : w.calendar = (a.halt ph).calendar)
    (roster : a.roster = s.roster) (settings : a.settings = s.settings) (others : ∀ k ≠ ph, a.chan k = s.chan k)
    (he : e ∈ s.calendar) (stays : a.entry? e.handle = some e) (confirming : e.confirming = true)
    (live : e.confirmLive = true) (work : e.hasConfirmWork ph = true) (some_ : e.confirmation = some p) :
    let elsewhere : Prop := ∃ k ≠ ph, s.exchangeOf e.handle k = true ∨ e.hasConfirmWork k = true
    (elsewhere → (w.retireSince s).entry? e.handle = some (s.endedOn ph e p)) ∧
      (¬ elsewhere → hasRetired (w.retireSince s) (s.endedOn ph e p)) := by
  have within := a.halting_within ph
  have undecided : e.outcome = none := ((Entry.confirming_iff e).mp confirming).1
  have before : (a.halting ph).calendar = a.calendar := within .calendar (by decide)
  have edits : w.calendar.map (·.handle) = a.calendar.map (·.handle) := by
    rw [calendar, State.halt_eq, ← before]
    show ((List.foldl (State.endFor ph) (a.halting ph) _).calendar).map _ = _
    exact foldl_frame (fun s t : State => t.calendar.map (·.handle) = s.calendar.map (·.handle)) (fun _ => rfl)
      (fun a b => b.trans a) (State.endFor ph) (fun s e => (Edits.endFor s ph e).handles) _ _
  have ended : w.entry? e.handle = some ((a.halting ph).settleTo ((a.halting ph).endedOn ph e p)) := by
    rw [State.entry?_of_same calendar]
    exact State.haltConfirmations_entry (before ▸ handles) (before ▸ State.entry?_mem stays) confirming live work some_
  have exchange (k : Phase) (apart : k ≠ ph) : (a.halting ph).exchangeOf e.handle k = s.exchangeOf e.handle k := by
    unfold State.exchangeOf
    rw [State.chan, State.halting_channels, Tri.get_set_ne _ _ apart]
    rw [show a.channels.get k = s.chan k from others k apart]
  have free : (a.halting ph).exchangeOf e.handle ph = false := by
    unfold State.exchangeOf
    rw [State.chan, State.halting_channels, Tri.get_set_self]
    rfl
  have record : (a.halting ph).endedOn ph e p = s.endedOn ph e p := by
    have roster' : (a.halting ph).roster = s.roster := (within .roster (by decide)).trans roster
    have settings' : (a.halting ph).settings = s.settings := (within .settings (by decide)).trans settings
    unfold State.endedOn endedEarly State.rosterCapacity
    rw [roster', settings']
  obtain ⟨goes, retires⟩ := State.settleTo_endedOn live some_ free
  have same : (∃ k ≠ ph, (a.halting ph).exchangeOf e.handle k = true ∨ e.hasConfirmWork k = true) ↔
      ∃ k ≠ ph, s.exchangeOf e.handle k = true ∨ e.hasConfirmWork k = true :=
    exists_congr fun k => and_congr_right fun apart => by rw [exchange k apart]
  rw [same] at goes retires
  rw [record] at ended goes retires
  refine ⟨fun elsewhere => ?_, fun nowhere => ?_⟩
  · rw [goes elsewhere] at ended
    exact State.retireSince_entry nodup (edits ▸ handles) he ended id
  · rw [retires nowhere] at ended
    refine hasRetired_retireSince ended fun x hx handle => ?_
    have stands := State.entry?_of_mem nodup hx
    rw [show x.handle = e.handle from handle, State.entry?_of_mem nodup he] at stands
    cases stands
    exact undecided

end Sys2Proof.Machine
end

section
/-! PROOFS. The events at whose end a pending halt takes effect (R59). -/

namespace Sys2Proof.Machine

variable {s t u v a b : State} {ph k : Phase} {x : Exchange} {h : Nat} {e y : Entry}

/-- Work has come off a channel whose halt is pending, the other channels standing as they were. -/
structure Released (ph : Phase) (s v : State) : Prop where
  within : Within [.ports, .calendar, .retirement, .channels, .pings, .discovery, .mains] s v
  pending : (v.chan ph).haltPending = true
  others : ∀ k ≠ ph, v.chan k = s.chan k

namespace Released

theorem start (pending : (s.chan ph).haltPending = true) : Released ph s s := ⟨.refl _ s, pending, fun _ _ => rfl⟩

variable (released : Released ph s v)
include released

theorem modChan {f : Channel → Channel} (keeps : (f (v.chan ph)).haltPending = (v.chan ph).haltPending) :
    Released ph s (v.modChan ph f) := by
  refine ⟨released.within.then (v.modChan_within ph f) (by decide), ?_, fun k apart => ?_⟩
  · rw [State.chan_modChan_self, keeps]
    exact released.pending
  · rw [State.chan_modChan_ne _ _ apart]
    exact released.others k apart

theorem after {bs : List Block} (within : Within bs v u) (apart : Block.channels ∉ bs)
    (sub : bs ⊆ [.ports, .calendar, .retirement, .channels, .pings, .discovery, .mains]) : Released ph s u := by
  refine ⟨released.within.trans (within.mono sub), ?_, fun k no => ?_⟩
  · rw [State.chan_of_within within apart]
    exact released.pending
  · rw [State.chan_of_within within apart]
    exact released.others k no

theorem cal (frame : CalFrame v u) : Released ph s u := released.after frame.within (by decide) (by decide)

theorem exchange (released : Released ph s v) (h : Nat) (k : Phase) (apart : k ≠ ph) : v.exchangeOf h k = s.exchangeOf h k := by
  unfold State.exchangeOf
  rw [released.others k apart]

end Released

/-! ### The end of a flood (R67) -/

/-- A flood that ends under a pending halt changes the entry it belongs to alone, and frees its channel. -/
theorem State.endFlood_halts (f : Flood) (pending : (s.chan ph).haltPending = true) :
    ∃ a, s.endFlood ph f = a.afterWork ph ∧ Released ph s a ∧ a.pings = s.pings ∧
      (a.calendar = s.calendar ∨ ∃ h, f.entry = some h ∧ Edits h s a) := by
  have off := (Released.start pending).modChan (f := Channel.endFlood) rfl
  unfold State.endFlood
  dsimp only
  cases entry : f.entry with
  | none => exact ⟨_, rfl, off.modChan rfl, rfl, .inl rfl⟩
  | some h =>
      dsimp only
      have sent := off.cal (State.modPart_cal _ h ph fun p => { p with sent := p.sent + 1 })
      have edits : Edits h s ((s.modChan ph Channel.endFlood).modPart h ph fun p => { p with sent := p.sent + 1 }) :=
        Edits.modEntry _ h (f := fun e => e.modPart ph fun p => { p with sent := p.sent + 1 }) fun _ => rfl
      have pings : ((s.modChan ph Channel.endFlood).modPart h ph fun p => { p with sent := p.sent + 1 }).pings = s.pings := rfl
      generalize (s.modChan ph Channel.endFlood).modPart h ph (fun p => { p with sent := p.sent + 1 }) = m at sent edits pings
      cases m.entry? h with
      | none => exact ⟨_, rfl, sent.modChan rfl, pings, .inr ⟨h, rfl, edits⟩⟩
      | some e =>
          dsimp only
          unfold State.afterFlood
          dsimp only
          by_cases over_ : ((e.parts.get ph).sent = (e.parts.get ph).planned || e.cancelled || e.cutOffReached) = true
          · rw [if_pos over_]
            have given := sent.modChan (f := fun c => { c with openPart := none }) rfl
            have finished := CalFrame.trans (State.finishPart_cal (m.modChan ph fun c => { c with openPart := none }) h ph
              (e.parts.get ph).startedFinish) (State.settleEntry_cal _ h)
            have edits' := (Edits.finishPart (m.modChan ph fun c => { c with openPart := none }) h ph
              (e.parts.get ph).startedFinish).trans (.settleEntry _ h)
            refine ⟨_, rfl, (given.cal finished).modChan rfl, ?_, .inr ⟨h, rfl, ?_⟩⟩
            · exact (finished.within .pings (by decide)).trans pings
            · exact edits.trans edits'
          · rw [if_neg over_, if_pos sent.pending]
            exact ⟨_, rfl, sent.modChan rfl, pings, .inr ⟨h, rfl, edits⟩⟩

/-! ### The end of an exchange (R82 to R86, R93) -/

theorem setInFlight_waiting (st : PingState) (q : List PingRec) {r : PingRec} (hr : r ∈ q) (queued : r.state = .queued) :
    r ∈ setInFlight st q := by
  induction q with
  | nil => exact hr
  | cons z rest ih =>
      unfold setInFlight
      obtain rfl | later := List.mem_cons.mp hr
      · rw [if_neg (by rw [queued]; decide)]
        exact List.mem_cons_self
      · split
        · exact List.mem_cons_of_mem _ later
        · exact List.mem_cons_of_mem _ (ih later)

theorem State.offerHeld_ping_queued (s : State) (p : Port) (ph : Phase) {r : PingRec} (hr : r ∈ s.pingQueue ph)
    (queued : r.state = .queued) : r ∈ (s.offerHeld p (.ping ph)).pingQueue ph := by
  have waits : r ∈ s.waitingPings ph := List.mem_filter.mpr ⟨hr, (isQueued_iff r).mpr queued⟩
  rw [← s.offerHeld_ping_waiting p ph] at waits
  exact (List.mem_filter.mp waits).1

theorem eraseP_inFlight_queued {q : List PingRec} {r : PingRec} (hr : r ∈ q) (queued : r.state = .queued) :
    r ∈ q.eraseP (fun r => r.state = .inFlight) :=
  (List.mem_eraseP_of_neg (by simp [queued])).mpr hr

/-- A ping that waits goes on waiting while another ends. -/
theorem State.completeInFlight_queued (s : State) (ph : Phase) (result : PingResult) {r : PingRec} (hr : r ∈ s.pingQueue ph)
    (queued : r.state = .queued) : r ∈ (s.completeInFlight ph result).pingQueue ph := by
  unfold State.completeInFlight
  split
  · split
    · rw [State.pingQueue_modPings_self]
      exact eraseP_inFlight_queued hr queued
    · refine State.offerHeld_ping_queued _ _ ph ?_ queued
      rw [State.pingQueue_modPings_self]
      exact setInFlight_waiting _ _ hr queued
  · exact hr

theorem State.requeueInFlight_queued (s : State) (ph : Phase) {r : PingRec} (hr : r ∈ s.pingQueue ph)
    (queued : r.state = .queued) : r ∈ (s.requeueInFlight ph).pingQueue ph := by
  unfold State.requeueInFlight
  split
  · split
    · rw [State.pingQueue_modPings_self]
      exact eraseP_inFlight_queued hr queued
    · rw [State.pingQueue_modPings_self]
      exact setInFlight_waiting _ _ hr queued
  · exact hr

/-- A reply or a silence and what the work makes of it leave the channel, and the pings that wait. -/
theorem State.exchangeEnds_halts (reply : Option (ReplyReading × Nat)) (pending : (s.chan ph).haltPending = true)
    (length : s.faults.counters.length = 8) : haltedOn s (s.exchangeOver ph x reply) ph := by
  have frame := s.takeResult_frame ph x reply
  have counted := State.countResult_within (s.resulted ph x reply) ph x reply
  have chan : (((s.resulted ph x reply).countResult ph x reply).chan ph).haltPending = true := by
    rw [State.chan_of_within counted (by decide), State.resulted, State.clearWork, State.chan_modChan_self, frame]
    exact pending
  have faults : ((s.resulted ph x reply).countResult ph x reply).faults = s.faults := by
    rw [counted .faults (by decide)]
    show (s.takeResult ph x reply).faults = s.faults
    rw [frame]
  have waits : ∀ r ∈ s.pingQueue ph, r.state = .queued →
      r ∈ ((s.resulted ph x reply).countResult ph x reply).pingQueue ph := by
    intro r hr queued
    have before : r ∈ (s.resulted ph x reply).pingQueue ph := by
      show r ∈ (s.takeResult ph x reply).pingQueue ph
      rw [frame]
      exact hr
    unfold State.countResult
    split
    · rw [State.pingQueue, (State.countExchange_cal _ _ ph x _).within .pings (by decide)]
      exact before
    · exact before
    · exact State.completeInFlight_queued _ ph _ before queued
    · exact before
  unfold State.exchangeOver
  rw [State.endExchange_eq]
  exact haltedOn_of (HaltKept.afterWork chan s) (faults ▸ length) (by rw [faults]) waits

/-! ### The end of a probe's last window (R123) -/

/-- What the update of a known unit can change. -/
theorem State.updateFound_within (s : State) (ph : Phase) (p : ProbeInFlight) (r : ProbeReplyReading) (uplink ago i : Nat)
    (u : UnitRec) :
    Within [.ports, .calendar, .retirement, .groups, .roster, .discovery] s (s.updateFound ph p r uplink ago i u) := by
  have listed (after : Roster) (c : LostCause) (adr : Address) : Within [.ports, .roster, .discovery] s
      ((State.noticeLost { s with roster := after } s.roster c).register ph i adr) := by
    have written : Within [.roster] s { s with roster := after } := by
      intro b hb
      cases b <;> first | rfl | exact absurd (by decide) hb
    exact (written.then (State.noticeLost_within _ _ c) (ds := [.roster, .ports]) (by decide)).then
      (State.register_within _ ph i adr) (by decide)
  unfold State.updateFound
  dsimp only
  split
  · exact (listed _ _ _).then (State.recomputeGroups_within _ _) (by decide)
  · exact (listed _ _ _).mono (by decide)

/-- A new unit is recorded, or ROSTER FULL is posted (R124). -/
theorem State.recordFound_within (s : State) (ph : Phase) (p : ProbeInFlight) (r : ProbeReplyReading) (uplink ago : Nat) :
    Within [.ports, .calendar, .retirement, .groups, .roster, .discovery] s (s.recordFound ph p r uplink ago) ∨
      s.recordFound ph p r uplink ago = s.post (.rosterFull ph r.address) := by
  unfold State.recordFound
  split
  · exact .inr rfl
  · rename_i i _
    left
    dsimp only
    generalize (UnitRec.found ph r p.route _ _).lawful s.roster none = u
    have written : Within [.roster] s { s with roster := putUnit i u s.roster } := by
      intro b hb
      cases b <;> first | rfl | exact absurd (by decide) hb
    have listed := written.then (State.register_within _ ph i u.address) (ds := [.roster, .discovery]) (by decide)
    have noted := listed.then (State.offerBoth_ports _ (unitFoundNotice i u)).within (ds := [.roster, .discovery, .ports]) (by decide)
    exact noted.then (State.recomputeGroups_within _ _) (by decide)

/-- The result of a window takes nothing from a channel and from the pings. -/
theorem State.applyWindow_frame (s : State) (ph : Phase) (p : ProbeInFlight) (window : Nat) (w : WindowResult) :
    Within [.ports, .calendar, .retirement, .groups, .roster, .discovery] s (s.applyWindow ph p window w) ∨
      ∃ adr, s.applyWindow ph p window w = s.post (.rosterFull ph adr) := by
  unfold State.applyWindow
  split
  · split
    · exact .inl (s.updateFound_within ph p _ _ _ _ _)
    · exact (s.recordFound_within ph p _ _ _).imp_right fun full => ⟨_, full⟩
  · exact .inl ((s.modDisc_within ph _).mono (by decide))
  · exact .inl (.refl _ s)

theorem State.applyWindow_blocks (s : State) (ph : Phase) (p : ProbeInFlight) (window : Nat) (w : WindowResult) :
    Within [.ports, .calendar, .retirement, .groups, .roster, .discovery, .faults] s (s.applyWindow ph p window w) := by
  obtain within | ⟨adr, posted⟩ := s.applyWindow_frame ph p window w
  · exact within.mono (by decide)
  · rw [posted]
    exact (s.post_fault _).within.mono (by decide)

theorem State.applyWindow_counters (s : State) (ph : Phase) (p : ProbeInFlight) (window : Nat) (w : WindowResult) :
    (s.applyWindow ph p window w).faults.counters.length = s.faults.counters.length ∧
      (s.applyWindow ph p window w).faults.counters.getD 7 0 = s.faults.counters.getD 7 0 := by
  obtain within | ⟨adr, posted⟩ := s.applyWindow_frame ph p window w
  · rw [within .faults (by decide)]
    exact ⟨rfl, rfl⟩
  · rw [posted, State.post_faults]
    refine ⟨List.length_set, ?_⟩
    rw [List.getD_eq_getElem?_getD, List.getD_eq_getElem?_getD]
    exact congrArg (·.getD 0) (List.getElem?_set_ne (show (4 : Nat) ≠ 7 by decide))

/-- The probe has come to its end: it is no longer in flight, and the origin advances where its stack is empty (R119). -/
def State.probeOver (s : State) (ph : Phase) : State :=
  let s := s.modDisc ph (fun d => { d with probe := none })
  if (s.disc ph).state = .probing ∧ (s.disc ph).stack = [] then s.advanceOrigin ph else s

theorem State.endProbe_eq (s : State) (ph : Phase) : s.endProbe ph = ((s.probeOver ph).clearWork ph).afterWork ph := rfl

theorem State.probeOver_within (s : State) (ph : Phase) : Within [.discovery] s (s.probeOver ph) := by
  unfold State.probeOver
  dsimp only
  split
  · exact (s.modDisc_within ph _).then (State.advanceOrigin_within _ ph) (by decide)
  · exact s.modDisc_within ph _

/-- A probe whose last window ends under a pending halt. -/
theorem State.probeEnds_halts (p : ProbeInFlight) (window : Nat) (w : WindowResult) (pending : (s.chan ph).haltPending = true)
    (length : s.faults.counters.length = 8) :
    haltedOn s (((s.applyWindow ph p window w).endProbe ph).retireSince s) ph := by
  have blocks := (s.applyWindow_blocks ph p window w).then (State.probeOver_within _ ph)
    (ds := [.ports, .calendar, .retirement, .groups, .roster, .discovery, .faults]) (by decide)
  have faults : (((s.applyWindow ph p window w).probeOver ph).clearWork ph).faults = (s.applyWindow ph p window w).faults :=
    State.probeOver_within _ ph .faults (by decide)
  obtain ⟨same, counter⟩ := s.applyWindow_counters ph p window w
  rw [State.endProbe_eq]
  refine haltedOn_of (HaltKept.afterWork ?_ s) (by rw [faults, same, length]) (by rw [faults, counter]) fun r hr _ => ?_
  · rw [State.clearWork, State.chan_modChan_self, State.chan_of_within blocks (by decide)]
    exact pending
  · have pings : (((s.applyWindow ph p window w).probeOver ph).clearWork ph).pings = s.pings := blocks .pings (by decide)
    rw [State.pingQueue, pings]
    exact hr

/-! ### The loss of a phase (R57, R158) -/

theorem State.floodOf_of {f : Flood} (work : (s.chan ph).work = some (.flood f)) (entry : f.entry = some h) :
    s.floodOf h ph = true := by
  unfold State.floodOf
  rw [work]
  exact beq_iff_eq.mpr entry

/-- The work of a lost phase is abandoned, at most one entry being changed by it: the one its flood belongs to, or one
whose confirmation does not go on. -/
theorem State.abandonWork_halts (pending : (s.chan ph).haltPending = true) :
    Released ph s (s.abandonWork ph) ∧ (∀ r ∈ s.pingQueue ph, r.state = .queued → r ∈ (s.abandonWork ph).pingQueue ph) ∧
      ((s.abandonWork ph).calendar = s.calendar ∨
        ∃ h, Edits h s (s.abandonWork ph) ∧
          (s.floodOf h ph = true ∨ ∃ e, s.entry? h = some e ∧ e.confirmLive = false)) := by
  have lost := (Released.start pending).modChan (f := Channel.lost) rfl
  have same : (s.modChan ph Channel.lost).calendar = s.calendar ∧ (s.modChan ph Channel.lost).pings = s.pings := ⟨rfl, rfl⟩
  have entries (h : Nat) : (s.modChan ph Channel.lost).entry? h = s.entry? h := rfl
  have begins (h : Nat) : Edits h s (s.modChan ph Channel.lost) := .of_same rfl
  have keep {v : State} (pings : v.pings = s.pings) : ∀ r ∈ s.pingQueue ph, r.state = .queued → r ∈ v.pingQueue ph := by
    intro r hr _
    rwa [State.pingQueue, pings]
  unfold State.abandonWork
  rw [State.modChan_lost]
  dsimp only
  cases work : (s.chan ph).work with
  | none => exact ⟨lost, keep rfl, .inl rfl⟩
  | some w =>
      cases w with
      | probe r => exact ⟨lost.after (State.modDisc_within _ ph _) (by decide) (by decide), keep rfl, .inl rfl⟩
      | flood f =>
          dsimp only
          unfold State.abandonFlood
          cases entry : f.entry with
          | none => exact ⟨lost, keep rfl, .inl rfl⟩
          | some h =>
              dsimp only
              cases (s.modChan ph Channel.lost).entry? h with
              | none => exact ⟨lost, keep rfl, .inl rfl⟩
              | some e =>
                  dsimp only
                  split
                  · have given := lost.modChan (f := fun c => { c with openPart := none }) rfl
                    have finished := CalFrame.trans (State.finishPart_cal ((s.modChan ph Channel.lost).modChan ph fun c =>
                      { c with openPart := none }) h ph (e.parts.get ph).startedFinish) (State.settleEntry_cal _ h)
                    have edits := (Edits.finishPart ((s.modChan ph Channel.lost).modChan ph fun c =>
                      { c with openPart := none }) h ph (e.parts.get ph).startedFinish).trans (.settleEntry _ h)
                    exact ⟨given.cal finished, keep (finished.within .pings (by decide)), .inr ⟨h, edits, .inl (State.floodOf_of work entry)⟩⟩
                  · exact ⟨lost, keep rfl, .inl rfl⟩
      | exchange x =>
          dsimp only
          unfold State.abandonExchange
          split
          · rename_i h _
            rw [entries]
            cases found : s.entry? h with
            | none => exact ⟨lost, keep rfl, .inl rfl⟩
            | some e =>
                dsimp only
                split
                · exact ⟨lost, keep rfl, .inl rfl⟩
                · rename_i ended
                  have settled := State.settleConfirm_cal (s.modChan ph Channel.lost) h
                  refine ⟨lost.cal settled, keep (settled.within .pings (by decide)), .inr ⟨h, ?_, .inr ⟨e, found, ?_⟩⟩⟩
                  · exact (begins h).trans (.settleConfirm _ h)
                  · simpa using ended
          · exact ⟨lost, keep rfl, .inl rfl⟩
          · refine ⟨lost.after (State.requeueInFlight_within _ ph) (by decide) (by decide), fun r hr queued => ?_,
              .inl (State.requeueInFlight_within _ ph .calendar (by decide))⟩
            exact State.requeueInFlight_queued (s.modChan ph Channel.lost) ph hr queued
          · exact ⟨lost.after (State.modDisc_within _ ph _) (by decide) (by decide), keep rfl, .inl rfl⟩

theorem State.losePhase_halts (awake : (s.chan ph).state ≠ .halted) (pending : (s.chan ph).haltPending = true) :
    s.losePhase ph = ((((s.absent ph).abandonWork ph).halt ph).post (.phaseLoss ph)).checkDrained := by
  have chan := s.absent_chan ph
  have waits : (((s.absent ph).abandonWork ph).chan ph).haltPending = true :=
    (State.abandonWork_halts (s := s.absent ph) (by rw [chan]; exact pending)).1.pending
  change State.checkDrained (State.post (if ((s.absent ph).chan ph).state = .halted then s.absent ph else
    if (((s.absent ph).abandonWork ph).chan ph).haltPending then ((s.absent ph).abandonWork ph).halt ph
      else (s.absent ph).abandonWork ph) (.phaseLoss ph)) = _
  rw [chan, if_neg (by exact awake), if_pos waits]

theorem execPhaseLoss_due (due : s.lossDue ph = true) : exec (.phaseLoss ph) s = .next ((s.losePhase ph).retireSince s) :=
  congrArg _ (if_pos due)

/-! ### Each event -/

/-- An entry whose confirmation goes on is another than the one the event changes. -/
theorem Edits.entry?_confirming (nodup : (s.calendar.map (·.handle)).Nodup)
    (floods : ∀ h e, s.floodOf h ph = true → s.entry? h = some e → (e.parts.get ph).state = .sending) (edits : Edits h s a)
    (own : s.floodOf h ph = true ∨ ∃ e, s.entry? h = some e ∧ e.confirmLive = false) (he : e ∈ s.calendar)
    (confirming : e.confirming = true) (live : e.confirmLive = true) : a.entry? e.handle = some e := by
  have stands := State.entry?_of_mem nodup he
  have apart : e.handle ≠ h := by
    rintro rfl
    obtain flood | ⟨x, found, ended⟩ := own
    · obtain ⟨-, finished, -⟩ := (Entry.confirming_iff e).mp confirming
      have sending := floods _ e flood stands
      rw [(Entry.allFinished_iff e).mp finished ph] at sending
      cases sending
    · rw [stands] at found
      cases found
      rw [live] at ended
      cases ended
  rw [edits.entry?_ne apart, stands]

/-- Settles O54. -/
theorem haltsEndTheWorkOfTheChannel : Obligations.HaltsEndTheWorkOfTheChannel := by
  intro ph s length pending floods
  dsimp only
  refine ⟨fun f work spent nodup => ?_, fun x work listening => ⟨fun late => ?_, fun heard r read address inside => ?_⟩, ?_, ?_⟩
  · obtain ⟨a, ends, released, pings, changed⟩ := State.endFlood_halts (s := s) f pending
    have faults : a.faults = s.faults := released.within .faults (by decide)
    have run : exec (.floodEnd ph) s = .next ((a.afterWork ph).retireSince s) := by
      rw [← ends]
      change Host.Outcome.next _ = _
      rw [work]
      exact congrArg _ (if_pos spent)
    have kept := HaltKept.afterWork released.pending s
    refine ⟨_, run, haltedOn_of kept (faults ▸ length) (by rw [faults]) (fun r hr _ => ?_), fun e p he confirming live works some_ => ?_⟩
    · rwa [State.pingQueue, pings]
    · have stays : a.entry? e.handle = some e ∧ a.calendar.map (·.handle) = s.calendar.map (·.handle) := by
        obtain same | ⟨h, entry, edits⟩ := changed
        · exact ⟨(State.entry?_of_same same).trans (State.entry?_of_mem nodup he), by rw [same]⟩
        · exact ⟨edits.entry?_confirming nodup floods (.inl (State.floodOf_of work entry)) he confirming live, edits.handles⟩
      refine confirmation_ends nodup (stays.2 ▸ nodup) ?_ (released.within .roster (by decide)) (released.within .settings (by decide))
        released.others he stays.1 confirming live works some_
      rw [State.afterWork_halts released.pending]
      exact State.checkDrained_within _ .calendar (by decide)
  · refine ⟨s.exchangeOver ph x none, ?_, State.exchangeEnds_halts none pending length⟩
    rw [execSilencePoint_at work listening, if_pos late]
    rfl
  · exact ⟨_, execReplyReceived_taken work listening read address inside, State.exchangeEnds_halts _ pending length⟩
  · intro r q heard work probe listening last spent
    refine ⟨_, ?_, State.probeEnds_halts q r.next (readWindow s.identity.code q.filter r.next r.window heard) pending length⟩
    change Host.Outcome.next _ = _
    rw [work, probe]
    dsimp only
    rw [if_pos ⟨listening, by rwa [last]⟩]
    unfold State.endWindow
    dsimp only
    rw [if_pos last]
  · intro awake present due nodup
    have absent_ : (s.absent ph).chan ph = _ := s.absent_chan ph
    have pending' : ((s.absent ph).chan ph).haltPending = true := by rw [absent_]; exact pending
    obtain ⟨released, waits, changed⟩ := State.abandonWork_halts pending'
    have run := execPhaseLoss_due ((s.lossDue_iff ph).mpr ⟨present, due⟩)
    rw [State.losePhase_halts awake pending] at run
    have kept := HaltKept.loss (((s.absent ph).abandonWork ph).halt ph) s ph
    have before := s.absent_within ph
    have faults : ((s.absent ph).abandonWork ph).faults = s.faults := released.within .faults (by decide)
    refine ⟨_, run, haltedOn_of kept (faults ▸ length) (by rw [faults]) (fun r hr queued => waits r hr queued),
      fun e p he confirming live works some_ => ?_⟩
    have floods' : ∀ h e, (s.absent ph).floodOf h ph = true → (s.absent ph).entry? h = some e → (e.parts.get ph).state = .sending := by
      intro h e flood
      refine floods h e ?_
      unfold State.floodOf at flood ⊢
      rwa [absent_] at flood
    have stays : ((s.absent ph).abandonWork ph).entry? e.handle = some e ∧
        ((s.absent ph).abandonWork ph).calendar.map (·.handle) = s.calendar.map (·.handle) := by
      obtain same | ⟨h, edits, own⟩ := changed
      · exact ⟨(State.entry?_of_same same).trans (State.entry?_of_mem nodup he), by rw [same]; rfl⟩
      · exact ⟨edits.entry?_confirming (s := s.absent ph) nodup floods' own he confirming live, edits.handles⟩
    refine confirmation_ends (w := ((((s.absent ph).abandonWork ph).halt ph).post (.phaseLoss ph)).checkDrained)
      (a := (s.absent ph).abandonWork ph) nodup (stays.2 ▸ nodup) ?_ (released.within .roster (by decide))
      (released.within .settings (by decide))
      (fun k apart => (released.others k apart).trans (State.chan_modChan_ne _ _ apart)) he stays.1 confirming live works some_
    exact ((State.post_fault _ (.phaseLoss ph)).within.then (State.checkDrained_within _)
      (ds := [.ports, .faults, .line]) (by decide)) .calendar (by decide)

end Sys2Proof.Machine
end

section
/-! PROOFS. The end of a probe's window: what was heard in it, the unit it records or updates, and the end of the probe
(R121 to R128). -/

namespace Sys2Proof.Machine

variable {s t u a b : State} {ph k : Phase} {r : ProbeRun} {q : ProbeInFlight} {heard : List WindowFrame}

/-! ### What was heard (R121 to R123) -/

theorem airtime_robust (n : Nat) : airtime n .robust = 2 + n := by
  show 2 + divUp n 1 = 2 + n
  simp [divUp]

theorem replyTaken_iff' {code : Word16} {span : Nat} {f : WindowFrame} {x : ProbeReplyReading} :
    replyTaken f code span = some x ↔ 2 + f.frame.bytes.length + f.slots ≤ span ∧ readProbeReply code f.frame.bytes = some x := by
  rw [replyTaken_iff, airtime_robust]

theorem goodReply_iff {f : ProbeFilter} {window : Nat} {x : ProbeReplyReading} :
    f.goodReply window x = true ↔
      x.address ≠ 0 ∧ x.address ≠ 0xFFFFFFFF ∧ (x.address ^^^ f.value) >>> (32 - f.length) = 0 ∧
        (if f.length = 32 then window = 0 else ((x.address >>> (30 - f.length)) &&& 3).toNat = window) := by
  unfold ProbeFilter.goodReply ProbeFilter.admits ProbeFilter.windowOf
  by_cases full : f.length = 32
  · simp [full, and_assoc, eq_comm (a := (0 : Nat))]
  · simp [full, and_assoc]

/-! ### The end of a window -/

/-- The state in which the result of a window has taken effect. -/
def State.windowRead (s : State) (ph : Phase) (r : ProbeRun) (q : ProbeInFlight) (heard : List WindowFrame) : State :=
  s.applyWindow ph q r.next (readWindow s.identity.code q.filter r.next r.window heard)

/-- The state after the event. -/
def State.windowOver (s : State) (ph : Phase) (r : ProbeRun) (q : ProbeInFlight) (heard : List WindowFrame) : State :=
  (s.endWindow ph r q heard).retireSince s

theorem execProbeWindowEnd_due (work : (s.chan ph).work = some (.probe r)) (probe : (s.disc ph).probe = some q)
    (listening : (s.chan ph).state = .listening) (due : windowEnd r.outSpan r.window r.gap r.next ≤ r.slots) :
    exec (.probeWindowEnd ph heard) s = .next (s.windowOver ph r q heard) := by
  change Host.Outcome.next _ = _
  rw [work, probe]
  exact congrArg _ (if_pos ⟨listening, due⟩)

theorem State.windowOver_next (more : r.next < 3) : s.windowOver ph r q heard =
    ((s.windowRead ph r q heard).modChan ph fun c => { c with work := some (.probe { r with next := r.next + 1 }) }).retireSince s := by
  unfold State.windowOver State.endWindow
  dsimp only
  rw [if_neg (by omega)]
  rfl

theorem State.windowOver_last (last : r.next = 3) :
    s.windowOver ph r q heard = ((s.windowRead ph r q heard).endProbe ph).retireSince s := by
  unfold State.windowOver State.endWindow
  dsimp only
  rw [if_pos last]
  rfl

theorem State.windowRead_within (s : State) (ph : Phase) (r : ProbeRun) (q : ProbeInFlight) (heard : List WindowFrame) :
    Within [.ports, .calendar, .retirement, .groups, .roster, .discovery, .faults] s (s.windowRead ph r q heard) :=
  s.applyWindow_blocks ph q r.next _

theorem State.endProbe_roster (s : State) (ph : Phase) : (s.endProbe ph).roster = s.roster := by
  rw [State.endProbe_eq, roster_workKeeps.afterWork]
  exact State.probeOver_within s ph .roster (by decide)

section
variable (inside : r.next ≤ 3)
include inside

theorem State.windowOver_roster : (s.windowOver ph r q heard).roster = (s.windowRead ph r q heard).roster := by
  obtain more | last := Nat.lt_or_eq_of_le inside
  · rw [State.windowOver_next more, State.retireSince_roster]
    rfl
  · rw [State.windowOver_last last, State.retireSince_roster, State.endProbe_roster]

theorem State.windowOver_grows : Grows (fun _ => True) (s.windowRead ph r q heard) (s.windowOver ph r q heard) := by
  obtain more | last := Nat.lt_or_eq_of_le inside
  · rw [State.windowOver_next more]
    exact (Grows.of_ports (t := (s.windowRead ph r q heard).modChan ph _) rfl).trans (grows_workKeeps.retireSince _ s)
  · rw [State.windowOver_last last]
    exact (State.endProbe_grows _ ph).trans (grows_workKeeps.retireSince _ s)

end

/-! ### The end of the probe (R75, R119, R128) -/

theorem State.probeOver_disc (s : State) (ph : Phase) : (s.probeOver ph).disc ph = probeEnded s ph (s.disc ph) := by
  have off : (s.modDisc ph fun d => { d with probe := none }).disc ph = { s.disc ph with probe := none } :=
    State.disc_modDisc_self _ _ _
  unfold State.probeOver
  dsimp only
  rw [off]
  by_cases done : (s.disc ph).state = .probing ∧ (s.disc ph).stack = []
  · rw [if_pos done]
    have empty : s.modDisc ph (fun d => { d with probe := none }) =
        (s.modDisc ph (fun d => { d with probe := none })).modDisc ph (fun d => { d with stack := [] }) := by
      rw [State.modDisc_modDisc]
      unfold State.modDisc
      refine congrArg (fun d => { s with discovery := s.discovery.set ph d }) ?_
      show ({ s.disc ph with probe := none } : Discovery) = { s.disc ph with probe := none, stack := [] }
      rw [← done.2]
    rw [empty, State.advanceOrigin_eq _ (by rw [off]; exact done.1), State.disc_modDisc_self, off]
    have same : s.disc ph = { s.disc ph with stack := [] } := by rw [← done.2]
    obtain ⟨next, found⟩ : ∃ next,
        s.roster.find? (fun x => decide (Origin.next (s.disc ph).origin ≤ x.1) && x.2.originFor ph) = next := ⟨_, rfl⟩
    refine Eq.trans ?_ (congrArg (probeEnded s ph) same).symm
    rw [probeEnded_eq s ph done.1, found,
      probeEnded_eq (s.modDisc ph fun d => { d with probe := none }) ph (d := { s.disc ph with probe := none }) done.1,
      show (s.modDisc ph fun d => { d with probe := none }).roster.find?
        (fun x => decide (Origin.next (s.disc ph).origin ≤ x.1) && x.2.originFor ph) = next from found]
    cases next <;> rfl
  · rw [if_neg done, off]
    unfold probeEnded
    dsimp only
    rw [if_neg done]

theorem probeEnded_congr (roster : t.roster = s.roster) (elapsed : t.elapsed = s.elapsed) (settings : t.settings = s.settings)
    (d : Discovery) : probeEnded t ph d = probeEnded s ph d := by
  unfold probeEnded
  rw [roster, elapsed, settings]

/-- How the channel and its discovery record go on after a window. -/
theorem State.windowOver_goesOn (s : State) (ph : Phase) (r : ProbeRun) (q : ProbeInFlight) (heard : List WindowFrame) :
    let t := s.windowOver ph r q heard
    let d := (s.windowRead ph r q heard).disc ph
    (r.next < 3 →
        t.disc ph = d ∧ t.chan ph = { s.chan ph with work := some (.probe { r with next := r.next + 1 }) }) ∧
      (r.next = 3 → (s.chan ph).haltPending = false → s.line ≠ .running →
        t.disc ph = probeEnded t ph d ∧
          t.chan ph = { s.chan ph with state := .idle, work := none, gapLeft := none, quiet := true }) := by
  dsimp only
  have read := s.windowRead_within ph r q heard
  have chan : (s.windowRead ph r q heard).chan ph = s.chan ph := State.chan_of_within read (by decide) ph
  have retired (u : State) : (u.retireSince s).disc ph = u.disc ph ∧ (u.retireSince s).chan ph = u.chan ph :=
    ⟨congrArg (Tri.get · ph) ((State.retireSince_cal u s).within .discovery (by decide)), (State.retireSince_cal u s).chan_eq ph⟩
  refine ⟨fun more => ?_, fun last goes line => ?_⟩
  · rw [State.windowOver_next more, (retired _).1, (retired _).2, State.chan_modChan_self, chan]
    exact ⟨rfl, rfl⟩
  · have probed := State.probeOver_within (s.windowRead ph r q heard) ph
    have over_ := read.then probed (ds := [.ports, .calendar, .retirement, .groups, .roster, .discovery, .faults]) (by decide)
    have cleared : (((s.windowRead ph r q heard).probeOver ph).clearWork ph).chan ph =
        { s.chan ph with state := .idle, work := none, gapLeft := none } := by
      rw [State.clearWork, State.chan_modChan_self, State.chan_of_within over_ (by decide)]
    have quiet := State.afterWork_quiet (s := ((s.windowRead ph r q heard).probeOver ph).clearWork ph) (ph := ph)
      (by rw [cleared]; exact goes)
      (by
        show ((s.windowRead ph r q heard).probeOver ph).line ≠ .running
        rw [over_ .line (by decide)]
        exact line)
    have drained := State.checkDrained_within (((s.windowRead ph r q heard).probeOver ph).clearWork ph)
    have ended : (((s.windowRead ph r q heard).endProbe ph).retireSince s).disc ph =
        probeEnded (s.windowRead ph r q heard) ph ((s.windowRead ph r q heard).disc ph) := by
      rw [(retired _).1, State.endProbe_eq, quiet, ← State.probeOver_disc]
      exact congrArg (Tri.get · ph) (drained .discovery (by decide))
    have whole : Within [.ports, .calendar, .retirement, .groups, .roster, .discovery, .faults, .channels, .line] s
        (((s.windowRead ph r q heard).endProbe ph).retireSince s) := by
      rw [State.endProbe_eq, quiet]
      have cleared := over_.then (State.modChan_within _ ph fun c => { c with state := .idle, work := none, gapLeft := none })
        (ds := [.ports, .calendar, .retirement, .groups, .roster, .discovery, .faults, .channels]) (by decide)
      have settled := cleared.then drained
        (ds := [.ports, .calendar, .retirement, .groups, .roster, .discovery, .faults, .channels, .line]) (by decide)
      have marked := settled.then (State.modChan_within _ ph fun c => { c with quiet := c.state = .idle || c.state = .halted })
        (ds := [.ports, .calendar, .retirement, .groups, .roster, .discovery, .faults, .channels, .line]) (by decide)
      exact marked.then (State.retireSince_cal _ s).within (by decide)
    rw [State.windowOver_last last]
    refine ⟨ended.trans (probeEnded_congr ?_ ?_ ?_ _).symm, ?_⟩
    · rw [State.retireSince_roster, State.endProbe_roster]
    · exact (whole .elapsed (by decide)).trans (read .elapsed (by decide)).symm
    · exact (whole .settings (by decide)).trans (read .settings (by decide)).symm
    · rw [(retired _).2, State.endProbe_eq, quiet, State.markQuiet, State.chan_modChan_self,
        State.chan_of_within drained (by decide), cleared]
      rfl

/-! ### The faults of a window (R59, R124) -/

theorem GoesOn.faults {c : Choice} (goes : GoesOn s ph c t) : t.faults = s.faults := by
  cases goes with
  | idle => rfl
  | notReached h => exact (State.settleConfirm_cal (s.decideNotReached h ph) h).within .faults (by decide)
  | unconfirmed h => exact (State.settleConfirm_cal (s.decideUnconfirmed h ph _) h).within .faults (by decide)
  | notSent => exact s.completeQueued_within ph _ .faults (by decide)
  | discarded => rfl
  | origin => exact State.advanceOrigin_within _ ph .faults (by decide)

theorem State.startPart_faults (s : State) (h : Nat) (ph : Phase) : (s.startPart h ph).faults = s.faults := by
  have begun (e : Entry) : (s.beginSending e).faults = s.faults := by
    unfold State.beginSending
    dsimp only
    rw [State.offer_ports]
    rfl
  unfold State.startPart
  split
  · dsimp only
    rw [State.sendRepeat_within _ ph h .faults (by decide)]
    split
    · exact begun _
    · rfl
  · rfl

theorem Starts.faults {c : Choice} (starts : Starts s ph c t) : t.faults = s.faults := by
  cases starts with
  | part h => exact s.startPart_faults h ph
  | resume h => exact State.sendRepeat_within (State.modChan (s.modPart h ph _) ph _) ph h .faults (by decide)
  | confirm | ping | registration | probe => rfl

/-- Nothing that starts at a crossing posts a fault. -/
theorem State.atCrossing_faults (s : State) (ph : Phase) : (s.atCrossing ph).faults = s.faults := by
  have arbitrated (n : Nat) (s : State) : (State.arbitrate n ph s).faults = s.faults :=
    State.arbitrate_keeps (R := fun s t => t.faults = s.faults) (fun _ => rfl) (fun a b => b.trans a) GoesOn.faults
      (fun _ => Starts.faults) n s
  unfold State.atCrossing
  dsimp only
  split
  · rfl
  · split
    · rename_i h _
      split
      · unfold State.resumeOpen
        split
        · split_ifs
          · exact ((s.stopPart_chan h ph).within.then (State.settleEntry_cal _ h).within
              (ds := [.ports, .calendar, .retirement, .channels]) (by decide)) .faults (by decide)
          · exact arbitrated _ (s.suspend h ph)
          · exact s.sendRepeat_within ph h .faults (by decide)
        · rfl
      · rfl
    · exact arbitrated _ s

theorem State.afterWork_faults (s : State) (ph : Phase) :
    (s.afterWork ph).faults = if (s.chan ph).haltPending then (s.halt ph).faults else s.faults := by
  have marked : (s.afterWork ph).faults = ((if (s.chan ph).haltPending then s.halt ph else s).checkDrained.atCrossing ph).faults := rfl
  rw [marked, State.atCrossing_faults, State.checkDrained_within _ .faults (by decide)]
  split <;> rfl

theorem State.halt_faults (s : State) (ph : Phase) :
    (s.halt ph).faults = ((s.modChan ph Channel.halted).post (.channelHalt ph)).faults := by
  have silenced := State.silenceQueue_within ((s.modChan ph Channel.halted).post (.channelHalt ph)) ph .faults (by decide)
  exact ((State.haltConfirmations_cal (s.halting ph) ph).within .faults (by decide)).trans silenced

theorem State.windowOver_faults (inside : r.next ≤ 3) :
    let a := s.windowRead ph r q heard
    let t := s.windowOver ph r q heard
    (r.next < 3 ∨ (s.chan ph).haltPending = false → t.faults = a.faults) ∧
      (r.next = 3 → (s.chan ph).haltPending = true →
        t.faults.record = a.faults.record.or (some (.channelHalt ph, a.faultTime)) ∧
          t.faults.counters = a.faults.counters.set 7 (saturatingSucc 255 (a.faults.counters.getD 7 0)) ∧
          t.faults.generation = wrappingSucc 65535 a.faults.generation) := by
  dsimp only
  have retired (u : State) : (u.retireSince s).faults = u.faults := (State.retireSince_cal u s).within .faults (by decide)
  have read := s.windowRead_within ph r q heard
  have probed := State.probeOver_within (s.windowRead ph r q heard) ph
  have cleared : (((s.windowRead ph r q heard).probeOver ph).clearWork ph).faults = (s.windowRead ph r q heard).faults :=
    probed .faults (by decide)
  have pending : ((((s.windowRead ph r q heard).probeOver ph).clearWork ph).chan ph).haltPending = (s.chan ph).haltPending := by
    rw [State.clearWork, State.chan_modChan_self, State.chan_of_within probed (by decide), State.chan_of_within read (by decide)]
  have last (last : r.next = 3) : (s.windowOver ph r q heard).faults =
      if (s.chan ph).haltPending then
        ((((s.windowRead ph r q heard).probeOver ph).clearWork ph).halt ph).faults
      else (s.windowRead ph r q heard).faults := by
    rw [State.windowOver_last last, retired, State.endProbe_eq, State.afterWork_faults, pending, cleared]
  refine ⟨fun calm => ?_, fun is halts => ?_⟩
  · obtain more | is := Nat.lt_or_eq_of_le inside
    · rw [State.windowOver_next more, retired]
      rfl
    · have goes : (s.chan ph).haltPending = false := calm.resolve_left (by omega)
      rw [last is, goes]
      rfl
  · have clock : (((s.windowRead ph r q heard).probeOver ph).clearWork ph).faultTime = (s.windowRead ph r q heard).faultTime := by
      unfold State.faultTime State.now
      rw [show (((s.windowRead ph r q heard).probeOver ph).clearWork ph).clock = (s.windowRead ph r q heard).clock from
        probed .clock (by decide)]
    rw [last is, if_pos halts, State.halt_faults, State.post_faults]
    refine ⟨?_, ?_, ?_⟩
    · show (if (((s.windowRead ph r q heard).probeOver ph).clearWork ph).faults.record.isNone = true then _ else _) = _
      rw [cleared]
      cases found : (s.windowRead ph r q heard).faults.record with
      | none => exact congrArg (fun time => some (FaultReport.channelHalt ph, time)) clock
      | some f => exact (if_neg (by simp)).trans ((congrArg FaultRec.record cleared).trans found)
    · show (((s.windowRead ph r q heard).probeOver ph).clearWork ph).faults.counters.set 7 _ = _
      rw [← cleared]
      rfl
    · show wrappingSucc 65535 (((s.windowRead ph r q heard).probeOver ph).clearWork ph).faults.generation = _
      rw [cleared]

/-! ### A unit found (R124) -/

theorem reselect_robust (sample : Nat) :
    reselect .robust sample = if sample < 56 then .robust else if sample < 96 then .normal else .fast := by
  unfold reselect
  dsimp only
  split_ifs <;> first | rfl | omega

theorem marginSample_route (q : ProbeInFlight) (uplink downlink hopUp : Nat) :
    marginSample q.route.length uplink downlink hopUp = min downlink (if q.route = [] then uplink else hopUp) := by
  unfold marginSample
  simp only [List.length_eq_zero_iff]

theorem UnitRec.found_eq (ph : Phase) (x : ProbeReplyReading) (route : List Nat) (sample : Nat) (second : Option Nat) :
    UnitRec.found ph x route sample second =
      { address := x.address, phase := ph, groups := x.groups, relayCapable := x.relayCapable, route, state := .active
        pinned := false, margin := sample, samples := 1, mode := reselect .robust sample, silence := 0, lastHeard := second } := by
  cases second <;> rfl

theorem State.register_disc (awake : (s.chan ph).state ≠ .halted) (i : Nat) (adr : Address) :
    (s.register ph i adr).disc ph = { s.disc ph with registration := (s.disc ph).registration ++ [(i, adr)] } := by
  unfold State.register
  rw [if_neg awake, State.disc_modDisc_self]

/-- A new unit at the lowest free index, and the UNIT FOUND it brings first (R124). -/
theorem State.recordFound_free {i : Nat} {x : ProbeReplyReading} (free : lowestFree s.rosterCapacity s.roster = some i)
    (awake : (s.chan ph).state ≠ .halted) (uplink ago : Nat) :
    let u := (UnitRec.found ph x q.route (marginSample q.route.length uplink x.downlink x.hopUp)
      (s.replySecond ago)).lawful s.roster none
    let t := s.recordFound ph q x uplink ago
    t.roster = putUnit i u s.roster ∧
      t.disc ph = { s.disc ph with registration := (s.disc ph).registration ++ [(i, u.address)] } ∧
      ∀ p : Port, (s.port p).outq.length < 16 → noticeCount (s.port p).outq < 15 →
        ∃ more, (t.port p).outq = (s.port p).outq ++ unitFoundNotice i u :: more := by
  dsimp only
  have roster : ∀ v, v = (UnitRec.found ph x q.route (marginSample q.route.length uplink x.downlink x.hopUp)
      (s.replySecond ago)).lawful s.roster none → (s.recordFound ph q x uplink ago).roster = putUnit i v s.roster := by
    rintro v rfl
    obtain ⟨none, -⟩ | ⟨j, same, put⟩ := s.recordFound_same_or_put ph q x uplink ago
    · rw [free] at none
      cases none
    · rw [free] at same
      cases same
      exact put
  refine ⟨roster _ rfl, ?_, fun p length notices => ?_⟩
  · unfold State.recordFound
    rw [free]
    dsimp only
    generalize (UnitRec.found ph x q.route _ _).lawful s.roster none = u
    have registered := State.register_disc (s := { s with roster := putUnit i u s.roster }) (ph := ph) awake i u.address
    refine Eq.trans ?_ registered
    refine congrArg (Tri.get · ph) ?_
    exact (State.recomputeGroups_within _ _ .discovery (by decide)).trans ((State.offerBoth_ports _ _).within .discovery (by decide))
  · unfold State.recordFound
    rw [free]
    dsimp only
    generalize (UnitRec.found ph x q.route _ _).lawful s.roster none = u
    have same : (State.register { s with roster := putUnit i u s.roster } ph i u.address).port p = s.port p := by
      have ports := State.register_within { s with roster := putUnit i u s.roster } ph i u.address .ports (by decide)
      exact congrArg (Duo.get · p) ports
    have grows := State.recomputeGroups_grows (P := fun _ => True) (fun _ _ => trivial)
      ((State.register { s with roster := putUnit i u s.roster } ph i u.address).offerBoth (unitFoundNotice i u)) u.groups
    obtain ⟨more, queue, -⟩ := (grows p).outq
    refine ⟨more, queue.trans ?_⟩
    rw [State.offerBoth_port, same, PortRec.offered_outq_of_room length notices]
    simp

/-! ### A known unit (R103, R104, R125, R127) -/

theorem State.indexOf?_of_unit {i : Nat} {v : UnitRec} (lawful : RosterLawful s) (unit : s.unit? i = some v) :
    s.indexOf? v.address = some (i, v) := by
  have member : (i, v) ∈ s.roster := unitAt_mem unit
  cases found : s.indexOf? v.address with
  | none => exact absurd rfl (State.indexOf?_eq_none_iff.mp found _ member)
  | some y =>
      obtain ⟨hy, address⟩ := State.indexOf?_mem found
      exact congrArg some (List.inj_on_of_nodup_map lawful.1.2.1 hy member address)

/-- A known unit, and the units that depend on it where it has moved (R103, R125). -/
theorem State.updateFound_known {i : Nat} {u : UnitRec} {x : ProbeReplyReading} (lawful : RosterLawful s)
    (unit : s.unit? i = some u) (awake : (s.chan ph).state ≠ .halted) (uplink ago : Nat) :
    let v := u.refound s.roster i ph q.route (marginSample q.route.length uplink x.downlink x.hopUp) (s.replySecond ago)
    let t := s.updateFound ph q x uplink ago i u
    t.unit? i = some v ∧
      (∀ j ≠ i, t.unit? j =
        if v.route = u.route ∧ v.phase = u.phase then s.unit? j else (s.unit? j).map (withdrawnFrom i)) ∧
      t.disc ph = { s.disc ph with registration := (s.disc ph).registration ++ [(i, u.address)] } := by
  dsimp only
  obtain ⟨v, is, roster⟩ := State.updateFound_roster lawful.1 ph q x uplink ago i u
  rw [← is]
  refine ⟨?_, fun j apart => ?_, ?_⟩
  · unfold State.unit?
    rw [roster, written]
    split
    · rw [unitAt_clearDependents_self, unitAt_setUnit_self unit]
    · rw [unitAt_setUnit_self unit]
  · unfold State.unit?
    by_cases same : v.route = u.route ∧ v.phase = u.phase
    · have stays : u.movedTo v = false := by simp [UnitRec.movedTo, same]
      rw [if_pos same, roster, stays, written, if_neg (by decide), unitAt_setUnit_ne apart]
    · have moved : u.movedTo v = true := by
        by_contra no
        simp only [UnitRec.movedTo, Bool.not_eq_true, Bool.or_eq_false_iff, bne_eq_false_iff_eq] at no
        exact same ⟨no.1.symm, no.2.symm⟩
      rw [if_neg same, roster, moved, written, if_pos rfl, unitAt_dependents apart, unitAt_setUnit_ne apart]
  · have registered (after : Roster) :
        ((State.noticeLost { s with roster := after } s.roster .route).register ph i u.address).disc ph =
          { s.disc ph with registration := (s.disc ph).registration ++ [(i, u.address)] } := by
      have noted := State.noticeLost_within (s := { s with roster := after }) s.roster .route
      have disc : (State.noticeLost { s with roster := after } s.roster .route).disc ph = s.disc ph :=
        congrArg (Tri.get · ph) (noted .discovery (by decide))
      have chan : (State.noticeLost { s with roster := after } s.roster .route).chan ph = s.chan ph :=
        State.chan_of_within noted (by decide) ph
      rw [State.register_disc (by rw [chan]; exact awake), disc]
    unfold State.updateFound
    dsimp only
    split
    · have groups := State.recomputeGroups_within
      exact (congrArg (Tri.get · ph) (groups _ _ .discovery (by decide))).trans (registered _)
    · exact registered _

/-- A new unit with its first sample, on the route of the probe where that is lawful (R124, R127). -/
theorem UnitRec.found_follows (ph : Phase) (x : ProbeReplyReading) (route : List Nat) (sample : Nat) (second : Option Nat)
    (roster : Roster) :
    let u := (UnitRec.found ph x route sample second).lawful roster none
    (u.address = x.address ∧ u.phase = ph ∧ u.groups = x.groups ∧ u.relayCapable = x.relayCapable ∧ u.pinned = false ∧
        u.silence = 0 ∧ u.margin = sample ∧ u.samples = 1 ∧ u.lastHeard = second ∧
        u.mode = (if sample < 56 then .robust else if sample < 96 then .normal else .fast)) ∧
      (if routeLawful roster ph none route then u.route = route ∧ u.state = .active else u.route = [] ∧ u.state = .lost) := by
  dsimp only
  unfold UnitRec.lawful
  rw [UnitRec.found_eq, reselect_robust]
  dsimp only
  by_cases holds : routeLawful roster ph none route = true
  · rw [if_pos holds, if_pos holds]
    exact ⟨⟨rfl, rfl, rfl, rfl, rfl, rfl, rfl, rfl, rfl, rfl⟩, rfl, rfl⟩
  · rw [if_neg holds, if_neg holds]
    exact ⟨⟨rfl, rfl, rfl, rfl, rfl, rfl, rfl, rfl, rfl, rfl⟩, rfl, rfl⟩

/-- A known unit after a probe reply (R104, R125, R127). -/
theorem UnitRec.refound_follows (u : UnitRec) (roster : Roster) (i : Nat) (ph : Phase) (route : List Nat) (sample : Nat)
    (second : Option Nat) :
    let v := u.refound roster i ph route sample second
    v.address = u.address ∧ v.groups = u.groups ∧ v.relayCapable = u.relayCapable ∧ v.pinned = u.pinned ∧ v.silence = 0 ∧
      v.margin = (u.takeSample false sample).margin ∧ v.samples = (u.takeSample false sample).samples ∧
      v.mode = (u.takeSample false sample).mode ∧ v.lastHeard = second.or u.lastHeard ∧
      (u.pinned = true ∨ i ∈ route → v.state = .active ∧ v.route = u.route ∧ v.phase = u.phase) ∧
      (u.pinned = false → i ∉ route → v.phase = ph ∧
        (if routeLawful roster ph (some i) route then v.state = .active ∧ v.route = route
          else v.state = .lost ∧ v.route = [])) := by
  obtain ⟨address, phase, groups, capable, same, -⟩ := u.takeSample_fixed false sample
  have pinned : (u.takeSample false sample).pinned = u.pinned := by
    unfold UnitRec.takeSample
    split_ifs <;> rfl
  have lastHeard : (u.takeSample false sample).lastHeard = u.lastHeard := by
    unfold UnitRec.takeSample
    split_ifs <;> rfl
  dsimp only
  unfold UnitRec.refound
  dsimp only
  by_cases stays : (u.pinned || route.contains i) = true
  · rw [if_pos stays]
    refine ⟨address, groups, capable, pinned, rfl, rfl, rfl, rfl, congrArg second.or lastHeard, fun _ => ⟨rfl, same, phase⟩,
      fun free off => ?_⟩
    rw [free, Bool.false_or, List.contains_iff_mem] at stays
    exact absurd stays off
  · have moves : ¬ (u.pinned = true ∨ i ∈ route) := by simpa using stays
    rw [if_neg stays]
    unfold UnitRec.lawful
    dsimp only
    by_cases holds : routeLawful roster ph (some i) route = true
    · rw [if_pos holds, if_pos holds]
      exact ⟨address, groups, capable, pinned, rfl, rfl, rfl, rfl, congrArg second.or lastHeard, fun either => absurd either moves,
        fun _ _ => ⟨rfl, rfl, rfl⟩⟩
    · rw [if_neg holds, if_neg holds]
      exact ⟨address, groups, capable, pinned, rfl, rfl, rfl, rfl, congrArg second.or lastHeard, fun either => absurd either moves,
        fun _ _ => ⟨rfl, rfl, rfl⟩⟩

/-! ### The three kinds of window (R123) -/

/-- A window in which no reply agrees. -/
theorem State.windowRead_of_no_good
    (apart : ∀ f ∈ heard, ∀ x, replyTaken f s.identity.code r.window = some x → q.filter.goodReply r.next x = false) :
    s.windowRead ph r q heard =
      if (∀ f ∈ heard, replyTaken f s.identity.code r.window = none) ∧ ∃ f ∈ heard, inTransit s.identity.code f.frame.bytes = false then
        s.modDisc ph (fun d => d.collide q r.next)
      else s := by
  unfold State.windowRead
  rw [readWindow_of_no_good apart]
  split_ifs <;> rfl

theorem State.windowOver_frame (more : r.next < 3) (calendar : (s.windowRead ph r q heard).calendar = s.calendar) :
    s.windowOver ph r q heard =
      (s.windowRead ph r q heard).modChan ph (fun c => { c with work := some (.probe { r with next := r.next + 1 }) }) := by
  rw [State.windowOver_next more]
  exact State.retireSince_of_same calendar

/-- Settles O40: the window is read (R123), what it records is looked up in the roster (R124, R125), and the channel goes on. -/
theorem probeWindowsRecordWhatAnswers : Obligations.ProbeWindowsRecordWhatAnswers := by
  intro ph heard s r q lawful work probe listening inside due
  have run := execProbeWindowEnd_due (heard := heard) work probe listening due
  have awake : (s.chan ph).state ≠ .halted := by rw [listening]; exact fun same => ChannelState.noConfusion same
  have goesOn := s.windowOver_goesOn ph r q heard
  have roster := State.windowOver_roster (s := s) (ph := ph) (q := q) (heard := heard) inside
  dsimp only at goesOn ⊢
  simp only [← replyTaken_iff', ← goodReply_iff]
  refine ⟨fun none silent => ?_, fun none something => ?_, fun front back f x split before taken good => ?_⟩
  · have read : s.windowRead ph r q heard = s := by
      rw [State.windowRead_of_no_good fun f hf x taken => Bool.not_eq_true _ ▸ none f hf x taken, if_neg]
      rintro ⟨empty, f, hf, loud⟩
      obtain ⟨f, hf, x, taken⟩ | transit := silent
      · rw [empty f hf] at taken
        cases taken
      · rw [transit f hf] at loud
        cases loud
    rw [read] at goesOn roster
    refine ⟨_, run, ⟨goesOn, roster⟩, fun more => ?_⟩
    rw [State.windowOver_frame more (by rw [read]), read]
    rfl
  · have read : s.windowRead ph r q heard = s.modDisc ph (fun d => d.collide q r.next) := by
      rw [State.windowRead_of_no_good fun f hf x taken => absurd taken (none f hf x), if_pos]
      exact ⟨fun f hf => Option.eq_none_iff_forall_ne_some.mpr (none f hf), something⟩
    rw [read, State.disc_modDisc_self] at goesOn
    rw [read] at roster
    refine ⟨_, run, fun more => ?_, goesOn, roster⟩
    rw [State.windowOver_frame more (by rw [read]; rfl), read]
    rfl
  · have reads : readWindow s.identity.code q.filter r.next r.window heard = .good x (marginOf f.frame.uplink) f.ago := by
      rw [split]
      exact readWindow_good (fun y hy z hz => Bool.not_eq_true _ ▸ before y hy z hz) taken good
    have read : s.windowRead ph r q heard = s.applyWindow ph q r.next (.good x (marginOf f.frame.uplink) f.ago) := by
      unfold State.windowRead
      rw [reads]
    have grows := State.windowOver_grows (s := s) (ph := ph) (q := q) (heard := heard) inside
    refine ⟨fun i fresh below free used => ?_, fun fresh full => ?_, fun i u unit address => ?_⟩
    · have read' : s.windowRead ph r q heard = s.recordFound ph q x (marginOf f.frame.uplink) f.ago := by
        rw [read]
        unfold State.applyWindow
        dsimp only
        rw [State.indexOf?_eq_none_iff.mpr fresh]
      obtain ⟨put, disc, found⟩ := State.recordFound_free (q := q) (x := x)
        (lowestFree_eq_some lawful.1.rising below free used) awake (marginOf f.frame.uplink) f.ago
      rw [read', disc] at goesOn
      rw [read', put] at roster
      rw [read'] at grows
      have follows := UnitRec.found_follows ph x q.route
        (marginSample q.route.length (marginOf f.frame.uplink) x.downlink x.hopUp) (s.replySecond f.ago) s.roster
      generalize (UnitRec.found ph x q.route
        (marginSample q.route.length (marginOf f.frame.uplink) x.downlink x.hopUp) (s.replySecond f.ago)).lawful s.roster none = u
        at put disc found goesOn roster follows
      rw [marginSample_route] at follows
      obtain ⟨fields, routed⟩ := follows
      rw [fields.1] at goesOn
      refine ⟨_, u, run, goesOn, ?_, fun j apart => ?_, fields, routed, fun p length notices => ?_⟩
      · unfold State.unit?
        rw [roster, unitAt_putUnit_self free lawful.1.rising]
      · unfold State.unit?
        rw [roster, unitAt_putUnit_ne free lawful.1.rising apart]
      · obtain ⟨more, queue⟩ := found p length notices
        obtain ⟨new, queue', -⟩ := (grows p).outq
        rw [queue] at queue'
        exact ⟨more ++ new, queue'.trans (by simp [unitFoundNotice, byteOf])⟩
    · have read' : s.windowRead ph r q heard = s.post (.rosterFull ph x.address) := by
        rw [read]
        unfold State.applyWindow State.recordFound
        dsimp only
        rw [State.indexOf?_eq_none_iff.mpr fresh]
        dsimp only
        rw [lowestFree_eq_none lawful.1.rising full]
      have posted := (s.post_fault (.rosterFull ph x.address)).within
      obtain ⟨calm, halts⟩ := State.windowOver_faults (s := s) (ph := ph) (q := q) (heard := heard) inside
      rw [read', show (s.post (.rosterFull ph x.address)).disc ph = s.disc ph from
        congrArg (Tri.get · ph) (posted .discovery (by decide))] at goesOn
      rw [read', posted .roster (by decide)] at roster
      rw [read', State.post_faults] at calm halts
      have record : (if s.faults.record.isNone then some (FaultReport.rosterFull ph x.address, s.faultTime) else s.faults.record) =
          s.faults.record.or (some (.rosterFull ph x.address, s.faultTime)) := by
        cases s.faults.record <;> rfl
      dsimp only at calm halts
      rw [record] at calm halts
      refine ⟨_, run, ⟨goesOn, roster⟩, ?_, fun still => ?_, fun last pending => ?_⟩
      · by_cases still : r.next < 3 ∨ (s.chan ph).haltPending = false
        · rw [calm still]
        · have last : r.next = 3 := by omega
          have pending : (s.chan ph).haltPending = true := by simpa using fun goes => still (.inr goes)
          rw [(halts last pending).1]
          cases s.faults.record <;> rfl
      · rw [calm still]
        exact ⟨rfl, rfl⟩
      · exact (halts last pending).2
    · have read' : s.windowRead ph r q heard = s.updateFound ph q x (marginOf f.frame.uplink) f.ago i u := by
        rw [read]
        unfold State.applyWindow
        dsimp only
        rw [← address, State.indexOf?_of_unit lawful unit]
      obtain ⟨own, others, disc⟩ := State.updateFound_known (q := q) (x := x) lawful unit awake (marginOf f.frame.uplink) f.ago
      rw [read', disc, address] at goesOn
      rw [read'] at roster
      have follows := u.refound_follows s.roster i ph q.route
        (marginSample q.route.length (marginOf f.frame.uplink) x.downlink x.hopUp) (s.replySecond f.ago)
      generalize u.refound s.roster i ph q.route
        (marginSample q.route.length (marginOf f.frame.uplink) x.downlink x.hopUp) (s.replySecond f.ago) = v
        at own others follows
      rw [marginSample_route] at follows
      obtain ⟨address', groups, capable, pinned, silence, margin, samples, mode, lastHeard, stays, moves⟩ := follows
      have units (j : Nat) : (s.windowOver ph r q heard).unit? j =
          (s.updateFound ph q x (marginOf f.frame.uplink) f.ago i u).unit? j := congrArg (unitAt · j) roster
      exact ⟨_, v, run, goesOn, (units i).trans own, address', groups, capable, pinned, silence, margin, samples, mode, lastHeard,
        stays, moves, fun j apart => (units j).trans (others j apart)⟩

end Sys2Proof.Machine
end

section
/-! PROOFS. The flood that ends the last part of an entry decides its outcome, LINE STATE coming before OUTCOME (R25, R26,
R51, R67). -/

namespace Sys2Proof.Machine

variable {s t u : State} {ph : Phase} {h : Nat} {e : Entry}

/-! ### The line that drains (R51) -/

/-- LINE STATE is offered as the line drains. -/
theorem State.checkDrained_ports (s : State) :
    s.checkDrained.ports =
      (if decide (s.line = .draining) && !s.anyBusy then s.offerBoth (lineNotice .held s.hold) else s).ports := by
  unfold State.checkDrained State.settleLine
  by_cases drained : (decide (s.line = .draining) && !s.anyBusy) = true
  · have line : s.line = .draining := of_decide_eq_true (Bool.and_eq_true_iff.mp drained).1
    rw [if_pos drained, if_pos drained, State.noteLine_of_changed _ fun same => LineState.noConfusion (same.1.trans line), State.offerBoth_eq,
      State.offerBoth_eq]
  · rw [if_neg drained, if_neg drained, State.noteLine_of_same s rfl rfl]

theorem State.offerBoth_ports_congr (i : Item) (ports : t.ports = s.ports) : (t.offerBoth i).ports = (s.offerBoth i).ports := by
  rw [State.offerBoth_eq, State.offerBoth_eq, ports]

/-- With the work of one channel ended, it is the others that keep the line from being held. -/
theorem State.anyBusy_of_idle (idle : (t.chan ph).busy = false) (others : ∀ k ≠ ph, t.chan k = s.chan k) :
    (!t.anyBusy) = [Phase.L1, Phase.L2, Phase.L3].all (fun k => decide (k = ph) || !(s.chan k).busy) := by
  have one (k : Phase) : (!(t.chan k).busy) = (decide (k = ph) || !(s.chan k).busy) := by
    by_cases here : k = ph
    · subst here
      simp [idle]
    · simp [here, others k here]
  simp only [List.all_cons, List.all_nil, ← one]
  simp [State.anyBusy, Tri.toList, State.chan, Tri.get]

/-! ### An outcome decided before the event's last notices -/

/-- An entry that stands decided before the entries retire, and no other with it, has retired at the end. -/
theorem retires_of_decided (nodup : (t.calendar.map (·.handle)).Nodup) (found : t.entry? e.handle = some e.retired)
    (others : ∀ x ∈ t.calendar, x.handle ≠ e.handle → x ∈ s.calendar)
    (fresh : ∀ x ∈ s.calendar, x.handle = e.handle → x.outcome = none)
    (ports : t.ports = u.ports) (retirement : t.retirement = u.retirement) : retires u (t.retireSince s) e := by
  obtain ⟨front, back, placed, apart⟩ := placed_of_nodup nodup (State.entry?_mem found)
  have joins := State.retireSince_of_one (s := s) (e := e.retired) placed apart rfl fresh fun x hx has => by
    refine ⟨x, others x ?_ (apart x hx), rfl, has⟩
    rw [placed]
    obtain hx | hx := List.mem_append.mp hx <;> simp [hx]
  exact (congrArg (retires u · e) joins).mpr (retires_joinRetirement found ports retirement)

/-! ### The end of the last part (R67) -/

/-- The entry as the end of a flood finishes its part. -/
def Entry.floodFinished (e : Entry) (ph : Phase) (f : Finish) (needed : Bool) : Entry :=
  (e.modPart ph (fun p => { p with sent := p.sent + 1 })).modPart ph (·.finished f needed)

theorem Entry.floodFinished_allFinished (f : Finish) (needed : Bool) (last : ∀ k ≠ ph, (e.parts.get k).state = .finished) :
    (e.floodFinished ph f needed).allFinished = true := by
  refine (Entry.allFinished_iff _).mpr fun k => ?_
  rw [Entry.floodFinished, Entry.parts_modPart, Entry.parts_modPart]
  split
  · rfl
  · rename_i apart
    rw [Entry.parts_modPart, if_neg apart]
    exact last k apart

/-- The state at the end of a flood, its repeat counted and the open part closed. -/
def State.floodCounted (s : State) (ph : Phase) (h : Nat) : State :=
  ((s.modChan ph Channel.endFlood).modPart h ph (fun p => { p with sent := p.sent + 1 })).modChan ph
    (fun c => { c with openPart := none })

theorem State.floodCounted_entry (found : s.entry? h = some e) :
    (s.floodCounted ph h).entry? h = some (e.modPart ph (fun p => { p with sent := p.sent + 1 })) :=
  State.entry?_modPart (s := s) found ph _

/-- What a flood that ends its part leaves before the channel goes on. -/
theorem State.finishPart_floodCounted (found : s.entry? h = some e) (f : Finish) :
    ((s.floodCounted ph h).finishPart h ph f).entry? h = some (e.floodFinished ph f (s.needed e.group ph)) ∧
      ((s.floodCounted ph h).finishPart h ph f).ports =
        (if e.cancelled then s
          else s.offer e.origin (.notice .partFinished
            (be 2 h ++ [e.tag, phaseByte ph, finishByte f, byteOf ((e.parts.get ph).sent + 1)]))).ports := by
  have counted := State.floodCounted_entry (ph := ph) found
  have finished := State.entry?_modPart counted ph (·.finished f (s.needed e.group ph))
  have sent : ((e.modPart ph (fun p => { p with sent := p.sent + 1 })).parts.get ph).sent = (e.parts.get ph).sent + 1 := by
    rw [Entry.parts_modPart, if_pos rfl]
  rw [State.finishPart, counted]
  dsimp only
  have handle : e.handle = h := State.entry?_handle found
  rw [sent, partFinishedNotice, show (e.modPart ph (fun p => { p with sent := p.sent + 1 })).handle = h from handle]
  by_cases cancelled : e.cancelled = true
  · rw [if_pos (show (e.modPart ph _).cancelled = true from cancelled), if_pos cancelled]
    exact ⟨finished, rfl⟩
  · rw [if_neg (show ¬ (e.modPart ph _).cancelled = true from cancelled), if_neg cancelled]
    refine ⟨(State.entry?_of_same (State.offer_within _ _ _ .calendar (by decide))).trans finished, ?_⟩
    rw [State.offer_eq, State.offer_eq]
    rfl

/-- The finish of a part whose repeat has been sent (R66). -/
theorem Part.startedFinish_sent (p : Part) :
    ({ p with sent := p.sent + 1 } : Part).startedFinish =
      (match p.start with
       | some k => if k ≤ p.ls then .onTime else .late
       | none => .missed) := by
  unfold Part.startedFinish
  cases start : p.start <;> simp [start]

/-- The flood that ends the last part of an entry without confirmation, or of a cancelled one. -/
theorem floodEnd_last {f : Flood} (work : (s.chan ph).work = some (.flood f)) (spent : f.span ≤ f.slots)
    (entry : f.entry = some h) (found : s.entry? h = some e) (nodup : (s.calendar.map (·.handle)).Nodup)
    (last : ∀ k ≠ ph, (e.parts.get k).state = .finished) (undecided : e.outcome = none) (unconfirmed : e.confirmation = none)
    (ends : e.confirm = false ∨ e.cancelled = true)
    (finishes : (e.parts.get ph).sent + 1 = (e.parts.get ph).planned ∨ e.cancelled = true ∨ e.cutOffReached = true)
    (goes : (s.chan ph).haltPending = false) (line : s.line ≠ .running) {f' : Finish}
    (finish : ({ e.parts.get ph with sent := (e.parts.get ph).sent + 1 } : Part).startedFinish = f') :
    let noted :=
      if e.cancelled then s
      else s.offer e.origin (.notice .partFinished
        (be 2 h ++ [e.tag, phaseByte ph, finishByte f', byteOf ((e.parts.get ph).sent + 1)]))
    let drained := decide (s.line = .draining) &&
      [Phase.L1, Phase.L2, Phase.L3].all (fun k => decide (k = ph) || !(s.chan k).busy)
    ∃ t, exec (.floodEnd ph) s = .next t ∧
      retires (if drained then noted.offerBoth (lineNotice .held s.hold) else noted) t
        (e.floodFinished ph f' (s.needed e.group ph)) := by
  intro noted drained
  obtain ⟨found', ports⟩ := State.finishPart_floodCounted (ph := ph) found f'
  have handle : e.handle = h := State.entry?_handle found
  let ended := e.floodFinished ph f' (s.needed e.group ph)
  let w := (s.floodCounted ph h).finishPart h ph f'
  have settled : w.settleEntry h = w.decideOutcome h := by
    rw [State.settleEntry_of_ended found' (Entry.floodFinished_allFinished _ _ last) undecided unconfirmed, if_neg]
    rw [show (e.floodFinished ph f' (s.needed e.group ph)).cancelled = e.cancelled from rfl,
      show (e.floodFinished ph f' (s.needed e.group ph)).confirm = e.confirm from rfl]
    obtain confirm | cancelled := ends
    · simp [confirm]
    · simp [cancelled]
  let v := (w.decideOutcome h).clearWork ph
  have chan : v.chan ph = { w.chan ph with state := .idle, work := none, gapLeft := none } := State.chan_modChan_self _ _ _
  have counted : Within [.ports, .calendar] (s.floodCounted ph h) w := State.finishPart_within _ h ph f'
  have chans (k : Phase) : w.chan k = (s.floodCounted ph h).chan k := State.chan_of_within counted (by decide) k
  have off : (s.floodCounted ph h).chan ph = { (s.chan ph).endFlood with openPart := none } :=
    (State.chan_modChan_self _ ph _).trans
      (congrArg (fun c : Channel => { c with openPart := none }) (State.chan_modChan_self s ph Channel.endFlood))
  have others : ∀ k ≠ ph, v.chan k = s.chan k := fun k apart => by
    refine (State.chan_modChan_ne _ _ apart).trans ((chans k).trans ?_)
    exact (State.chan_modChan_ne _ _ apart).trans (State.chan_modChan_ne s Channel.endFlood apart)
  have idle : (v.chan ph).busy = false := by rw [chan]; rfl
  have line' : v.line = s.line := counted .line (by decide)
  have hold : v.hold = s.hold := counted .hold (by decide)
  have run : exec (.floodEnd ph) s = .next ((v.checkDrained.markQuiet ph).retireSince s) := by
    have after : v.afterWork ph = v.checkDrained.markQuiet ph := State.afterWork_quiet
      (by rw [chan, chans, off]; exact goes) (by rw [line']; exact line)
    have flood : s.endFlood ph f = v.afterWork ph := by
      have entry' := State.entry?_modPart (s := s.modChan ph Channel.endFlood) found ph (fun p => { p with sent := p.sent + 1 })
      unfold State.endFlood
      dsimp only
      rw [entry]
      dsimp only
      rw [entry']
      dsimp only
      unfold State.afterFlood
      have part : ((e.modPart ph (fun p => { p with sent := p.sent + 1 })).parts.get ph) =
          { e.parts.get ph with sent := (e.parts.get ph).sent + 1 } := by
        rw [Entry.parts_modPart, if_pos rfl]
      dsimp only
      rw [part, if_pos (by
        rw [Bool.or_eq_true, Bool.or_eq_true, decide_eq_true_eq, or_assoc]
        exact finishes), State.finishOpen, finish]
      exact congrArg (fun x : State => (x.clearWork ph).afterWork ph) settled
    change Host.Outcome.next _ = _
    rw [work]
    dsimp only
    rw [if_pos spent, flood, after]
  have quiet : Within [.ports, .line, .channels] (w.decideOutcome h) (v.checkDrained.markQuiet ph) :=
    ((State.modChan_within _ ph _).then (ds := [.ports, .line, .channels]) v.checkDrained_within (by decide)).then
      (State.modChan_within _ ph _) (by decide)
  have edits : Edits h s (v.checkDrained.markQuiet ph) := by
    have counts : Edits h s (s.floodCounted ph h) := .modEntry s h fun _ => rfl
    exact ((counts.trans (.finishPart _ h ph f')).trans (.decideOutcome w h)).trans (.of_within quiet (by decide))
  refine ⟨_, run, retires_of_decided (edits.handles.symm ▸ nodup) ?_ (fun x hx apart => edits.mem_ne hx ?_) (fun x hx same => ?_)
    ?_ ?_⟩
  · rw [show (e.floodFinished ph f' (s.needed e.group ph)).handle = h from handle]
    exact (State.entry?_of_same (quiet .calendar (by decide))).trans (State.entry?_decideOutcome found' undecided)
  · rwa [show (e.floodFinished ph f' (s.needed e.group ph)).handle = h from handle] at apart
  · have stands := State.entry?_of_mem nodup hx
    rw [same, show (e.floodFinished ph f' (s.needed e.group ph)).handle = h from handle, found] at stands
    cases stands
    exact undecided
  · refine (State.checkDrained_ports v).trans ?_
    rw [line', hold, State.anyBusy_of_idle idle others]
    have noted_ports : v.ports = noted.ports := ports
    change (if drained = true then v.offerBoth (lineNotice .held s.hold) else v).ports = _
    split
    · exact State.offerBoth_ports_congr _ noted_ports
    · exact noted_ports
  · have kept : noted.retirement = s.retirement := by
      change (if e.cancelled then s else s.offer _ _).retirement = _
      split
      · rfl
      · exact State.offer_within _ _ _ .retirement (by decide)
    refine ((quiet .retirement (by decide)).trans (counted .retirement (by decide))).trans ?_
    split
    · exact (kept.symm).trans ((State.offerBoth_ports noted _).within .retirement (by decide)).symm
    · exact kept.symm

end Sys2Proof.Machine
end

section
/-! PROOFS. Entries whose outcomes one event decides join their origin's retirement queue in calendar order (R25). -/

namespace Sys2Proof.Machine

variable {s t u v : State} {p q : Port} {ph : Phase} {h : Nat} {e : Entry}

/-! ### Joining behind held notices (R172) -/

/-- Behind other held notices OUTCOME is held, and the entry stays. -/
theorem State.joinRetirement_own (found : s.entry? h = some e) (holds : (s.port e.origin).held ≠ []) :
    s.joinRetirement h =
      State.modPort { s with retirement := s.retirement.set e.origin (s.retirement.get e.origin ++ [h]) } e.origin
        (fun r => { r with held := r.held ++ [.outcome h] }) := by
  unfold State.joinRetirement
  rw [found]
  dsimp only
  rw [State.offerHeld, if_neg]
  intro free
  exact holds (List.isEmpty_iff.mp (Bool.and_eq_true_iff.mp free).1)

/-- An entry of the other port leaves this one's notices and its retirement queue. -/
theorem State.joinRetirement_other (found : s.entry? h = some e) (apart : p ≠ e.origin) :
    (s.joinRetirement h).retirement.get p = s.retirement.get p ∧ (s.joinRetirement h).port p = s.port p := by
  unfold State.joinRetirement
  rw [found]
  dsimp only
  obtain eq | eq | ⟨i, -, eq⟩ := State.offerHeld_cases
    { s with retirement := s.retirement.set e.origin (s.retirement.get e.origin ++ [h]) } e.origin (.outcome h) <;> rw [eq]
  · exact ⟨Duo.get_set_ne _ _ apart, State.port_modPort_ne _ _ apart⟩
  · exact ⟨Duo.get_set_ne _ _ apart, rfl⟩
  · refine ⟨(Duo.get_set_ne _ _ apart).trans (Duo.get_set_ne _ _ apart), ?_⟩
    rw [State.completeHeld, State.port_retireEntry, State.pushItem, State.port_modPort_ne _ _ apart]
    rfl

/-- The entries of one port. -/
def State.entriesFrom (s : State) (p : Port) : List Entry := s.calendar.filter (fun e => decide (e.origin = p))

/-- One entry joins its retirement queue, the notices of port `p` held: its queue takes the handle where the entry is the
port's own, and its entries stay. -/
theorem State.joinRetirement_step (nodup : s.handles.Nodup) (he : e ∈ s.calendar) (holds : (s.port p).held ≠ []) :
    let t := s.joinRetirement e.handle
    t.retirement.get p = s.retirement.get p ++ (if e.origin = p then [e.handle] else []) ∧
      t.entriesFrom p = s.entriesFrom p ∧ t.handles.Nodup ∧ (t.port p).held ≠ [] ∧
      ∀ x ∈ s.calendar, x.handle ≠ e.handle → x ∈ t.calendar := by
  intro t
  have found := State.entry?_of_mem nodup he
  by_cases own : e.origin = p
  · subst own
    have eq : t = _ := State.joinRetirement_own found holds
    rw [eq, if_pos rfl]
    refine ⟨Duo.get_set_self _ _ _, rfl, nodup, ?_, fun x hx _ => hx⟩
    rw [State.port_modPort_self]
    exact List.append_ne_nil_of_right_ne_nil _ (List.cons_ne_nil _ _)
  · obtain ⟨queue, port⟩ := State.joinRetirement_other found (Ne.symm own)
    rw [if_neg own, List.append_nil, port]
    obtain same | gone := s.joinRetirement_calendar e.handle
    · refine ⟨queue, congrArg (List.filter _) same, ?_, holds, fun x hx _ => same.symm ▸ hx⟩
      unfold State.handles
      rwa [same]
    · refine ⟨queue, ?_, ?_, holds, fun x hx apart => gone.symm ▸ List.mem_filter.mpr ⟨hx, by simpa using apart⟩⟩
      · unfold State.entriesFrom
        rw [gone, List.filter_filter]
        refine List.filter_congr fun x hx => ?_
        by_cases here : x.handle = e.handle
        · have same := State.entry?_of_mem nodup hx
          rw [here, found] at same
          cases same
          simp [own]
        · simp [here]
      · unfold State.handles
        rw [gone]
        exact nodup.sublist (List.filter_sublist.map _)

/-- Entries that join one after the other, the notices of port `p` held. -/
theorem foldl_joinRetirement (l : List Entry) : ∀ s : State, s.handles.Nodup → (l.map (·.handle)).Nodup →
    (∀ e ∈ l, e ∈ s.calendar) → (s.port p).held ≠ [] →
    let t := (l.map (·.handle)).foldl State.joinRetirement s
    t.retirement.get p = s.retirement.get p ++ (l.filter (fun e => decide (e.origin = p))).map (·.handle) ∧
      t.entriesFrom p = s.entriesFrom p := by
  induction l with
  | nil => exact fun s _ _ _ _ => ⟨(List.append_nil _).symm, rfl⟩
  | cons e rest ih =>
      intro s nodup distinct mem holds
      obtain ⟨first, others⟩ := List.nodup_cons.mp distinct
      obtain ⟨queue, entries, nodup', holds', stays⟩ := State.joinRetirement_step nodup (mem e List.mem_cons_self) holds
      obtain ⟨queue', entries'⟩ := ih (s.joinRetirement e.handle) nodup' others (fun x hx =>
        stays x (mem x (List.mem_cons_of_mem e hx)) fun same => first (List.mem_map.mpr ⟨x, hx, same⟩)) holds'
      refine ⟨?_, entries'.trans entries⟩
      rw [List.map_cons, List.foldl_cons, queue', queue, List.append_assoc, List.filter_cons]
      by_cases own : e.origin = p <;> simp [own]

/-- The end of an event, for a port that holds notices: the entries of its own whose outcomes the event decided join its
retirement queue in calendar order (R25), and each stays, its OUTCOME held. -/
theorem State.retireSince_order (before : State) (nodup : s.handles.Nodup) (holds : (s.port p).held ≠ []) :
    (s.retireSince before).retirement.get p =
        s.retirement.get p ++ ((s.entriesFrom p).filter (Entry.decidedSince before)).map (·.handle) ∧
      (s.retireSince before).entriesFrom p = s.entriesFrom p := by
  have joins := foldl_joinRetirement (p := p) (s.calendar.filter (Entry.decidedSince before)) s nodup
    (nodup.sublist (List.filter_sublist.map _)) (fun e he => List.mem_of_mem_filter he) holds
  obtain ⟨queue, entries⟩ := joins
  refine ⟨queue.trans ?_, entries⟩
  unfold State.entriesFrom
  rw [List.filter_filter, List.filter_filter]
  simp only [Bool.and_comm]

/-! ### Before the entries retire -/

/-- No retirement queue changes, and handles stay held once. -/
def SameQueues (s t : State) : Prop := t.retirement = s.retirement ∧ (s.handles.Nodup → t.handles.Nodup)

theorem SameQueues.refl (s : State) : SameQueues s s := ⟨rfl, id⟩

theorem SameQueues.trans (h : SameQueues s t) (k : SameQueues t u) : SameQueues s u := ⟨k.1.trans h.1, k.2 ∘ h.2⟩

theorem SameQueues.of_within {bs : List Block} (within : Within bs s t)
    (apart : Block.calendar ∉ bs ∧ Block.retirement ∉ bs) : SameQueues s t := by
  refine ⟨within .retirement apart.2, fun nodup => ?_⟩
  unfold State.handles
  rwa [within .calendar apart.1]

theorem SameQueues.modEntry (s : State) (h : Nat) {f : Entry → Entry} (kept : ∀ e, (f e).handle = e.handle) :
    SameQueues s (s.modEntry h f) :=
  ⟨rfl, fun nodup => by unfold State.handles at *; rwa [State.handles_modEntry kept]⟩

theorem sameQueues_freeEdits : FreeEdits SameQueues where
  refl := SameQueues.refl
  trans := SameQueues.trans
  offer s p k c := .of_within (s.offer_within p _) (by decide)
  noteAny s h f noted := .modEntry s h fun e => Entry.fixed_handle (noted.fixed e)
  decideAny s h := .modEntry s h fun e => by split <;> rfl
  finishAny s h ph f b := .modEntry s h fun _ => rfl
  ready s h ph e _ _ := .modEntry s h fun _ => rfl
  wait s h ph e _ _ := .modEntry s h fun _ => rfl
  replan s h := .modEntry s h fun _ => rfl
  giveUp s ph h := .of_within (s.modChan_within ph _) (by decide)

theorem sameQueues_workSteps : WorkSteps SameQueues := by
  refine .of_aside sameQueues_freeEdits (fun h => .of_within h (by decide)) ?_ ?_ ?_ ?_ ?_
  · intro s h ph e _ _ _
    have same : SameQueues s (s.modEntry e.handle (fun x => { x with sequence := some ((s.group e.group).sequence + 1) })) :=
      .modEntry s e.handle fun _ => rfl
    refine ⟨?_, fun nodup => ?_⟩
    · unfold State.beginSending
      dsimp only
      rw [State.offer_ports]
      rfl
    · unfold State.handles
      rw [s.beginSending_calendar e]
      exact same.2 nodup
  all_goals exact fun s h _ => by intros; exact .modEntry s h fun _ => rfl

/-- And a port that holds notices goes on to. -/
def Unretired (s t : State) : Prop := SameQueues s t ∧ ∀ p, (s.port p).held ≠ [] → (t.port p).held ≠ []

theorem Unretired.refl (s : State) : Unretired s s := ⟨.refl s, fun _ => id⟩

theorem Unretired.trans (h : Unretired s t) (k : Unretired t u) : Unretired s u := ⟨h.1.trans k.1, fun p => k.2 p ∘ h.2 p⟩

theorem Grows.holds {P : Item → Prop} (h : Grows P s t) (p : Port) (holds : (s.port p).held ≠ []) : (t.port p).held ≠ [] := by
  obtain ⟨more, eq, -⟩ := (h p).held
  rw [eq]
  exact List.append_ne_nil_of_left_ne_nil holds _

theorem unretired_workSteps : WorkSteps Unretired :=
  (sameQueues_workSteps.and grows_workKeeps.toWorkSteps).imp Unretired.refl Unretired.trans fun h => ⟨h.1, h.2.holds⟩

theorem Unretired.of_within {bs : List Block} (within : Within bs s t)
    (apart : Block.calendar ∉ bs ∧ Block.retirement ∉ bs ∧ Block.ports ∉ bs) : Unretired s t := by
  refine ⟨.of_within within ⟨apart.1, apart.2.1⟩, fun p holds => ?_⟩
  unfold State.port
  rw [within .ports apart.2.2]
  exact holds

theorem Unretired.modPort (s : State) (p : Port) {f : PortRec → PortRec} (same : ∀ r, (f r).held = r.held) :
    Unretired s (s.modPort p f) := by
  refine ⟨.of_within (State.modPort_ports s p f).within (by decide), fun q holds => ?_⟩
  by_cases here : q = p
  · subst here
    rw [State.port_modPort_self, same]
    exact holds
  · rwa [State.port_modPort_ne _ _ here]

theorem unretired_eventSteps : EventSteps Unretired := by
  refine .of_work unretired_workSteps (fun h => .of_within h (by decide)) ?_ ?_ ?_ ?_ ?_ ?_ ?_
  · exact fun s p => .modPort s p fun _ => rfl
  · exact fun s p _ _ _ _ => .modPort s p fun _ => rfl
  · exact fun s g => ⟨⟨rfl, id⟩, fun _ => id⟩
  · exact fun s v _ _ => ⟨⟨rfl, id⟩, fun _ => id⟩
  · exact fun s leaves => ⟨⟨rfl, id⟩, fun _ => id⟩
  · refine fun s => ⟨⟨rfl, fun nodup => ?_⟩, fun _ => id⟩
    unfold State.handles
    rw [List.map_map]
    exact nodup
  · intro s p tag a x c passes
    have replied (u : State) (code tag : Byte) (o : ReplyCode) (x : List Byte) : Unretired u (u.reply p code tag o x) :=
      .modPort u p fun _ => rfl
    refine ⟨⟨rfl, fun nodup => ?_⟩, ?_⟩
    · exact State.joined_nodup nodup (State.assignHandle_fresh (State.room_of_submitRefusal passes).1)
    · exact (replied { s with calendar := _, lastHandle := _ } _ _ _ _).2

/-- The entries of a port whose outcomes an event has decided, by the handles of before it. -/
theorem decidedSince_filter (s t : State) (p : Port) :
    t.calendar.filter (fun e =>
      decide (e.origin = p) && e.outcome.isSome &&
        s.calendar.all (fun x => decide (x.handle ≠ e.handle) || x.outcome.isNone)) =
      (t.entriesFrom p).filter (Entry.decidedSince s) := by
  unfold State.entriesFrom
  rw [List.filter_filter]
  refine List.filter_congr fun e _ => ?_
  have fresh : s.calendar.all (fun x => decide (x.handle ≠ e.handle) || x.outcome.isNone) =
      !s.calendar.any (fun x => x.handle == e.handle && x.outcome.isSome) := by
    rw [List.not_any_eq_all_not]
    refine congrArg s.calendar.all (funext fun x => ?_)
    by_cases same : x.handle = e.handle <;> cases x.outcome <;> simp [same]
  rw [fresh, Entry.decidedSince, Bool.and_assoc, Bool.and_comm]

/-- The commands that start no block afresh, and after which no port makes up for waiting work and clears no queue. -/
def joinsInOrder : Instr → Bool
  | .powerOn .. | .pinReset .. | .commandTransfer .. | .fetchTransfer .. | .heldNoticeQueued .. | .resetPort .. => false
  | _ => true

/-- What an event decides joins in calendar order. -/
theorem exec_retirement {c : Instr} (plain : joinsInOrder c = true) (nodup : s.handles.Nodup) (holds : (s.port p).held ≠ [])
    (run : exec c s = .next t) :
    t.retirement.get p =
      s.retirement.get p ++ ((t.entriesFrom p).filter (Entry.decidedSince s)).map (·.handle) := by
  by_cases retires : retiring c = true
  · obtain ⟨v, b, ⟨⟨queues, handles⟩, held⟩, before, rfl⟩ := unretired_eventSteps.exec retires run
    have same : Entry.decidedSince b = Entry.decidedSince s := by
      funext e
      unfold Entry.decidedSince
      rw [before]
    obtain ⟨order, stays⟩ := v.retireSince_order b (handles nodup) (held p holds)
    rw [order, stays, same, queues]
  · have within : Within (touches c) s t := exec_within_of_not_serves (by cases c <;> first | rfl | exact absurd plain Bool.false_ne_true) run
    have apart : Block.calendar ∉ touches c ∧ Block.retirement ∉ touches c := by
      cases c <;> first
        | exact absurd rfl retires
        | exact absurd plain Bool.false_ne_true
        | (dsimp only [touches]; decide)
    have none_ : (t.entriesFrom p).filter (Entry.decidedSince s) = [] := by
      refine List.filter_eq_nil_iff.mpr fun e he => ?_
      have mem : e ∈ s.calendar := within .calendar apart.1 ▸ List.mem_of_mem_filter he
      rw [Entry.decidedSince_iff]
      rintro ⟨has, fresh⟩
      rw [fresh e mem rfl] at has
      cases has
    rw [none_, within .retirement apart.2]
    exact (List.append_nil _).symm

end Sys2Proof.Machine
end

section
/-! PROOFS. Every outcome stands with its record, and an exchange in flight is of a CONFIRMING entry (R22 to R24, R87): the
changes of the calendar. -/

namespace Sys2Proof.Machine

variable {s t u : State} {ph : Phase} {h : Nat} {e x : Entry}

/-! ### One entry -/

/-- An outcome comes to an entry with every part finished, by R23's table, and R24's record with it; only the time-stepped
flag may be set later. -/
def Entry.Recorded (e : Entry) : Prop :=
  (e.record.isSome = true → e.outcome.isSome = true) ∧
    ∀ o, e.outcome = some o → e.allFinished = true ∧ outcomeByTable e o ∧
      ∃ stepped, e.record = some (outcomeRecord { e with timeStepped := stepped } o)

theorem Entry.Recorded.of_open (h : e.Recorded) (open_ : x.outcome = none) (record : x.record = e.record)
    (before : e.outcome = none) : x.Recorded := by
  refine ⟨fun some_ => ?_, fun o decided => ?_⟩
  · rw [record] at some_
    have decided := h.1 some_
    rw [before] at decided
    cases decided
  · rw [open_] at decided
    cases decided

theorem Entry.Recorded.undecided (h : e.Recorded) (open_ : (e.parts.get ph).state ≠ .finished) : e.outcome = none := by
  cases outcome : e.outcome with
  | none => rfl
  | some o => exact absurd ((Entry.allFinished_iff e).mp (h.2 o outcome).1 ph) open_

theorem Entry.recorded_retired (ended : e.allFinished = true) : e.retired.Recorded := by
  refine ⟨fun _ => rfl, fun o decided => ?_⟩
  obtain rfl : e.decided = o := Option.some.inj decided
  refine ⟨ended, (outcomeByTable_iff e e.decided).mpr rfl, e.timeStepped, ?_⟩
  rw [Entry.retired_eq]
  rfl

/-! ### The calendar and the exchanges in flight -/

/-- Handles are held once, every outcome stands with its record, and an exchange in flight is of a CONFIRMING entry. -/
def Fine (s : State) : Prop :=
  s.handles.Nodup ∧ (∀ e ∈ s.calendar, e.Recorded) ∧
    ∀ ph h, s.exchangeOf h ph = true → ∃ e ∈ s.entry? h, e.confirming = true

theorem State.exchangeOf_iff (s : State) (h : Nat) (ph : Phase) :
    s.exchangeOf h ph = true ↔ ∃ x, (s.chan ph).work = some (.exchange x) ∧ x.owner = .confirm (some h) := by
  unfold State.exchangeOf
  split
  · rename_i x work
    rw [work]
    split
    · rename_i o owner
      simp only [Option.some.injEq, Work.exchange.injEq, exists_eq_left', owner, ExchangeOwner.confirm.injEq, beq_iff_eq]
    · rename_i other
      refine ⟨fun h => absurd h Bool.false_ne_true, ?_⟩
      rintro ⟨y, same, owner⟩
      cases same
      exact absurd owner (other _)
  · rename_i other
    refine ⟨fun h => absurd h Bool.false_ne_true, ?_⟩
    rintro ⟨y, same, -⟩
    exact absurd same (other y)

/-- The calendar stays, and no exchange starts. -/
theorem Fine.of_same (same : t.calendar = s.calendar) (less : ∀ h ph, t.exchangeOf h ph = true → s.exchangeOf h ph = true)
    (fine : Fine s) : Fine t := by
  obtain ⟨nodup, recorded, own⟩ := fine
  unfold Fine State.handles
  rw [same]
  refine ⟨nodup, recorded, fun ph h flies => ?_⟩
  rw [State.entry?_of_same same]
  exact own ph h (less h ph flies)

theorem Fine.of_within {bs : List Block} (within : Within bs s t) (apart : Block.calendar ∉ bs ∧ Block.channels ∉ bs)
    (fine : Fine s) : Fine t := by
  refine fine.of_same (within .calendar apart.1) fun h ph flies => ?_
  unfold State.exchangeOf at flies ⊢
  rwa [State.chan_of_within within apart.2] at flies

theorem Fine.undecided (fine : Fine s) (flies : s.exchangeOf h ph = true) : s.Undecided h := by
  obtain ⟨e, found, confirming⟩ := fine.2.2 ph h flies
  exact fun x hx => Option.some.inj (Eq.trans (Eq.symm found) hx) ▸ ((Entry.confirming_iff e).mp confirming).1

/-- An entry changes, with its outcome as it stands, or decided where no exchange of it is in flight. -/
theorem Fine.modEntry (fine : Fine s) (h : Nat) {f : Entry → Entry} (kept : ∀ e, (f e).handle = e.handle)
    (change : ∀ e, s.entry? h = some e → e.Recorded →
      (f e).Recorded ∧ ((∃ ph, s.exchangeOf h ph = true) → e.confirming = true → (f e).confirming = true)) :
    Fine (s.modEntry h f) := by
  obtain ⟨nodup, recorded, own⟩ := fine
  refine ⟨?_, fun x hx => ?_, fun ph k flies => ?_⟩
  · unfold State.handles at *
    rwa [State.handles_modEntry kept]
  · obtain ⟨hx, -⟩ | ⟨e, found, rfl⟩ := State.mem_modEntry nodup hx
    · exact recorded x hx
    · exact (change e found (recorded e (State.entry?_mem found))).1
  · obtain ⟨e, found, confirming⟩ := own ph k flies
    by_cases here : k = h
    · subst here
      exact ⟨f e, State.entry?_modEntry_self kept found,
        (change e found (recorded e (State.entry?_mem found))).2 ⟨ph, flies⟩ confirming⟩
    · exact ⟨e, (State.entry?_modEntry_ne kept here).trans found, confirming⟩

/-- A part that has not finished changes. -/
theorem Fine.modPart (fine : Fine s) (h : Nat) (ph : Phase) (f : Part → Part)
    (open_ : ∀ e, s.entry? h = some e → (e.parts.get ph).state ≠ .finished) : Fine (s.modPart h ph f) := by
  refine fine.modEntry h (fun _ => rfl) fun e found recorded => ?_
  have undecided := recorded.undecided (open_ e found)
  refine ⟨recorded.of_open undecided rfl undecided, fun _ confirming => ?_⟩
  exact absurd ((Entry.allFinished_iff e).mp ((Entry.confirming_iff e).mp confirming).2.1 ph) (open_ e found)

/-- A channel's work stays, or ends. -/
theorem Fine.modChan (fine : Fine s) (ph : Phase) {f : Channel → Channel}
    (work : (f (s.chan ph)).work = (s.chan ph).work ∨ (f (s.chan ph)).work = none) : Fine (s.modChan ph f) := by
  refine Fine.of_same (s := s) rfl (fun h k flies => ?_) fine
  rw [State.exchangeOf_iff] at flies ⊢
  by_cases here : k = ph
  · subst here
    rw [State.chan_modChan_self] at flies
    obtain same | ended := work
    · rwa [same] at flies
    · rw [ended] at flies
      obtain ⟨x, none_, -⟩ := flies
      cases none_
  · rwa [State.chan_modChan_ne _ _ here] at flies

/-- An entry with its record leaves the calendar. -/
theorem Fine.remove (fine : Fine s) (calendar : t.calendar = s.calendar.filter (fun e => e.handle != h))
    (channels : t.channels = s.channels) (decided : ∀ e, s.entry? h = some e → e.outcome.isSome = true) : Fine t := by
  obtain ⟨nodup, recorded, own⟩ := fine
  have handles : t.handles.Nodup := by
    unfold State.handles
    rw [calendar]
    exact nodup.sublist (List.filter_sublist.map _)
  refine ⟨handles, fun x hx => recorded x (List.mem_of_mem_filter (calendar ▸ hx)), fun ph k flies => ?_⟩
  have flies : s.exchangeOf k ph = true := by
    unfold State.exchangeOf State.chan at flies ⊢
    rwa [channels] at flies
  obtain ⟨e, found, confirming⟩ := own ph k flies
  have handle : e.handle = k := State.entry?_handle found
  refine ⟨e, ?_, confirming⟩
  have apart : e.handle ≠ h := fun same => by
    have some_ := decided e ((handle.symm.trans same) ▸ found)
    rw [((Entry.confirming_iff e).mp confirming).1] at some_
    cases some_
  rw [← handle]
  exact State.entry?_of_mem handles (calendar ▸ List.mem_filter.mpr ⟨State.entry?_mem found, by simpa using apart⟩)

/-! ### The calendar's operations -/

theorem Fine.finishPart (fine : Fine s) (h : Nat) (ph : Phase) (f : Finish)
    (open_ : ∀ e, s.entry? h = some e → (e.parts.get ph).state ≠ .finished) : Fine (s.finishPart h ph f) := by
  obtain ⟨needed, calendar⟩ := s.finishPart_calendar h ph f
  refine (fine.modPart h ph (·.finished f needed) open_).of_same calendar fun k q flies => ?_
  unfold State.exchangeOf at flies ⊢
  rwa [State.chan_of_within (s.finishPart_within h ph f) (by decide)] at flies

theorem State.replanned_of_ended (ended : e.allFinished = true) : s.replanned e = e := by
  have part (ph : Phase) : (e.parts.get ph).unstarted = false := by
    rw [Part.unstarted, (Entry.allFinished_iff e).mp ended ph]
    rfl
  unfold State.replanned
  simp only [part, Bool.false_eq_true, if_false]
  rfl

theorem fine_calEdits : CalEdits (fun s t => Fine s → Fine t) where
  refl _ := id
  trans h k := k ∘ h
  offer s p k c := .of_within (s.offer_within p _) (by decide)
  mark s h f noted progress marked fine := by
    refine fine.modEntry h (fun e => Entry.fixed_handle (noted.fixed e)) fun e found recorded => ⟨?_, fun _ confirming => ?_⟩
    · obtain open_ | same := marked e found
      · exact recorded.of_open (by rw [noted e]; exact open_) (by rw [noted e]) open_
      · rw [same]
        exact recorded
    · obtain ⟨open_, ended, some_⟩ := (Entry.confirming_iff e).mp confirming
      refine (Entry.confirming_iff _).mpr ⟨by rw [noted e]; exact open_, by rw [noted e]; exact ended, ?_⟩
      obtain same | ⟨-, -, has⟩ := progress e found
      · rwa [same]
      · exact has
  conclude s h e found ended free fine := by
    refine fine.modEntry h (fun e => by split <;> rfl) fun x hx recorded => ?_
    cases Option.some.inj (hx.symm.trans found)
    refine ⟨?_, fun flies confirming => ?_⟩
    · split
      · exact recorded
      · exact Entry.recorded_retired ended
    · obtain none_ | none_ := free
      · have some_ := ((Entry.confirming_iff e).mp confirming).2.2
        rw [none_] at some_
        cases some_
      · exact absurd ((s.anyExchangeOf_iff h).mpr flies) (by rw [none_]; decide)
  finish s h ph f needed e found waits fine := fine.modPart h ph _ fun x hx => by
    cases Option.some.inj (hx.symm.trans found)
    intro ended
    rw [Part.unstarted, ended] at waits
    cases waits
  stop s h ph f e found state fine := by
    refine (fine.finishPart h ph f fun x hx => ?_).modChan ph (.inl (Channel.giveUp_work _ h))
    cases Option.some.inj (hx.symm.trans found)
    intro ended
    rw [ended] at state
    obtain state | ⟨state, -⟩ := state <;> cases state
  ready s h ph e found waiting fine := fine.modPart h ph _ fun x hx => by
    cases Option.some.inj (hx.symm.trans found)
    rw [waiting]
    decide
  wait s h ph e found ready fine := fine.modPart h ph _ fun x hx => by
    cases Option.some.inj (hx.symm.trans found)
    rw [ready]
    decide
  replan s h fine := by
    refine fine.modEntry h (fun _ => rfl) fun e found recorded => ?_
    by_cases ended : e.allFinished = true
    · have same : s.replanned e = e := State.replanned_of_ended ended
      rw [same]
      exact ⟨recorded, fun _ => id⟩
    · have undecided : e.outcome = none := by
        cases outcome : e.outcome with
        | none => rfl
        | some o => exact absurd (recorded.2 o outcome).1 ended
      exact ⟨recorded.of_open undecided rfl undecided,
        fun _ confirming => absurd ((Entry.confirming_iff e).mp confirming).2.1 ended⟩

/-! ### The counts of a confirmation (R73, R82 to R87) -/

theorem fine_tallies (h : Nat) : Tallies h (fun s t => s.Undecided h ∧ Fine s → t.Undecided h ∧ Fine t) where
  refl _ := id
  trans h k := k ∘ h
  tally s f noted map := by
    rintro ⟨open_, fine⟩
    refine ⟨open_.modEntry fun e => ⟨Entry.fixed_handle (noted.fixed e), by rw [noted e]⟩, ?_⟩
    refine fine_calEdits.markOpen noted (fun e _ => ?_) open_ fine
    obtain ⟨g, same⟩ := map e
    exact .of_map same

/-- An exchange of an entry without an outcome is counted. -/
theorem Fine.countExchange (fine : Fine s) (open_ : s.Undecided h) (ph : Phase) (x : Exchange)
    (reply : Option (Option Byte)) : Fine (s.countExchange h ph x reply) := by
  obtain ⟨t, counted, eq⟩ := (fine_tallies h).countExchange s ph x reply
  rw [eq]
  exact fine_calEdits.settleConfirm t h (counted ⟨open_, fine⟩).2

theorem State.Undecided.of_entry (open_ : s.Undecided h) (same : t.entry? h = s.entry? h) : t.Undecided h :=
  fun e found => open_ e (same ▸ found)

/-- Confirmation ends on the phase of a channel that halts (R73). -/
theorem Fine.haltConfirmations (fine : Fine s) (ph : Phase) : Fine (s.haltConfirmations ph) := by
  have ends : ∀ (l : List Entry) (s : State), (l.map (·.handle)).Nodup → (∀ e ∈ l, s.Undecided e.handle) → Fine s →
      Fine (l.foldl (State.endFor ph) s) := by
    intro l
    induction l with
    | nil => exact fun s _ _ fine => fine
    | cons e rest ih =>
        intro s distinct open_ fine
        obtain ⟨first, others⟩ := List.nodup_cons.mp distinct
        refine ih _ others (fun x hx => ?_) ?_
        · refine (open_ x (List.mem_cons_of_mem e hx)).of_entry ((Edits.endFor s ph e).entry?_ne fun same => first ?_)
          exact List.mem_map.mpr ⟨x, hx, same⟩
        · have ended := (fine_tallies e.handle).endPhase s s ph ⟨open_ e List.mem_cons_self, fine⟩
          exact fine_calEdits.settleConfirm _ e.handle ended.2
  refine ends _ s (fine.1.sublist (List.filter_sublist.map _)) (fun e he x hx => ?_) fine
  obtain ⟨mem, goes⟩ := List.mem_filter.mp he
  rw [Bool.and_eq_true, Bool.and_eq_true] at goes
  exact Option.some.inj ((State.entry?_of_mem fine.1 mem).symm.trans hx) ▸ ((Entry.confirming_iff e).mp goes.1.1).1

/-! ### Retirement and removal (R26, R31, R172) -/

theorem Fine.queueHeld (fine : Fine s) (p : Port) (o : HeldOwner) : Fine (s.queueHeld p o) := by
  unfold State.queueHeld
  split
  · rename_i i item
    have pushed : Fine (s.pushItem p i) := fine.of_within (State.pushItem_ports s p i).within (by decide)
    cases o with
    | outcome h =>
        refine pushed.remove (h := h) rfl rfl fun e found => ?_
        have found : s.entry? h = some e := (State.entry?_of_same (by rw [State.pushItem_ports])).symm.trans found
        refine (fine.2.1 e (State.entry?_mem found)).1 ?_
        unfold State.heldItem at item
        dsimp only at item
        rw [found] at item
        obtain ⟨r, recorded, -⟩ := Option.map_eq_some_iff.mp item
        rw [Option.bind_some] at recorded
        rw [recorded]
        rfl
    | ping | storeDone | survey => exact pushed.of_same rfl fun _ _ => id
  · exact fine

theorem Fine.joinRetirement (fine : Fine s) (h : Nat) : Fine (s.joinRetirement h) := by
  unfold State.joinRetirement
  split
  · rename_i e _
    have joined : Fine { s with retirement := s.retirement.set e.origin (s.retirement.get e.origin ++ [h]) } :=
      Fine.of_same (s := s) rfl (fun _ _ => id) fine
    unfold State.offerHeld
    split
    · exact joined.queueHeld _ _
    · exact joined.of_within (State.modPort_ports _ _ _).within (by decide)
  · exact fine

/-- A clock step marks entries that have a sequence (R18). -/
theorem Fine.timeStep (fine : Fine s) : Fine
    { s with calendar := s.calendar.map (fun (e : Entry) => { e with timeStepped := e.timeStepped || e.sequence.isSome }) } := by
  obtain ⟨nodup, recorded, own⟩ := fine
  have nodup' : ((s.calendar.map
      (fun (e : Entry) => { e with timeStepped := e.timeStepped || e.sequence.isSome })).map (·.handle)).Nodup := by
    rw [List.map_map]
    exact nodup
  refine ⟨nodup', fun x hx => ?_, fun ph h flies => ?_⟩
  · obtain ⟨e, he, rfl⟩ := List.mem_map.mp hx
    exact recorded e he
  · obtain ⟨e, found, confirming⟩ := own ph h flies
    refine ⟨{ e with timeStepped := e.timeStepped || e.sequence.isSome }, ?_, confirming⟩
    rw [← State.entry?_handle found]
    exact State.entry?_of_mem (s := { s with calendar := _ }) nodup' (List.mem_map_of_mem (State.entry?_mem found))

/-- An entry is admitted, its handle not in use and no outcome decided (R11). -/
theorem Fine.joins (fine : Fine s) (calendar : t.calendar = insertEntry x s.calendar) (channels : t.channels = s.channels)
    (fresh : x.handle ∉ s.handles) (open_ : x.outcome = none) (record : x.record = none) : Fine t := by
  obtain ⟨nodup, recorded, own⟩ := fine
  have nodup' : t.handles.Nodup := by
    unfold State.handles
    rw [calendar, ((insertEntry_perm x s.calendar).map _).nodup_iff]
    exact List.nodup_cons.mpr ⟨fresh, nodup⟩
  refine ⟨nodup', fun y hy => ?_, fun ph h flies => ?_⟩
  · obtain rfl | hy := mem_insertEntry.mp (calendar ▸ hy)
    · refine ⟨fun some_ => ?_, fun o decided => ?_⟩
      · rw [record] at some_
        cases some_
      · rw [open_] at decided
        cases decided
    · exact recorded y hy
  · have flies : s.exchangeOf h ph = true := by
      unfold State.exchangeOf State.chan at flies ⊢
      rwa [channels] at flies
    obtain ⟨e, found, confirming⟩ := own ph h flies
    refine ⟨e, ?_, confirming⟩
    rw [← State.entry?_handle found]
    exact State.entry?_of_mem nodup' (calendar ▸ mem_insertEntry.mpr (.inr (State.entry?_mem found)))

/-- The entries of a port leave, and its exchanges go on for no entry (R31, R77). -/
theorem Fine.resetOwned (fine : Fine s) (p : Port) : Fine (s.resetOwned p) := by
  obtain ⟨nodup, recorded, own⟩ := fine
  have calendar : (s.resetOwned p).calendar = s.calendar.filter (fun e => e.origin != p) := rfl
  have chan (ph : Phase) : (s.resetOwned p).chan ph = (s.chan ph).releaseOwned (s.ownedBy p) := by cases ph <;> rfl
  have nodup' : (s.resetOwned p).handles.Nodup := nodup.sublist (List.filter_sublist.map _)
  refine ⟨nodup', fun x hx => recorded x (List.mem_of_mem_filter hx), fun ph h flies => ?_⟩
  obtain ⟨x, work, owner⟩ := (State.exchangeOf_iff _ h ph).mp flies
  rw [chan, ((s.chan ph).releaseOwned_parts (s.ownedBy p)).2.2] at work
  obtain ⟨w, before, orphan⟩ := Option.map_eq_some_iff.mp work
  obtain ⟨y, rfl, free, owner'⟩ : ∃ y, w = .exchange y ∧ s.ownedBy p h = false ∧ y.owner = .confirm (some h) := by
    cases w with
    | flood f => cases orphan
    | probe r => cases orphan
    | exchange y =>
        refine ⟨y, rfl, ?_⟩
        unfold Work.orphan at orphan
        dsimp only at orphan
        split at orphan
        · rename_i o confirm
          cases orphan
          obtain ⟨here, free⟩ := Option.mem_filter_iff.mp (show h ∈ o.filter _ from ExchangeOwner.confirm.inj owner)
          exact ⟨by simpa using free, by rw [confirm, Option.mem_def.mp here]⟩
        · rename_i other
          cases orphan
          exact absurd owner (other _)
  obtain ⟨e, found, confirming⟩ := own ph h ((s.exchangeOf_iff h ph).mpr ⟨y, before, owner'⟩)
  refine ⟨e, ?_, confirming⟩
  rw [State.ownedBy_eq found] at free
  rw [← State.entry?_handle found]
  exact State.entry?_of_mem nodup' (calendar ▸ List.mem_filter.mpr ⟨State.entry?_mem found, by simpa using free⟩)

end Sys2Proof.Machine
end

section
/-! PROOFS. Every outcome stands with its record, and an exchange in flight is of a CONFIRMING entry (R22 to R24, R87): the
events of the channels, and every step. -/

namespace Sys2Proof.Machine

variable {s t u : State} {ph : Phase} {h : Nat} {e : Entry}

/-! ### Work that starts (R64, R65, R70, R81) -/

/-- A channel floods a part, and the others keep their work. -/
theorem Fine.flooded (fine : Fine s) (same : t.calendar = s.calendar) (seats : (t.chan ph).Seats h)
    (others : ∀ q ≠ ph, t.chan q = s.chan q) : Fine t := by
  refine fine.of_same same fun k q flies => ?_
  by_cases here : q = ph
  · subst here
    obtain ⟨-, f, flood, -⟩ := seats
    obtain ⟨x, work, -⟩ := (t.exchangeOf_iff k q).mp flies
    cases Option.some.inj (flood.symm.trans work)
  · unfold State.exchangeOf at flies ⊢
    rwa [others q here] at flies

theorem Fine.sendRepeat (fine : Fine s) (found : s.entry? h = some e) (open_ : (s.chan ph).openPart = some h) :
    Fine (s.sendRepeat h ph) := by
  obtain ⟨own, -, flood, others⟩ := State.sendRepeat_chan found ph
  exact fine.flooded (s.sendRepeat_calendar h ph) ⟨own.trans open_, flood⟩ others

theorem Fine.startPart (fine : Fine s) (found : s.entry? h = some e) (ready : (e.parts.get ph).state = .ready) :
    Fine (s.startPart h ph) := by
  obtain ⟨⟨sequence, calendar⟩, seats, -, others⟩ := State.startPart_eq found ph
  refine Fine.flooded (s := s.modEntry h (fun x => x.begunPart ph (s.crossingNow ph) (sequence x))) ?_ calendar seats others
  refine fine.modEntry h (fun _ => rfl) fun x hx recorded => ?_
  cases Option.some.inj (hx.symm.trans found)
  have open_ : (e.parts.get ph).state ≠ .finished := by
    rw [ready]
    decide
  refine ⟨recorded.of_open (recorded.undecided open_) rfl (recorded.undecided open_), fun _ confirming => ?_⟩
  exact absurd ((Entry.allFinished_iff e).mp ((Entry.confirming_iff e).mp confirming).2.1 ph) open_

theorem Fine.resumePart (fine : Fine s) (found : s.entry? h = some e) (suspended : (e.parts.get ph).state = .suspended) :
    Fine (s.resumePart h ph) := by
  obtain ⟨calendar, seats, -, others⟩ := State.resumePart_seats found ph
  refine (fine.modPart h ph (fun p => { p with state := .sending }) fun x hx => ?_).flooded calendar seats others
  cases Option.some.inj (hx.symm.trans found)
  rw [suspended]
  decide

/-- A frame of an exchange or a probe starts, an exchange of an entry where that is CONFIRMING. -/
theorem Fine.transmit (fine : Fine s) (ph : Phase) {w : Work}
    (own : ∀ x k, w = .exchange x → x.owner = .confirm (some k) → ∃ e ∈ s.entry? k, e.confirming = true) :
    Fine (s.transmit ph w) := by
  refine ⟨fine.1, fine.2.1, fun q k flies => ?_⟩
  by_cases here : q = ph
  · subst here
    obtain ⟨x, work, owner⟩ := (State.exchangeOf_iff _ k q).mp flies
    rw [State.transmit_chan_self] at work
    exact own x k (Option.some.inj work) owner
  · unfold State.exchangeOf at flies
    rw [State.transmit_chan_ne s w here] at flies
    exact fine.2.2 q k flies

/-- The arbiter chooses an exchange for a CONFIRMING entry (R62). -/
theorem Fine.chosen_confirm (fine : Fine s) (chosen : s.choose ph = some (.confirm h)) :
    ∃ e ∈ s.entry? h, e.confirming = true := by
  have byClass := s.choose_byClass ph
  rw [chosen] at byClass
  obtain ⟨-, e, rfl, mem, confirming, -⟩ := byClass
  exact ⟨e, State.entry?_of_mem fine.1 mem, confirming⟩

theorem Starts.fine {c : Choice} (coherent : Coherent s) (fine : Fine s) (chosen : s.choose ph = some c)
    (h : Starts s ph c t) : Fine t := by
  cases h with
  | part h =>
      obtain ⟨e, he, handle, ready, -⟩ := State.chosen_part chosen
      exact fine.startPart (handle ▸ State.entry?_of_mem fine.1 he) ready
  | resume h =>
      obtain ⟨e, found, suspended⟩ := (coherent.1.2.2 ph).1.2 h (State.choose_resume chosen)
      exact fine.resumePart found suspended
  | confirm h =>
      refine fine.transmit ph fun x k same owner => ?_
      cases same
      cases owner
      exact fine.chosen_confirm chosen
  | ping =>
      refine (fine.of_within (s.modPings_within ph _) (by decide)).transmit ph fun x k same owner => ?_
      cases same
      cases owner
  | registration =>
      refine (fine.of_within (s.modDisc_within ph _) (by decide)).transmit ph fun x k same owner => ?_
      cases same
      cases owner
  | probe =>
      exact (fine.of_within (s.modDisc_within ph _) (by decide)).transmit ph fun x k same _ => nomatch same

theorem GoesOn.fine {c : Choice} (fine : Fine s) (chosen : s.choose ph = some c) (h : GoesOn s ph c t) : Fine t := by
  have open_ (h : Nat) (chosen : s.choose ph = some (.confirm h)) : s.Undecided h := by
    obtain ⟨e, found, confirming⟩ := fine.chosen_confirm chosen
    exact fun x hx => Option.some.inj (Eq.trans (Eq.symm found) hx) ▸ ((Entry.confirming_iff e).mp confirming).1
  cases h with
  | idle => exact fine
  | notReached h =>
      exact fine_calEdits.settleConfirm _ h ((fine_tallies h).decideUnit s ph _ ⟨open_ h chosen, fine⟩).2
  | unconfirmed h =>
      exact fine_calEdits.settleConfirm _ h ((fine_tallies h).decideUnconfirmed s ph _ ⟨open_ h chosen, fine⟩).2
  | notSent => exact fine.of_within (s.completeQueued_within ph _) (by decide)
  | discarded => exact fine.of_within (s.modDisc_within ph _) (by decide)
  | origin =>
      exact fine.of_within ((s.modDisc_within ph _).then (ds := [.discovery]) (State.advanceOrigin_within _ ph) (by decide))
        (by decide)

/-! ### Parts that give way or finish (R67, R69) -/

/-- A channel's open part has not finished. -/
theorem Core.openPart_ne (core : Core s) (open_ : (s.chan ph).openPart = some h) (found : s.entry? h = some e) :
    (e.parts.get ph).state ≠ .finished := by
  rw [core.openPart open_ found]
  decide

theorem Fine.suspend (fine : Fine s) (core : Core s) (open_ : (s.chan ph).openPart = some h) : Fine (s.suspend h ph) :=
  (fine.modPart h ph _ fun _ found => core.openPart_ne open_ found).modChan ph (.inl rfl)

theorem Fine.finishOpen (fine : Fine s) (core : Core s) (open_ : (s.chan ph).openPart = some h) (p : Part) :
    Fine (s.finishOpen h ph p) := by
  refine fine_calEdits.settleEntry _ h ?_
  exact (fine.modChan ph (.inl rfl)).finishPart h ph _ fun _ found => core.openPart_ne open_ found

/-- A channel that gives its open part up for urgent work starts that (R69). -/
theorem Fine.giveWay (fine : Fine s) (core : Core s) (open_ : (s.chan ph).openPart = some h) (found : s.entry? h = some e)
    (routine : e.cls = .routine) (due : s.urgentDue ph = true) :
    Fine (State.arbitrate arbiterRounds ph (s.suspend h ph)) := by
  obtain ⟨k, chosen⟩ := State.choose_suspend core.1 found (core.openPart open_ found) routine due
  obtain ⟨x, hx, handle, ready, -⟩ := State.chosen_part chosen
  have aside := fine.suspend core open_
  have starts : State.arbitrate arbiterRounds ph (s.suspend h ph) = (s.suspend h ph).startPart k ph :=
    State.arbitrate_started (n := 255) chosen rfl
  rw [starts]
  exact aside.startPart (handle ▸ State.entry?_of_mem aside.1 hx) ready

/-! ### Every event -/

/-- The calendar stays coherent and every outcome stands with its record. -/
def Records (s t : State) : Prop := Coherent s ∧ Fine s → Coherent t ∧ Fine t

theorem Orderly.records (h : Orderly s t) (fine : Coherent s → Fine s → Fine t) : Records s t := fun ⟨coherent, recorded⟩ =>
  ⟨(h coherent).1, fine coherent recorded⟩

theorem records_lineKeeps : LineKeeps Records where
  refl _ := id
  trans h k := k ∘ h
  offer s p k c := (orderly_lineKeeps.offer s p k c).records fun _ => fine_calEdits.offer s p k c
  join s h := (orderly_lineKeeps.join s h).records fun _ fine => fine.joinRetirement h
  mark s h f noted progress marked :=
    (orderly_lineKeeps.mark s h f noted progress marked).records fun _ => fine_calEdits.mark s h f noted progress marked
  conclude s h e found ended free :=
    (orderly_lineKeeps.conclude s h e found ended free).records fun _ => fine_calEdits.conclude s h e found ended free
  review s recomputes test cutOff :=
    (orderly_lineKeeps.review s recomputes test cutOff).records fun _ => fine_calEdits.review s recomputes test cutOff
  withdraw s h open_ := (orderly_lineKeeps.withdraw s h open_).records fun _ => fine_calEdits.cancelled s h open_
  reach s h ph := (orderly_lineKeeps.reach s h ph).records fun _ => fine_calEdits.reviews.reach s h ph
  reread s h := (orderly_lineKeeps.reread s h).records fun _ => fine_calEdits.reviews.reread s h
  coherent h both := h both.1 both
  keeps {s t} same channels := (orderly_lineKeeps.keeps same channels).records fun _ fine => by
    refine fine.of_same same fun k ph flies => ?_
    obtain ⟨x, work, owner⟩ := (t.exchangeOf_iff k ph).mp flies
    obtain ⟨y, before, kept⟩ := (channels ph).2 x work
    exact (s.exchangeOf_iff k ph).mpr ⟨y, before, kept.trans owner⟩
  starts s ph c t chosen h := (h.orderly chosen).records fun coherent fine => h.fine coherent fine chosen
  goesOn s ph c t chosen h := h.orderly.records fun _ fine => h.fine fine chosen
  send s h ph open_ := (orderly_lineKeeps.send s h ph open_).records fun coherent fine => by
    obtain ⟨e, found, -⟩ := (coherent.1.2.2 ph).1.1 h open_
    exact fine.sendRepeat found open_
  giveWay s h ph e open_ found routine due :=
    (Orderly.giveWay open_ found routine due).records fun coherent fine => fine.giveWay coherent.1 open_ found routine due
  stopped s h ph := (orderly_lineKeeps.stopped s h ph).records fun _ fine =>
    fine_calEdits.settleEntry _ h (fine_calEdits.stopPart s h ph fine)
  suspend s h ph open_ work := (Orderly.suspend open_ work).records fun coherent fine => fine.suspend coherent.1 open_
  finishOpen s h ph p open_ work :=
    (Orderly.finishOpen open_ work p).records fun coherent fine => fine.finishOpen coherent.1 open_ p
  sent s h ph open_ := (Orderly.sent open_).records fun coherent fine =>
    fine.modPart h ph _ fun _ found => coherent.1.openPart_ne open_ found
  haltConfirmations s ph := (orderly_lineKeeps.haltConfirmations s ph).records fun _ fine => fine.haltConfirmations ph
  count s h ph x reply work owner := (orderly_lineKeeps.count s h ph x reply work owner).records fun _ fine =>
    (fine.modChan ph (.inr rfl)).countExchange (fine.undecided ((s.exchangeOf_iff h ph).mpr ⟨x, work, owner⟩)) ph x reply
  timeStep s := (orderly_lineKeeps.timeStep s).records fun _ fine => fine.timeStep
  queueHeld s p o := (orderly_lineKeeps.queueHeld s p o).records fun _ fine => fine.queueHeld p o
  joined s p tag a x c accepted := (orderly_lineKeeps.joined s p tag a x c accepted).records fun _ fine =>
    fine.joins rfl rfl (State.assignHandle_fresh (State.room_of_submitRefusal accepted).1) rfl rfl
  resetOwned s p := (orderly_lineKeeps.resetOwned s p).records fun _ fine => fine.resetOwned p

theorem outcomesRecorded_iff (s : State) : OutcomesRecorded s ↔ Coherent s ∧ Fine s := by
  unfold OutcomesRecorded Fine
  rw [calendarCoherent_iff]
  refine and_congr_right fun ⟨⟨nodup, sane, _⟩, _⟩ => ?_
  constructor
  · rintro ⟨own, recorded⟩
    refine ⟨nodup, fun e he => ⟨(sane e he).2.1, fun o decided => ?_⟩, own⟩
    exact ⟨(sane e he).1 (.inl (by rw [decided]; rfl)), recorded e he o decided⟩
  · rintro ⟨-, recorded, own⟩
    exact ⟨own, fun e he o decided => ((recorded e he).2 o decided).2⟩

theorem fine_of_empty (empty : s.calendar = []) (channels : s.channels = State.bare.channels) : Fine s := by
  have none_ {e : Entry} : e ∉ s.calendar := by
    rw [empty]
    exact List.not_mem_nil
  refine ⟨?_, fun e he => absurd he none_, fun ph h flies => ?_⟩
  · unfold State.handles
    rw [empty]
    exact List.nodup_nil
  · unfold State.exchangeOf State.chan at flies
    rw [channels] at flies
    cases ph <;> cases flies

/-- Every step keeps the records of the outcomes (R22 to R24). -/
theorem OutcomesRecorded.step (recorded : OutcomesRecorded s) (run : Machine.step s = .next t) : OutcomesRecorded t := by
  refine (outcomesRecorded_iff t).mpr (records_lineKeeps.eventKeeps.step (fun s a b f _ => ?_)
    ((outcomesRecorded_iff s).mp recorded) run)
  have empty := s.startUp_calendar a b f
  have bare := s.startUp_rest a b f .channels (by decide)
  exact ⟨(orderly_of_empty empty bare).1, fine_of_empty empty bare⟩

/-! ### The obligation -/

theorem Entry.floodFinished_eq (e : Entry) (ph : Phase) (f : Finish) (needed : Bool) :
    e.floodFinished ph f needed =
      { e with
        parts := e.parts.set ph
          { e.parts.get ph with
            sent := (e.parts.get ph).sent + 1, state := .finished, finish := some f, finishNeeded := needed } } := by
  cases ph <;> rfl

/-- Settles O53: every event keeps the records of the outcomes and leaves exchanges in flight to CONFIRMING entries; the
entries one event decides are folded over in calendar order; and the flood of a last part decides its entry's outcome before
the line drains. -/
theorem outcomesFollowTheTableAndJoinInOrder : Obligations.OutcomesFollowTheTableAndJoinInOrder := by
  refine ⟨fun s t recorded run => recorded.step run, fun c s t p nodup holds plain run => ?_, ?_⟩
  · intro newly
    have plain : joinsInOrder c = true := by
      cases c <;> first | rfl | exact plain.elim
    rw [exec_retirement plain nodup holds run, ← decidedSince_filter s t p]
  · intro ph s f h e c p work spent entry found _ nodup _ last undecided unconfirmed ends finishes goes line finish ended noted
      drained
    have decided := floodEnd_last work spent entry found nodup last undecided unconfirmed ends finishes goes line
      (Part.startedFinish_sent p)
    rw [Entry.floodFinished_eq] at decided
    exact decided

end Sys2Proof.Machine
end
